-- ==== Sys2Proof/Word.lean ====
section
/-! DEFINITION. The word types of the OQ63: what its line, its records and its counters carry. -/

namespace Sys2Proof

/-- One byte of the serial line (R162). -/
abbrev Byte := BitVec 8

/-- A two-byte quantity of a payload: a field number as carried, a set of event kinds (R175). -/
abbrev Half := BitVec 16

/-- A signed 32-bit value or limit, two's complement (00_scope section 5.1). -/
abbrev Word := BitVec 32

/-- A frame number: 32 bits wide, wrapping (00_scope section 5.2, R103). -/
abbrev FrameNo := BitVec 32

/-- A palette index 0..15 (00_scope section 5.3). -/
abbrev Nibble := BitVec 4

end Sys2Proof
end

