-- ==== Sys2Proof/Config.lean ====
section
/-! DEFINITION. What the manual leaves open, as constants with no body: no proof can see their values. -/

namespace Sys2Proof

/-- FREE VALUE: the k-th choice the manual leaves open (the order of two occurrences handed over in one step, or of a
REFUSED reply and the NOTICE of the same take). Assumption log 5 and 6. -/
opaque Config.openChoice : Nat → Nat

/-- FREE VALUE: how many bit times of the frame being sent have passed when a reset cuts it off. The model holds no time within
a frame being sent. Assumption log 14. -/
opaque Config.bitTimesSent : Nat → Nat

/-- FREE VALUE: the numbers from which the places of the lines of the substitute box, glyph 0x7F, are taken. R91 says that it is
a hollow rectangle, and not where its lines stand. Assumption log 7. -/
opaque Config.substituteBox : Nat → Nat

/-- FREE VALUE: whether the pattern of a glyph code lights the pixel at a row and a column of its 8 by 16 cell.
R91: "the pattern of each code is a fixed function of the code that this manual does not give". Assumption log 7. -/
opaque Config.glyphPattern : Byte → Nat → Nat → Bool

end Sys2Proof
end

