-- ==== Sys2Proof/Syntax.lean ====
section
/-! DEFINITION. The commands of the OQ63: one constructor of `Instr` for every row of spec/opcode_table.json. -/

namespace Sys2Proof

/-- A colour of 8 bits of red, green and blue (R94). -/
structure Colour where
  red : Byte
  green : Byte
  blue : Byte
  deriving DecidableEq, Repr

/-- The six palette indexes of a field's style (R2). -/
structure Style where
  f : Nibble
  b : Nibble
  up : Nibble
  down : Nibble
  stale : Nibble
  alert : Nibble
  deriving DecidableEq, Repr

/-- The levels of the rate straps RATE1 and RATE0 (R162). -/
structure Straps where
  rate1 : Bool
  rate0 : Bool
  deriving DecidableEq, Repr

/-- What the payload of a request holds: the fields that its layout in R175 names, or bytes whose length does not agree
with the length the type requires (R169 check 3). -/
inductive Carried (α : Type) where
  | fields (a : α)
  | wrongLength (payload : List Byte)
  deriving DecidableEq, Repr

/-- CONFIGURE DISPLAY, 6 bytes (R114). -/
structure ConfigureFields where
  geometry : Byte
  fg : Nibble
  bg : Nibble
  blinkPeriod : Byte
  ageLimit : Byte
  lagThreshold : Half
  deriving DecidableEq, Repr

/-- SET PALETTE: the first index and the colours; the count byte is the number of colours (R95). -/
structure PaletteFields where
  first : Byte
  colours : List Colour
  deriving DecidableEq, Repr

/-- DISPLAY MODE, 2 bytes (R98). -/
structure ModeFields where
  mode : Byte
  level : Byte
  deriving DecidableEq, Repr

/-- FREEZE, 2 bytes (R118). -/
structure FreezeFields where
  limit : Byte
  flags : Byte
  deriving DecidableEq, Repr

/-- DEFINE FIELD, 14 bytes (R11, R175). -/
structure DefineFields where
  number : Half
  page : Byte
  row : Byte
  column : Byte
  width : Byte
  format : Byte
  scale : Byte
  options : Byte
  style : Style
  flashLength : Byte
  staleInterval : Byte
  deriving DecidableEq, Repr

/-- RESTYLE FIELD, 8 bytes (R15, R175). -/
structure RestyleFields where
  number : Half
  options : Byte
  style : Style
  flashLength : Byte
  staleInterval : Byte
  deriving DecidableEq, Repr

/-- SET LIMITS, 11 bytes (R18, R175). -/
structure LimitFields where
  number : Half
  flags : Byte
  upper : Word
  lower : Word
  deriving DecidableEq, Repr

/-- POST, 6 bytes, and one entry of POST BATCH (R48, R58). -/
structure PostFields where
  number : Half
  value : Word
  deriving DecidableEq, Repr

/-- POST TEXT: a field number and 0 to 238 glyphs (R61). -/
structure TextFields where
  number : Half
  glyphs : List Byte
  deriving DecidableEq, Repr

/-- READ CELLS, 3 bytes (R104). -/
structure CellFields where
  row : Byte
  column : Byte
  count : Byte
  deriving DecidableEq, Repr

/-- Which of the blocks that respond to one frame boundary takes it first, where the manual leaves that open.
`ftuFirst`: FTU takes the expiries before SCR's freeze, pending-operation and commit work (R108, R132, R133, R134).
`frameFirst`: AEU latches FRAME before the other occurrences of the boundary (R152: separate changes).
`agingFirst`: PNT ages the ROUTINE list before it takes a new age limit (R70). -/
structure BoundaryOrder where
  ftuFirst : Bool
  frameFirst : Bool
  agingFirst : Bool
  deriving DecidableEq, Repr

/-- One character on RXD after its start bit: the levels of the eight data bits in the order in which they arrive, and the
level found at the stop bit (R162). -/
structure Character where
  d0 : Bool
  d1 : Bool
  d2 : Bool
  d3 : Bool
  d4 : Bool
  d5 : Bool
  d6 : Bool
  d7 : Bool
  stop : Bool
  deriving DecidableEq, Repr

/-- What the host does to RXD (R162): a character, a break (the line is held low for longer than one character), or the
line's return to high after one. -/
inductive LineSignal where
  | character (c : Character)
  | heldLow
  | returnsHigh
  deriving DecidableEq, Repr

/-- The commands. A REQUEST row stands for MSG's take of a good frame of that TYPE, with the frame's TAG and what its
payload holds; the remaining rows are the events at the line, at reset, at a frame boundary and in the painter. -/
inductive Instr where
  | identify (tag : Byte) (p : Carried Unit)
  | readStatus (tag : Byte) (p : Carried Unit)
  | configureDisplay (tag : Byte) (p : Carried ConfigureFields)
  | setPalette (tag : Byte) (p : Carried PaletteFields)
  | displayMode (tag : Byte) (p : Carried ModeFields)
  | selectPage (tag : Byte) (p : Carried Byte)
  | freeze (tag : Byte) (p : Carried FreezeFields)
  | thaw (tag : Byte) (p : Carried Unit)
  /-- `straps`: the levels LNK samples during the reset processing that the request begins (R162). -/
  | reset (tag : Byte) (p : Carried Unit) (straps : Straps)
  | defineField (tag : Byte) (p : Carried DefineFields)
  | restyleField (tag : Byte) (p : Carried RestyleFields)
  | setLimits (tag : Byte) (p : Carried LimitFields)
  | deleteField (tag : Byte) (p : Carried Half)
  | readField (tag : Byte) (p : Carried Half)
  | post (tag : Byte) (p : Carried PostFields)
  | postBatch (tag : Byte) (p : Carried (List PostFields))
  | postText (tag : Byte) (p : Carried TextFields)
  | unhold (tag : Byte) (p : Carried Half)
  | ackAlert (tag : Byte) (p : Carried Half)
  /-- ACK ALERT carrying the number 0xFFFF (R145). -/
  | ackAlertAll (tag : Byte)
  | readAlerts (tag : Byte) (p : Carried Unit)
  | readWatch (tag : Byte) (p : Carried Unit)
  | clearEvents (tag : Byte) (p : Carried Half)
  | setNoticeMask (tag : Byte) (p : Carried Half)
  | readFault (tag : Byte) (p : Carried Unit)
  | readCells (tag : Byte) (p : Carried CellFields)
  /-- A taken good frame whose TYPE names no request (R169 check 2). -/
  | unknownType (type : Byte) (tag : Byte) (payload : List Byte)
  /-- A taken frame marked bad-CRC, with TYPE, TAG and payload as received (R169 check 1). -/
  | badCheck (type : Byte) (tag : Byte) (payload : List Byte)
  /-- Characters arrive on RXD one after another with no gap of more than 2 ms between them (R162, R164, R166); one whole
  frame, part of one, or several, with any breaks among them. -/
  | frameReceived (signals : List LineSignal)
  /-- A gap of more than 2 ms on RXD (R165). -/
  | gapTimeout
  /-- The transmitter judges whether a frame begins; `txen` is the level of TXEN at that moment (R171). -/
  | transmitBegin (txen : Bool)
  | transmitComplete
  /-- RESETN is driven low; `straps` are the levels LNK samples during the reset processing (R162, R173). -/
  | resetn (straps : Straps)
  /-- Reset processing completes, RESETN being high again (R174). -/
  | resetDone
  | frameBoundary (order : BoundaryOrder)
  | blinkToggle
  | freezeExpired
  /-- FTU's stale expiry of one field (R127, R129). -/
  | staleExpiry (field : Nat)
  /-- FTU's flash expiry of one field (R128). -/
  | flashExpiry (field : Nat)
  | aging
  | pageChange
  | configurationApply
  | renderBegin
  | renderComplete
  deriving DecidableEq, Repr

end Sys2Proof
end

