-- ==== Sys2Proof/WellFormed.lean ====
section
/-! DEFINITION. Which commands are well formed: the payload lengths that R175 requires and the ranges of the operands. -/

namespace Sys2Proof

/-- The type codes of the requests (R175, "Requests and their success replies"). -/
def requestCodes : List Byte :=
  [0x01, 0x02, 0x03, 0x04, 0x05, 0x06, 0x07, 0x08, 0x0F, 0x10, 0x11, 0x12, 0x13, 0x14, 0x18, 0x19, 0x1A, 0x1B,
   0x20, 0x21, 0x22, 0x28, 0x29, 0x2A, 0x30]

/-- The largest payload of a line frame (R163). -/
def maxPayload : Nat := 240

/-- SET PALETTE: the count is not 0 and the payload length is 2 + 3 × count (R95). -/
def paletteLengthAgrees : List Byte → Bool
  | _ :: count :: rest => count != 0 && rest.length == 3 * count.toNat
  | _ => false

/-- POST BATCH: the count is not 0 and the payload length is 1 + 6 × count (R58). -/
def batchLengthAgrees : List Byte → Bool
  | count :: rest => count != 0 && rest.length == 6 * count.toNat
  | _ => false

/-- A request's payload is well formed: fields that the layout can carry, or at most 240 bytes whose length does not
agree with the type. -/
def Carried.wellFormed {α : Type} (agrees : List Byte → Bool) (admits : α → Bool) : Carried α → Bool
  | .fields a => admits a
  | .wrongLength payload => payload.length ≤ maxPayload && !agrees payload

/-- A request whose payload has a fixed length. -/
def Carried.fixedWellFormed {α : Type} (length : Nat) (p : Carried α) : Bool :=
  p.wellFormed (fun payload => payload.length == length) (fun _ => true)

/-- Every operand lies in the range that its layout or its rule gives it. -/
def Instr.wellFormed : Instr → Bool
  | .identify _ p => p.fixedWellFormed 0
  | .readStatus _ p => p.fixedWellFormed 0
  | .configureDisplay _ p => p.fixedWellFormed 6
  | .setPalette _ p => p.wellFormed paletteLengthAgrees
      (fun r => 1 ≤ r.colours.length && r.colours.length ≤ 79)
  | .displayMode _ p => p.fixedWellFormed 2
  | .selectPage _ p => p.fixedWellFormed 1
  | .freeze _ p => p.fixedWellFormed 2
  | .thaw _ p => p.fixedWellFormed 0
  | .reset _ p _ => p.fixedWellFormed 0
  | .defineField _ p => p.fixedWellFormed 14
  | .restyleField _ p => p.fixedWellFormed 8
  | .setLimits _ p => p.fixedWellFormed 11
  | .deleteField _ p => p.fixedWellFormed 2
  | .readField _ p => p.fixedWellFormed 2
  | .post _ p => p.fixedWellFormed 6
  | .postBatch _ p => p.wellFormed batchLengthAgrees
      (fun entries => 1 ≤ entries.length && entries.length ≤ 39)
  | .postText _ p => p.wellFormed (fun payload => 2 ≤ payload.length) (fun r => r.glyphs.length ≤ 238)
  | .unhold _ p => p.fixedWellFormed 2
  | .ackAlert _ p => p.wellFormed (fun payload => payload.length == 2) (fun number => number != 0xFFFF)
  | .ackAlertAll _ => true
  | .readAlerts _ p => p.fixedWellFormed 0
  | .readWatch _ p => p.fixedWellFormed 0
  | .clearEvents _ p => p.fixedWellFormed 2
  | .setNoticeMask _ p => p.fixedWellFormed 2
  | .readFault _ p => p.fixedWellFormed 0
  | .readCells _ p => p.fixedWellFormed 3
  | .unknownType type _ payload => !requestCodes.contains type && payload.length ≤ maxPayload
  | .badCheck _ _ payload => payload.length ≤ maxPayload
  | .frameReceived signals => !signals.isEmpty
  | .gapTimeout => true
  | .transmitBegin _ => true
  | .transmitComplete => true
  | .resetn _ => true
  | .resetDone => true
  | .frameBoundary _ => true
  | .blinkToggle => true
  | .freezeExpired => true
  | .staleExpiry field => field < 512
  | .flashExpiry field => field < 512
  | .aging => true
  | .pageChange => true
  | .configurationApply => true
  | .renderBegin => true
  | .renderComplete => true

end Sys2Proof
end

