-- ==== Sys2Proof/Decode.lean ====
section
/-! DEFINITION. The line's frames: their bytes and CRC (R163), the layouts of the request payloads (R175), and the reading
of a frame as the command that MSG's take of it is. The opcode table gives no row any bits, so no word spells a command. -/

namespace Sys2Proof

/-! ### Bytes -/

/-- A two-byte quantity, most significant byte first (R163). -/
def bytesOfHalf (x : Half) : List Byte := [x.extractLsb' 8 8, x.extractLsb' 0 8]

/-- A four-byte quantity, most significant byte first (R163). -/
def bytesOfWord (x : Word) : List Byte :=
  [x.extractLsb' 24 8, x.extractLsb' 16 8, x.extractLsb' 8 8, x.extractLsb' 0 8]

def halfOfBytes (a b : Byte) : Half := a ++ b

def wordOfBytes (a b c d : Byte) : Word := a ++ b ++ c ++ d

/-- A byte holding one part in its high nibble and one in its low nibble. -/
def byteOfNibbles (high low : Nibble) : Byte := high ++ low

def highNibble (x : Byte) : Nibble := x.extractLsb' 4 4

def lowNibble (x : Byte) : Nibble := x.extractLsb' 0 4

/-- A count as one byte. -/
def byteOfNat (n : Nat) : Byte := BitVec.ofNat 8 n

/-- A count as two bytes, most significant first. -/
def bytesOfCount (n : Nat) : List Byte := bytesOfHalf (BitVec.ofNat 16 n)

/-- A yes or no as a byte: 1 or 0 (R175). -/
def byteOfBool (b : Bool) : Byte := if b then 1 else 0

/-! ### Characters (R162) -/

/-- The character that carries a byte, least significant bit first, with a level at its stop bit (R162). -/
def characterOf (b : Byte) (stop : Bool) : Character :=
  { d0 := b.getLsbD 0, d1 := b.getLsbD 1, d2 := b.getLsbD 2, d3 := b.getLsbD 3, d4 := b.getLsbD 4, d5 := b.getLsbD 5,
    d6 := b.getLsbD 6, d7 := b.getLsbD 7, stop := stop }

/-- The byte that a character's data bits make: the first to arrive is the least significant. The level of the stop bit does
not bear on it (R162). -/
def Character.data (c : Character) : Byte :=
  byteOfBool c.d0 ||| byteOfBool c.d1 <<< 1 ||| byteOfBool c.d2 <<< 2 ||| byteOfBool c.d3 <<< 3 ||| byteOfBool c.d4 <<< 4 |||
    byteOfBool c.d5 <<< 5 ||| byteOfBool c.d6 <<< 6 ||| byteOfBool c.d7 <<< 7

/-- The levels of a character, bit by bit: the low start bit, the data bits, and the stop bit (R162). -/
def Character.levels (c : Character) : List Bool :=
  [false, c.d0, c.d1, c.d2, c.d3, c.d4, c.d5, c.d6, c.d7, c.stop]

/-- Bytes on RXD as characters with a high stop bit. -/
def signalsOf (bytes : List Byte) : List LineSignal := bytes.map fun b => .character (characterOf b true)

/-! ### Frames and the CRC (R163) -/

/-- A received frame as an input buffer keeps it: TYPE, TAG, payload (LEN is its length) and the good or bad-CRC mark
(R164). -/
structure Frame where
  type : Byte
  tag : Byte
  payload : List Byte
  good : Bool
  deriving DecidableEq, Repr

/-- One bit into the CRC register: polynomial x^16 + x^12 + x^5 + 1 (R163). -/
def crcBit (register : Half) (bit : Bool) : Half :=
  if register.msb != bit then (register <<< 1) ^^^ 0x1021 else register <<< 1

/-- One byte into the CRC register, most significant bit first (R163). -/
def crcByte (register : Half) (b : Byte) : Half :=
  [7, 6, 5, 4, 3, 2, 1, 0].foldl (fun r i => crcBit r (b.getLsbD i)) register

/-- The CRC over some bytes: the register starts at 0xFFFF, not reflected, no final inversion (R163). -/
def crc16 (bytes : List Byte) : Half := bytes.foldl crcByte 0xFFFF

/-- The start-of-frame byte (R163). -/
def sof : Byte := 0xC3

/-- The bytes of a message on the line: SOF, LEN, TYPE, TAG, payload, CRC high, CRC low (R163). -/
def lineBytes (type tag : Byte) (payload : List Byte) : List Byte :=
  let body := byteOfNat payload.length :: type :: tag :: payload
  sof :: body ++ bytesOfHalf (crc16 body)

/-- The frame that the bytes LEN, TYPE, TAG, payload, CRC high, CRC low make (R163, R164); `none` for fewer than
five bytes. -/
def frameOfStored : List Byte → Option Frame
  | len :: type :: tag :: rest =>
    let payload := rest.take (rest.length - 2)
    if 2 ≤ rest.length then
      some { type := type, tag := tag, payload := payload,
             good := bytesOfHalf (crc16 (len :: type :: tag :: payload)) == rest.drop (rest.length - 2) }
    else none
  | _ => none

/-! ### The layouts of the request payloads (R175), written -/

def Style.bytes (y : Style) : List Byte :=
  [byteOfNibbles y.f y.b, byteOfNibbles y.up y.down, byteOfNibbles y.stale y.alert]

def ConfigureFields.bytes (r : ConfigureFields) : List Byte :=
  r.geometry :: byteOfNibbles r.fg r.bg :: r.blinkPeriod :: r.ageLimit :: bytesOfHalf r.lagThreshold

def Colour.bytes (c : Colour) : List Byte := [c.red, c.green, c.blue]

def PaletteFields.bytes (r : PaletteFields) : List Byte :=
  r.first :: byteOfNat r.colours.length :: r.colours.flatMap Colour.bytes

def DefineFields.bytes (r : DefineFields) : List Byte :=
  bytesOfHalf r.number ++ [r.page, r.row, r.column, r.width, r.format, r.scale, r.options] ++ r.style.bytes ++
    [r.flashLength, r.staleInterval]

def RestyleFields.bytes (r : RestyleFields) : List Byte :=
  bytesOfHalf r.number ++ r.options :: r.style.bytes ++ [r.flashLength, r.staleInterval]

def LimitFields.bytes (r : LimitFields) : List Byte :=
  bytesOfHalf r.number ++ r.flags :: bytesOfWord r.upper ++ bytesOfWord r.lower

def PostFields.bytes (r : PostFields) : List Byte := bytesOfHalf r.number ++ bytesOfWord r.value

def batchBytes (entries : List PostFields) : List Byte :=
  byteOfNat entries.length :: entries.flatMap PostFields.bytes

/-- The payload of a request. -/
def Carried.payload {α : Type} (layout : α → List Byte) : Carried α → List Byte
  | .fields a => layout a
  | .wrongLength bytes => bytes

/-- The good frame of a TYPE, a TAG and a payload. -/
def goodFrame (type tag : Byte) (payload : List Byte) : Frame := ⟨type, tag, payload, true⟩

/-- The frame whose take by MSG the command is; `none` for the rows that are no take of a frame. -/
def Instr.frame? : Instr → Option Frame
  | .identify tag p => some (goodFrame 0x01 tag (p.payload fun _ => []))
  | .readStatus tag p => some (goodFrame 0x02 tag (p.payload fun _ => []))
  | .configureDisplay tag p => some (goodFrame 0x03 tag (p.payload ConfigureFields.bytes))
  | .setPalette tag p => some (goodFrame 0x04 tag (p.payload PaletteFields.bytes))
  | .displayMode tag p => some (goodFrame 0x05 tag (p.payload fun r => [r.mode, r.level]))
  | .selectPage tag p => some (goodFrame 0x06 tag (p.payload fun page => [page]))
  | .freeze tag p => some (goodFrame 0x07 tag (p.payload fun r => [r.limit, r.flags]))
  | .thaw tag p => some (goodFrame 0x08 tag (p.payload fun _ => []))
  | .reset tag p _ => some (goodFrame 0x0F tag (p.payload fun _ => []))
  | .defineField tag p => some (goodFrame 0x10 tag (p.payload DefineFields.bytes))
  | .restyleField tag p => some (goodFrame 0x11 tag (p.payload RestyleFields.bytes))
  | .setLimits tag p => some (goodFrame 0x12 tag (p.payload LimitFields.bytes))
  | .deleteField tag p => some (goodFrame 0x13 tag (p.payload bytesOfHalf))
  | .readField tag p => some (goodFrame 0x14 tag (p.payload bytesOfHalf))
  | .post tag p => some (goodFrame 0x18 tag (p.payload PostFields.bytes))
  | .postBatch tag p => some (goodFrame 0x19 tag (p.payload batchBytes))
  | .postText tag p => some (goodFrame 0x1A tag (p.payload fun r => bytesOfHalf r.number ++ r.glyphs))
  | .unhold tag p => some (goodFrame 0x1B tag (p.payload bytesOfHalf))
  | .ackAlert tag p => some (goodFrame 0x20 tag (p.payload bytesOfHalf))
  | .ackAlertAll tag => some (goodFrame 0x20 tag [0xFF, 0xFF])
  | .readAlerts tag p => some (goodFrame 0x21 tag (p.payload fun _ => []))
  | .readWatch tag p => some (goodFrame 0x22 tag (p.payload fun _ => []))
  | .clearEvents tag p => some (goodFrame 0x28 tag (p.payload bytesOfHalf))
  | .setNoticeMask tag p => some (goodFrame 0x29 tag (p.payload bytesOfHalf))
  | .readFault tag p => some (goodFrame 0x2A tag (p.payload fun _ => []))
  | .readCells tag p => some (goodFrame 0x30 tag (p.payload fun r => [r.row, r.column, r.count]))
  | .unknownType type tag payload => some (goodFrame type tag payload)
  | .badCheck type tag payload => some ⟨type, tag, payload, false⟩
  | .frameReceived _ => none
  | .gapTimeout => none
  | .transmitBegin _ => none
  | .transmitComplete => none
  | .resetn _ => none
  | .resetDone => none
  | .frameBoundary _ => none
  | .blinkToggle => none
  | .freezeExpired => none
  | .staleExpiry _ => none
  | .flashExpiry _ => none
  | .aging => none
  | .pageChange => none
  | .configurationApply => none
  | .renderBegin => none
  | .renderComplete => none

/-! ### The layouts, read -/

def readEmpty : List Byte → Carried Unit
  | [] => .fields ()
  | payload => .wrongLength payload

def readByte : List Byte → Carried Byte
  | [a] => .fields a
  | payload => .wrongLength payload

def readHalf : List Byte → Carried Half
  | [a, b] => .fields (halfOfBytes a b)
  | payload => .wrongLength payload

def styleOfBytes (a b c : Byte) : Style :=
  ⟨highNibble a, lowNibble a, highNibble b, lowNibble b, highNibble c, lowNibble c⟩

def readConfigure : List Byte → Carried ConfigureFields
  | [g, colours, blink, age, a, b] =>
    .fields ⟨g, highNibble colours, lowNibble colours, blink, age, halfOfBytes a b⟩
  | payload => .wrongLength payload

/-- Groups of three bytes as colours; `none` where the bytes do not come out even. -/
def coloursOfBytes : List Byte → Option (List Colour)
  | [] => some []
  | r :: g :: b :: rest => (coloursOfBytes rest).map (⟨r, g, b⟩ :: ·)
  | _ => none

def readPalette (payload : List Byte) : Carried PaletteFields :=
  match payload with
  | first :: count :: rest =>
    match coloursOfBytes rest with
    | some colours =>
      if count != 0 && colours.length == count.toNat then .fields ⟨first, colours⟩ else .wrongLength payload
    | none => .wrongLength payload
  | _ => .wrongLength payload

def readMode : List Byte → Carried ModeFields
  | [mode, level] => .fields ⟨mode, level⟩
  | payload => .wrongLength payload

def readFreeze : List Byte → Carried FreezeFields
  | [limit, flags] => .fields ⟨limit, flags⟩
  | payload => .wrongLength payload

def readDefine : List Byte → Carried DefineFields
  | [n1, n2, page, row, column, width, format, scale, options, s1, s2, s3, flash, stale] =>
    .fields ⟨halfOfBytes n1 n2, page, row, column, width, format, scale, options, styleOfBytes s1 s2 s3, flash, stale⟩
  | payload => .wrongLength payload

def readRestyle : List Byte → Carried RestyleFields
  | [n1, n2, options, s1, s2, s3, flash, stale] =>
    .fields ⟨halfOfBytes n1 n2, options, styleOfBytes s1 s2 s3, flash, stale⟩
  | payload => .wrongLength payload

def readLimits : List Byte → Carried LimitFields
  | [n1, n2, flags, u1, u2, u3, u4, l1, l2, l3, l4] =>
    .fields ⟨halfOfBytes n1 n2, flags, wordOfBytes u1 u2 u3 u4, wordOfBytes l1 l2 l3 l4⟩
  | payload => .wrongLength payload

def readPost : List Byte → Carried PostFields
  | [n1, n2, v1, v2, v3, v4] => .fields ⟨halfOfBytes n1 n2, wordOfBytes v1 v2 v3 v4⟩
  | payload => .wrongLength payload

/-- Groups of six bytes as posts; `none` where the bytes do not come out even. -/
def postsOfBytes : List Byte → Option (List PostFields)
  | [] => some []
  | n1 :: n2 :: v1 :: v2 :: v3 :: v4 :: rest =>
    (postsOfBytes rest).map (⟨halfOfBytes n1 n2, wordOfBytes v1 v2 v3 v4⟩ :: ·)
  | _ => none

def readBatch (payload : List Byte) : Carried (List PostFields) :=
  match payload with
  | count :: rest =>
    match postsOfBytes rest with
    | some entries => if count != 0 && entries.length == count.toNat then .fields entries else .wrongLength payload
    | none => .wrongLength payload
  | _ => .wrongLength payload

def readText : List Byte → Carried TextFields
  | n1 :: n2 :: glyphs => .fields ⟨halfOfBytes n1 n2, glyphs⟩
  | payload => .wrongLength payload

def readCellRun : List Byte → Carried CellFields
  | [row, column, count] => .fields ⟨row, column, count⟩
  | payload => .wrongLength payload

/-- An ACK ALERT payload: the number 0xFFFF stands for ALL (R144, R145). -/
def readAck (tag : Byte) (payload : List Byte) : Instr :=
  if payload = [0xFF, 0xFF] then .ackAlertAll tag else .ackAlert tag (readHalf payload)

/-- The command that MSG's take of a frame is: check 1, check 2 and check 3 of R169, in that order. `straps` are the levels
that a RESET taken now samples. -/
def commandOfFrame (straps : Straps) (f : Frame) : Instr :=
  if f.good then
    match f.type.toNat with
    | 0x01 => .identify f.tag (readEmpty f.payload)
    | 0x02 => .readStatus f.tag (readEmpty f.payload)
    | 0x03 => .configureDisplay f.tag (readConfigure f.payload)
    | 0x04 => .setPalette f.tag (readPalette f.payload)
    | 0x05 => .displayMode f.tag (readMode f.payload)
    | 0x06 => .selectPage f.tag (readByte f.payload)
    | 0x07 => .freeze f.tag (readFreeze f.payload)
    | 0x08 => .thaw f.tag (readEmpty f.payload)
    | 0x0F => .reset f.tag (readEmpty f.payload) straps
    | 0x10 => .defineField f.tag (readDefine f.payload)
    | 0x11 => .restyleField f.tag (readRestyle f.payload)
    | 0x12 => .setLimits f.tag (readLimits f.payload)
    | 0x13 => .deleteField f.tag (readHalf f.payload)
    | 0x14 => .readField f.tag (readHalf f.payload)
    | 0x18 => .post f.tag (readPost f.payload)
    | 0x19 => .postBatch f.tag (readBatch f.payload)
    | 0x1A => .postText f.tag (readText f.payload)
    | 0x1B => .unhold f.tag (readHalf f.payload)
    | 0x20 => readAck f.tag f.payload
    | 0x21 => .readAlerts f.tag (readEmpty f.payload)
    | 0x22 => .readWatch f.tag (readEmpty f.payload)
    | 0x28 => .clearEvents f.tag (readHalf f.payload)
    | 0x29 => .setNoticeMask f.tag (readHalf f.payload)
    | 0x2A => .readFault f.tag (readEmpty f.payload)
    | 0x30 => .readCells f.tag (readCellRun f.payload)
    | _ => .unknownType f.type f.tag f.payload
  else .badCheck f.type f.tag f.payload

/-! ### The host's fixed name -/

/-- The opcode table gives no row any bits, so no word spells a command. -/
def decodeTableWord (_nbits _w : Nat) : Option Instr := none

end Sys2Proof
end

