-- ==== Sys2Proof/Machine/State.lean ====
section
/-! DEFINITION. The state of the OQ63, block by block (00_scope section 2), its reset, and the reasons a step can stop. -/

namespace Sys2Proof.Machine

/-! ### FLD: the field records (R1, R2) -/

/-- The state of a field in use (R4). A FREE record is one that the field table does not list. -/
inductive FieldState where
  | live
  | stale
  | held
  | retiring
  deriving DecidableEq, Repr

/-- A field's page (R6). -/
inductive Page where
  | numbered (p : BitVec 2)
  | common
  deriving DecidableEq, Repr

inductive Format where
  | decimal
  | fraction
  | volume
  | change
  | text
  deriving DecidableEq, Repr

/-- A field's options (R2); each is the set state of its bit in the options byte (R175). -/
structure Options where
  separators : Bool
  urgent : Bool
  hold : Bool
  staleWatch : Bool
  reviveWatch : Bool
  alignRight : Bool
  deriving DecidableEq, Repr

/-- A field's value: a signed 32-bit integer in field units, or glyphs as received (R2). -/
inductive Value where
  | number (v : Word)
  | text (glyphs : List Byte)
  deriving DecidableEq, Repr

inductive Direction where
  | none
  | up
  | down
  deriving DecidableEq, Repr

inductive Zone where
  | inside
  | above
  | below
  deriving DecidableEq, Repr

/-- The record of a field in use (R2). Queue membership is read from the paint queue and the slot part from the render
slots, which hold them once. -/
structure Field where
  state : FieldState
  page : Page
  row : Nat
  column : Nat
  width : Nat
  format : Format
  scale : Nat
  options : Options
  style : Style
  flashLength : Nat
  staleInterval : Nat
  value : Option Value
  lastPost : Option FrameNo
  shown : Option Value
  shownFrame : Option FrameNo
  direction : Direction
  flashDeadline : Option FrameNo
  staleDeadline : Option FrameNo
  upper : Option Word
  lower : Option Word
  zone : Zone
  alertLatched : Bool
  overflow : Bool
  deriving DecidableEq, Repr

/-! ### PNT: the paint queue and the render slots (R65, R73) -/

/-- An entry of ROUTINE: a field number and its wait count (R65). -/
structure RoutineEntry where
  field : Nat
  wait : Nat
  deriving DecidableEq, Repr

/-- One cell record (R89). -/
structure Cell where
  glyph : Byte
  fg : Nibble
  bg : Nibble
  blink : Bool
  underline : Bool
  deriving DecidableEq, Repr

inductive SlotKind where
  | value
  | blank
  deriving DecidableEq, Repr

/-- The inputs that a render reads when it begins (R76): the field record as it stands, the default colours of SCR and the
frame at which the flash deadline is judged. -/
structure RenderInputs where
  kind : SlotKind
  record : Field
  defaultFg : Nibble
  defaultBg : Nibble
  began : FrameNo
  deriving DecidableEq, Repr

/-- What a completed render leaves in its slot (R73, R77). -/
structure Rendered where
  kind : SlotKind
  cells : List Cell
  value : Option Value
  direction : Direction
  flashStart : Bool
  deriving DecidableEq, Repr

inductive SlotContent where
  | filling (inputs : RenderInputs) (discard : Bool)
  | ready (r : Rendered)
  deriving DecidableEq, Repr

/-- A render slot that is FILLING or READY (R73); a FREE slot is one that the pool does not list. -/
structure Slot where
  field : Option Nat
  content : SlotContent
  deriving DecidableEq, Repr

/-- PNT's state (R65, R70 to R73). `slots` lists the slots in use by rising number. -/
structure Paint where
  urgent : List Nat
  routine : List RoutineEntry
  slots : List (Nat × Slot)
  ageLimit : Nat
  lagThreshold : Nat
  lagging : Bool
  deriving DecidableEq, Repr

/-! ### SCR: plane, palette, modes, freeze and frame counter (R89 to R105) -/

/-- The three geometries (R92). -/
inductive Geometry where
  | g80x25
  | g100x36
  | g132x48
  deriving DecidableEq, Repr

/-- The four display modes (R97). -/
inductive DisplayMode where
  | normal
  | reverse
  | blank
  | flood
  deriving DecidableEq, Repr

/-- SCR's state. `plane` lists the cells that differ from the reset contents, by rising place (R92, R93). -/
structure Screen where
  geometry : Geometry
  plane : List (Nat × Cell)
  defaultFg : Nibble
  defaultBg : Nibble
  palette : List Colour
  stagedPalette : List (Option Colour)
  mode : DisplayMode
  brightness : Nat
  stagedMode : Option (DisplayMode × Nat)
  blinkPeriod : Nat
  blinkOn : Bool
  page : BitVec 2
  frozen : Bool
  freezeDeadline : Option FrameNo
  timerHold : Bool
  frameCounter : FrameNo
  deriving DecidableEq, Repr

/-! ### MSG: the message in hand and the deferred operations (R111, R114, R168) -/

/-- A SELECT PAGE accepted and not yet applied, with the tag its reserved reply entry is to carry (R111). -/
structure PendingPage where
  page : BitVec 2
  tag : Byte
  deriving DecidableEq, Repr

/-- A CONFIGURE DISPLAY accepted and not yet applied: the stored parameters and the tag (R114). -/
structure PendingConfigure where
  geometry : Geometry
  fg : Nibble
  bg : Nibble
  blinkPeriod : Nat
  ageLimit : Nat
  lagThreshold : Nat
  tag : Byte
  deriving DecidableEq, Repr

/-- MSG's state: the message in hand, which holds a RESERVED reply entry, and the two pending operations, each of which
holds one too (R168, R170). -/
structure Message where
  inHand : Option Frame
  pendingPage : Option PendingPage
  pendingConfigure : Option PendingConfigure
  deriving DecidableEq, Repr

/-! ### AEU: lists, latches and the fault record (R142, R146, R152 to R158) -/

inductive WatchKind where
  | stale
  | revive
  deriving DecidableEq, Repr

/-- A watch record (R146). -/
structure WatchRecord where
  field : Nat
  kind : WatchKind
  frame : FrameNo
  deriving DecidableEq, Repr

/-- The refusal codes (R175). -/
inductive RefusalCode where
  | badLength
  | unknownType
  | badCheck
  | badField
  | notDefined
  | inUse
  | outOfBounds
  | overlap
  | badValue
  | busy
  | frozen
  | notFrozen
  | wrongFormat
  | notHeld
  deriving DecidableEq, Repr

/-- The fault record (R158). -/
structure FaultRecord where
  type : Byte
  tag : Byte
  code : RefusalCode
  field : Option Half
  index : Option Nat
  frame : FrameNo
  deriving DecidableEq, Repr

/-- A set of event kinds, one bit per kind in the event bit order (R175). -/
abbrev EventSet := Half

/-- AEU's state. -/
structure Alerts where
  alertList : List Nat
  watchList : List WatchRecord
  latched : EventSet
  noticeMask : EventSet
  noticeOutstanding : Bool
  faultRecord : Option FaultRecord
  deriving DecidableEq, Repr

/-! ### LNK: receiver, buffers, reply queue, notice slot and transmitter (R162 to R171) -/

/-- The receiver (R164): hunting, or in frame. `buffer` is the input buffer of a kept frame, `none` for a discarded one;
`left` is how many bytes of the frame are still to come. -/
inductive Receiver where
  | hunting
  | expectLen (buffer : Option Nat)
  | inFrame (buffer : Option Nat) (left : Nat)
  deriving DecidableEq, Repr

/-- An input buffer that is FILLING, with the bytes stored so far from LEN on, or HELD (R167); a FREE buffer is not listed. -/
inductive Buffer where
  | filling (stored : List Byte)
  | held (f : Frame)
  deriving DecidableEq, Repr

/-- A FILLED reply entry: the message and its placing time (R170, R171). -/
structure Reply where
  type : Byte
  tag : Byte
  payload : List Byte
  placed : Nat
  deriving DecidableEq, Repr

/-- The NOTICE in the notice slot, with its placing time (R153, R171). -/
structure Notice where
  latched : EventSet
  frame : FrameNo
  placed : Nat
  deriving DecidableEq, Repr

/-- What the transmitter is sending: the bytes of the line frame, of a reply (the oldest FILLED entry) or of a NOTICE. -/
inductive Sending where
  | reply (bytes : List Byte)
  | notice (bytes : List Byte)
  deriving DecidableEq, Repr

/-- LNK's state. `replies` are the FILLED entries in fill order; `placings` numbers the placing times; `rate` is the straps
as last sampled; `txen` is the level of TXEN as last judged; `rxLow`: a break holds RXD low (R162); `cut`: of a frame that the
beginning of reset processing cut off, the bytes up to the one whose stop bit still completes (R173). -/
structure Link where
  receiver : Receiver
  buffers : List (Nat × Buffer)
  arrival : List Nat
  replies : List Reply
  notice : Option Notice
  placings : Nat
  sending : Option Sending
  rate : Straps
  txen : Bool
  rxLow : Bool
  cut : List Byte
  deriving DecidableEq, Repr

/-! ### The part -/

/-- What began the reset processing in progress (R174). -/
inductive ResetCause where
  | power
  | request (tag : Byte)
  deriving DecidableEq, Repr

/-- MODEL'S OWN: the parts of the next frame boundary that blocks have taken before the FRAME_BOUNDARY command takes the
rest (assumption log 3). `held`: whether expiries are held at it (R126). `aged`: PNT has aged ROUTINE. `toggled`: the blink
has been judged. `examined`: FTU has examined the fields below this number. `fresh`: the fields whose queue entry was
appended at this boundary (R69). -/
structure Boundary where
  held : Bool
  aged : Bool
  toggled : Bool
  examined : Nat
  fresh : List Nat
  deriving DecidableEq, Repr

/-- The state of the OQ63. `fields` lists the records in use by rising field number (R1). `resetCause` is present while reset
processing is in progress; `resetn` is the level of RESETN. The last three fields are the MODEL'S OWN: a boundary in part
taken, the number of open choices made so far, and the commands that wait, first in, first out. -/
structure State where
  fields : List (Nat × Field)
  pnt : Paint
  scr : Screen
  msg : Message
  aeu : Alerts
  lnk : Link
  resetCause : Option ResetCause
  resetn : Bool
  boundary : Option Boundary
  choices : Nat
  pending : List Instr
  deriving DecidableEq, Repr

/-- No command of the OQ63 stops the machine: every refusal of the manual is a REFUSED reply, an effect on the state. So there
is no fault, and the type has no constructor. -/
inductive Fault where
  deriving DecidableEq, Repr

/-- The reasons for which the model, not the part, has no answer. -/
inductive Refusal where
  /-- Raised by `exec` for a command that has no meaning yet, with its mnemonic (safe). No arm raises it. -/
  | notModelled (mnemonic : String)
  deriving DecidableEq, Repr

/-! ### Reset (R1, R88, R105, R138, R149, R161, R173) -/

/-- The reset palette (R94). -/
def resetPalette : List Colour :=
  [⟨0x00, 0x00, 0x00⟩, ⟨0xC0, 0x00, 0x00⟩, ⟨0x00, 0xC0, 0x00⟩, ⟨0xC0, 0xC0, 0x00⟩,
   ⟨0x00, 0x00, 0xC0⟩, ⟨0xC0, 0x00, 0xC0⟩, ⟨0x00, 0xC0, 0xC0⟩, ⟨0xC0, 0xC0, 0xC0⟩,
   ⟨0x40, 0x40, 0x40⟩, ⟨0xFF, 0x40, 0x40⟩, ⟨0x40, 0xFF, 0x40⟩, ⟨0xFF, 0xFF, 0x40⟩,
   ⟨0x40, 0x40, 0xFF⟩, ⟨0xFF, 0x40, 0xFF⟩, ⟨0x40, 0xFF, 0xFF⟩, ⟨0xFF, 0xFF, 0xFF⟩]

/-- PNT at reset (R88). -/
def Paint.reset : Paint :=
  { urgent := [], routine := [], slots := [], ageLimit := 20, lagThreshold := 256, lagging := false }

/-- SCR at reset (R105). -/
def Screen.reset : Screen :=
  { geometry := .g80x25, plane := [], defaultFg := 7, defaultBg := 0, palette := resetPalette,
    stagedPalette := List.replicate 16 none, mode := .blank, brightness := 8, stagedMode := none,
    blinkPeriod := 32, blinkOn := true, page := 0, frozen := false, freezeDeadline := none, timerHold := false,
    frameCounter := 0 }

/-- MSG at reset (R173). -/
def Message.reset : Message := { inHand := none, pendingPage := none, pendingConfigure := none }

/-- AEU at reset (R149, R161); the reset notice mask is every kind but FRAME, 0x07FE (R175). -/
def Alerts.reset : Alerts :=
  { alertList := [], watchList := [], latched := 0, noticeMask := 0x07FE, noticeOutstanding := false,
    faultRecord := none }

/-- LNK at reset (R173). The sampled straps and the level of TXEN are high, as their pull-ups leave them (00_scope section 7;
assumption log 2); no break holds RXD (assumption log 25), and no frame has been cut off (assumption log 14). -/
def Link.reset : Link :=
  { receiver := .hunting, buffers := [], arrival := [], replies := [], notice := none, placings := 0, sending := none,
    rate := ⟨true, true⟩, txen := true, rxLow := false, cut := [] }

/-- The part right after RESETN was driven low: every block holds its reset values and reset processing is in progress; the
first RESET_DONE completes it (R173, R174; assumption log 1). -/
def State.reset : State :=
  { fields := [], pnt := Paint.reset, scr := Screen.reset, msg := Message.reset, aeu := Alerts.reset, lnk := Link.reset,
    resetCause := some .power, resetn := false, boundary := none, choices := 0, pending := [] }

end Sys2Proof.Machine
end

