-- ==== Sys2Proof/Machine/Store.lean ====
section
/-! DEFINITION. Sparse stores: lists of (number, value) pairs by strictly rising number, and the cell plane as one. -/

namespace Sys2Proof.Machine

/-- The value listed under a number. -/
def Store.find? {α : Type} (k : Nat) : List (Nat × α) → Option α
  | [] => none
  | (j, v) :: rest => if j = k then some v else Store.find? k rest

/-- List a value under a number, in place of the value listed there. -/
def Store.insert {α : Type} (k : Nat) (v : α) : List (Nat × α) → List (Nat × α)
  | [] => [(k, v)]
  | (j, w) :: rest =>
    if k < j then (k, v) :: (j, w) :: rest
    else if j = k then (k, v) :: rest
    else (j, w) :: Store.insert k v rest

/-- Take a number off the list. -/
def Store.erase {α : Type} (k : Nat) : List (Nat × α) → List (Nat × α)
  | [] => []
  | (j, w) :: rest => if j = k then rest else (j, w) :: Store.erase k rest

/-- The numbers rise strictly, so each stands once. -/
def Store.rising {α : Type} : List (Nat × α) → Bool
  | [] => true
  | (j, _) :: rest => rest.all (fun e => j < e.1) && Store.rising rest

/-! ### The cell plane (R89, R92, R93) -/

/-- The default blank cell in given default colours: glyph 0x20, blink no, underline no (R90). -/
def blankCell (fg bg : Nibble) : Cell := { glyph := 0x20, fg := fg, bg := bg, blink := false, underline := false }

/-- The reset contents of every cell (R93, R105); what a place that the plane does not list reads as. -/
def resetBlank : Cell := blankCell 7 0

/-- The cell at a place of the plane. -/
def Memory.read (plane : List (Nat × Cell)) (place : Nat) : Cell := (Store.find? place plane).getD resetBlank

/-- Write one cell, keeping the canonical form: a cell equal to the reset contents is not listed. -/
def Memory.write (plane : List (Nat × Cell)) (place : Nat) (c : Cell) : List (Nat × Cell) :=
  if c = resetBlank then Store.erase place plane else Store.insert place c plane

/-- Write a run of cells from a place on. -/
def Memory.writeRun (plane : List (Nat × Cell)) (place : Nat) : List Cell → List (Nat × Cell)
  | [] => plane
  | c :: rest => Memory.writeRun (Memory.write plane place c) (place + 1) rest

/-- Write a blank cell at every place below `size` but those kept. -/
def Memory.blankBut (keep : Nat → Bool) (blank : Cell) (size : Nat) (plane : List (Nat × Cell)) : List (Nat × Cell) :=
  (List.range size).filterMap fun place =>
    let c := if keep place then Memory.read plane place else blank
    if c = resetBlank then none else some (place, c)

/-- The canonical form: places rise strictly and no entry equals what an unlisted place reads as. -/
def Memory.wf (plane : List (Nat × Cell)) : Bool :=
  Store.rising plane && plane.all fun e => e.2 != resetBlank

end Sys2Proof.Machine
end

