-- ==== Sys2Proof/Machine/Operands.lean ====
section
/-! DEFINITION. What the operands of the commands mean: geometries, pages, formats, options, scales, extents, visibility,
deadlines, and the codes that the payloads carry (R175). -/

namespace Sys2Proof.Machine

/-! ### Geometry, extents and visibility -/

def Geometry.columns : Geometry → Nat
  | .g80x25 => 80
  | .g100x36 => 100
  | .g132x48 => 132

def Geometry.rows : Geometry → Nat
  | .g80x25 => 25
  | .g100x36 => 36
  | .g132x48 => 48

/-- The number of cells of the plane (R92). -/
def Geometry.cells (g : Geometry) : Nat := g.columns * g.rows

def Geometry.code : Geometry → Byte
  | .g80x25 => 0
  | .g100x36 => 1
  | .g132x48 => 2

def Geometry.ofCode (b : Byte) : Option Geometry :=
  match b.toNat with
  | 0 => some .g80x25
  | 1 => some .g100x36
  | 2 => some .g132x48
  | _ => none

/-- The place of a cell in plane order (R92). -/
def Geometry.place (g : Geometry) (row column : Nat) : Nat := row * g.columns + column

/-- A field's extent is within bounds of a geometry (R8). -/
def Field.inBounds (f : Field) (g : Geometry) : Bool := f.row < g.rows && f.column + f.width ≤ g.columns

/-- The pages of two fields can show at once: they are equal or either is COMMON (R9). -/
def Page.meets : Page → Page → Bool
  | .common, _ => true
  | _, .common => true
  | .numbered p, .numbered q => p == q

/-- Two extents share a cell (R9). -/
def Field.overlaps (f g : Field) : Bool :=
  f.row == g.row && f.column < g.column + g.width && g.column < f.column + f.width

/-- Two fields conflict (R9). -/
def Field.conflicts (f g : Field) : Bool := f.page.meets g.page && f.overlaps g

/-- A field covers a place of the plane (R8). -/
def Field.covers (g : Geometry) (f : Field) (place : Nat) : Bool :=
  g.place f.row f.column ≤ place && place < g.place f.row f.column + f.width

/-- A field of a page is visible while a page is selected (R7). -/
def Page.visibleOn (p : Page) (selected : BitVec 2) : Bool :=
  match p with
  | .common => true
  | .numbered q => q == selected

/-- The record of a field in use; `none` for a FREE record and for a number that names no record (R1). -/
def State.field? (s : State) (n : Nat) : Option Field := Store.find? n s.fields

/-- The field numbers in use, lowest first. -/
def State.numbers (s : State) : List Nat := s.fields.map Prod.fst

/-- A field is visible (R7). -/
def State.shows (s : State) (f : Field) : Bool := f.page.visibleOn s.scr.page

/-! ### Frame numbers (R124) -/

/-- A deadline is reached at frame boundary M when (M − D) mod 2^32 is below 2^31 (R124). -/
def reached (d m : FrameNo) : Bool := (m - d).toNat < 2147483648

/-- An optional deadline that is present and reached. -/
def dueAt (d : Option FrameNo) (m : FrameNo) : Bool :=
  match d with
  | some d => reached d m
  | none => false

/-- A frame number so many stale ticks of 64 frames later; absent for 0 ticks (R49, R63, R118). -/
def afterTicks (start : FrameNo) (ticks : Nat) : Option FrameNo :=
  if ticks = 0 then none else some (start + BitVec.ofNat 32 (64 * ticks))

/-! ### Codes of the payloads (R175) -/

def FieldState.code : FieldState → Byte
  | .live => 1
  | .stale => 2
  | .held => 3
  | .retiring => 4

def Format.ofCode (b : Byte) : Option Format :=
  match b.toNat with
  | 0 => some .decimal
  | 1 => some .fraction
  | 2 => some .volume
  | 3 => some .change
  | 4 => some .text
  | _ => none

def Format.code : Format → Byte
  | .decimal => 0
  | .fraction => 1
  | .volume => 2
  | .change => 3
  | .text => 4

def Page.ofCode (b : Byte) : Option Page :=
  if b = 0xFF then some .common
  else if b.toNat < 4 then some (.numbered (b.extractLsb' 0 2))
  else none

def Page.code : Page → Byte
  | .common => 0xFF
  | .numbered p => p.zeroExtend 8

def Zone.code : Zone → Byte
  | .inside => 0
  | .above => 1
  | .below => 2

def Direction.code : Direction → Byte
  | .none => 0
  | .up => 1
  | .down => 2

def WatchKind.code : WatchKind → Byte
  | .stale => 0
  | .revive => 1

def DisplayMode.ofCode (b : Byte) : Option DisplayMode :=
  match b.toNat with
  | 0 => some .normal
  | 1 => some .reverse
  | 2 => some .blank
  | 3 => some .flood
  | _ => none

def DisplayMode.code : DisplayMode → Byte
  | .normal => 0
  | .reverse => 1
  | .blank => 2
  | .flood => 3

def RefusalCode.code : RefusalCode → Byte
  | .badLength => 1
  | .unknownType => 2
  | .badCheck => 3
  | .badField => 4
  | .notDefined => 5
  | .inUse => 6
  | .outOfBounds => 7
  | .overlap => 8
  | .badValue => 9
  | .busy => 10
  | .frozen => 11
  | .notFrozen => 12
  | .wrongFormat => 13
  | .notHeld => 14

/-- The options that an options byte sets; bits 6 and 7 are not stored (R12, R175). -/
def Options.ofByte (b : Byte) : Options :=
  { separators := b.getLsbD 0, urgent := b.getLsbD 1, hold := b.getLsbD 2, staleWatch := b.getLsbD 3,
    reviveWatch := b.getLsbD 4, alignRight := b.getLsbD 5 }

/-- Flags as a byte of a reply, the first in bit 0. The bits above the last flag, which no table names, are 0. DESIGN CHOICE,
unsafe: R175 gives them no value (assumption log 26). -/
def byteOfFlags : List Bool → Byte
  | [] => 0
  | b :: rest => byteOfBool b ||| (byteOfFlags rest <<< 1)

/-- The options byte that READ FIELD reports, laid out as in DEFINE FIELD (R175). Its bits 6 and 7 are not stored, and what is
sent for them the manual does not say: 0. DESIGN CHOICE, unsafe (assumption log 26). -/
def Options.byte (o : Options) : Byte :=
  byteOfFlags [o.separators, o.urgent, o.hold, o.staleWatch, o.reviveWatch, o.alignRight]

/-- The scale as DEFINE FIELD stores it, by the format (R12). -/
def storedScale (format : Format) (carried : Nat) : Nat :=
  match format with
  | .decimal => min carried 6
  | .change => min carried 6
  | .fraction => max 1 (min carried 8)
  | .volume => 0
  | .text => 0

/-- A value below a range taken as its lowest value, and above it as its highest (00_scope section 5.1). -/
def clamp (low high n : Nat) : Nat := max low (min high n)

/-! ### Zones (R139) -/

/-- The zone of a numeric value between optional limits. -/
def zoneOf (upper lower : Option Word) (v : Word) : Zone :=
  if upper.any (fun u => u.toInt ≤ v.toInt) then .above
  else if lower.any (fun l => v.toInt ≤ l.toInt) then .below
  else .inside

/-- The zone of an optional value: IN for an absent one (R139 row 1); a TEXT field has no zone computation. -/
def zoneOfValue (upper lower : Option Word) : Option Value → Zone
  | some (.number v) => zoneOf upper lower v
  | some (.text _) => .inside
  | none => .inside

/-! ### The rate straps (R162) -/

/-- The line rate in baud that the straps choose (00_scope section 7). -/
def Straps.baud : Straps → Nat
  | ⟨false, false⟩ => 115200
  | ⟨false, true⟩ => 460800
  | ⟨true, false⟩ => 1500000
  | ⟨true, true⟩ => 3000000

end Sys2Proof.Machine
end

