-- ==== Sys2Proof/Machine/Flags.lean ====
section
/-! DEFINITION. The flags the OQ63 keeps and drives: event latches, the NOTICE, ATTN, RDY, the reply entries, the replies and
refusals, the fault record and LAGGING. -/

namespace Sys2Proof.Machine

/-! ### Event kinds (R152, R175) -/

def evFrame : EventSet := 0x0001
def evCheckError : EventSet := 0x0002
def evFraming : EventSet := 0x0004
def evOverrun : EventSet := 0x0008
def evRefusal : EventSet := 0x0010
def evWatch : EventSet := 0x0020
def evWatchFull : EventSet := 0x0040
def evAlert : EventSet := 0x0080
def evAlertFull : EventSet := 0x0100
def evPaintLag : EventSet := 0x0200
def evFreezeExpired : EventSet := 0x0400

/-- The eleven kinds; bits 11..15 name none (R175). -/
def allKinds : EventSet := 0x07FF

/-- The union of some sets of kinds. -/
def unionOf : List EventSet → EventSet
  | [] => 0
  | c :: rest => c ||| unionOf rest

/-- ATTN is high while the latched set holds an enabled kind (R154). -/
def State.attn (s : State) : Bool := s.aeu.latched &&& s.aeu.noticeMask != 0

/-! ### The NOTICE and the latches (R152, R153) -/

/-- A change of the latched set places a NOTICE: it newly latches an enabled kind while notice-outstanding is no (R153). -/
def State.noticeDue (s : State) (kinds : EventSet) : Bool :=
  !s.aeu.noticeOutstanding && (kinds &&& ~~~s.aeu.latched &&& s.aeu.noticeMask != 0)

/-- The latched set as it stands when the first of some successive changes that newly latches an enabled kind is made: what
the NOTICE that it places carries (R153). -/
def noticeSnapshot (mask : EventSet) : EventSet → List EventSet → EventSet
  | standing, [] => standing
  | standing, c :: rest =>
    if c &&& ~~~standing &&& mask != 0 then standing ||| c else noticeSnapshot mask (standing ||| c) rest

/-- Put a NOTICE in the notice slot, replacing one that has not begun transmission; notice-outstanding becomes yes (R153). -/
def State.placeNotice (s : State) (carried : EventSet) (n : FrameNo) (placed : Nat) : State :=
  { s with
    aeu := { s.aeu with noticeOutstanding := true }
    lnk := { s.lnk with notice := some ⟨carried, n, placed⟩, placings := s.lnk.placings + 1 } }

/-- Latch the kinds of some successive changes, at frame number N; `placed` is the placing time of the NOTICE that they may
cause (R152, R153). `kinds` is the union of `changes`. -/
def State.latchChanges (s : State) (kinds : EventSet) (changes : List EventSet) (n : FrameNo) (placed : Nat) : State :=
  let latched := { s with aeu := { s.aeu with latched := s.aeu.latched ||| kinds } }
  if s.noticeDue kinds then
    latched.placeNotice (noticeSnapshot s.aeu.noticeMask s.aeu.latched changes) n placed
  else latched

/-- Latch the kinds that one action of one rule hands over, as one change (R152). -/
def State.latch (s : State) (kinds : EventSet) (n : FrameNo) : State :=
  s.latchChanges kinds [kinds] n s.lnk.placings

/-- The c-th order of a list: every order is some c's. -/
def orderedBy {α : Type} (c : Nat) : List α → List α
  | [] => []
  | x :: rest =>
    (orderedBy (c / (rest.length + 1)) rest).insertIdx (c % (rest.length + 1)) x

/-- Latch what different rules hand over in one step, in an order that the manual leaves open: each group is a run of
successive changes, and the groups come in the order of a FREE VALUE (assumption log 5). -/
def State.latchOpen (s : State) (groups : List (List EventSet)) (n : FrameNo) : State :=
  let handed := groups.filter fun g => unionOf g != 0
  let kinds := unionOf handed.flatten
  if handed.length ≤ 1 then s.latchChanges kinds handed.flatten n s.lnk.placings
  else
    { s.latchChanges kinds (orderedBy (Config.openChoice s.choices) handed).flatten n s.lnk.placings with
      choices := s.choices + 1 }

/-! ### Input buffers and reply entries (R167, R170) -/

/-- RDY is high while at least two of the six buffers are FREE and reset processing is not in progress (R167). -/
def State.rdy (s : State) : Bool := s.resetCause.isNone && s.lnk.buffers.length + 2 ≤ 6

/-- The RESERVED reply entries: the message in hand's and that of each pending operation (R168, R170). -/
def State.entriesReserved (s : State) : Nat :=
  s.msg.inHand.toList.length + s.msg.pendingPage.toList.length + s.msg.pendingConfigure.toList.length

/-- The FILLED and RESERVED entries of the eight (R170). -/
def State.entriesUsed (s : State) : Nat := s.lnk.replies.length + s.entriesReserved

/-! ### Replies (R169, R170) -/

/-- A reply entry becomes FILLED, at the tail of the fill order (R170). -/
def State.fillReply (s : State) (type tag : Byte) (payload : List Byte) (placed : Nat) : State :=
  { s with lnk := { s.lnk with replies := s.lnk.replies ++ [⟨type, tag, payload, placed⟩],
                               placings := s.lnk.placings + 1 } }

/-- The success reply to the message in hand: TYPE is the request code plus 0x80, and TAG is the request's (R163, R171). -/
def State.answer (s : State) (payload : List Byte) : State :=
  match s.msg.inHand with
  | none => s
  | some f =>
    { s with msg := { s.msg with inHand := none } }.fillReply (f.type + 0x80) f.tag payload s.lnk.placings

/-- The frame counter's value: the frame in which a request is taken (R103). -/
def State.now (s : State) : FrameNo := s.scr.frameCounter

/-- A refusal overwrites the fault record whole (R158). -/
def State.recordFault (s : State) (f : Frame) (code : RefusalCode) (field : Option Half) (index : Option Nat) : State :=
  { s with aeu := { s.aeu with faultRecord := some ⟨f.type, f.tag, code, field, index, s.now⟩ } }

/-- The kinds that a refusal latches in one change: REFUSAL, and CHECK_ERROR for a bad-CRC frame (R152). -/
def RefusalCode.kinds : RefusalCode → EventSet
  | .badCheck => evCheckError ||| evRefusal
  | _ => evRefusal

/-- Refuse the message in hand: REFUSED reply, fault record and REFUSAL latch in one take (R158, R169). Where the latch places
a NOTICE, the manual leaves open whether that or the reply is placed first (R171): a FREE VALUE (assumption log 6). -/
def State.refuse (s : State) (code : RefusalCode) (field : Option Half) : State :=
  match s.msg.inHand with
  | none => s
  | some f =>
    let due := s.noticeDue code.kinds
    let noticeFirst := Config.openChoice s.choices % 2 == 0
    let base := s.lnk.placings
    let taken := { s with msg := { s.msg with inHand := none }, choices := s.choices + (if due then 1 else 0) }
    ((taken.recordFault f code field none).latchChanges code.kinds [code.kinds] s.now
      (base + if noticeFirst then 0 else 1)).fillReply 0xFF f.tag [code.code, f.type]
      (base + if due && noticeFirst then 1 else 0)

/-- Refuse one entry of the POST BATCH in hand: fault record with the entry's field number and index, and REFUSAL (R59). -/
def State.refuseEntry (s : State) (code : RefusalCode) (field : Half) (index : Nat) : State :=
  match s.msg.inHand with
  | none => s
  | some f => (s.recordFault f code (some field) (some index)).latch code.kinds s.now

/-! ### LAGGING (R71, R72) -/

/-- The queued total (R65). -/
def State.queuedTotal (s : State) : Nat := s.pnt.urgent.length + s.pnt.routine.length

/-- LAGGING rises: it is false and the total is equal to or greater than the threshold (R71, R72). -/
def State.lagRises (s : State) : Bool := !s.pnt.lagging && s.pnt.lagThreshold ≤ s.queuedTotal

/-- LAGGING falls: it is true and the total is below threshold div 2, or 0 where that is 0 (R71, R72). -/
def State.lagFalls (s : State) : Bool :=
  s.pnt.lagging && (s.queuedTotal < s.pnt.lagThreshold / 2 || (s.pnt.lagThreshold / 2 == 0 && s.queuedTotal == 0))

/-- LAGGING judged on the total as it stands. -/
def State.judgeLagging (s : State) : State :=
  { s with pnt := { s.pnt with lagging := (s.pnt.lagging || s.lagRises) && !s.lagFalls } }

/-- The occurrence that a rise of LAGGING between two states hands over (R71). -/
def lagChange (before after : State) : List EventSet :=
  if !before.pnt.lagging && after.pnt.lagging then [evPaintLag] else []

/-- PAINT_LAG latches where LAGGING has risen since a state before, at frame number N (R71). -/
def State.latchLagRise (s before : State) (n : FrameNo) : State :=
  if !before.pnt.lagging && s.pnt.lagging then s.latch evPaintLag n else s

end Sys2Proof.Machine
end

