-- ==== Sys2Proof/Machine/Ops.lean ====
section
/-! DEFINITION. The named operations that the commands share: field records, the enqueue rule, the alert and watch lists, the
render slots, going FREE, the take of a frame by MSG. -/

namespace Sys2Proof.Machine

/-! ### Field records -/

/-- Write the record of a field (R2). -/
def State.putField (s : State) (n : Nat) (f : Field) : State := { s with fields := Store.insert n f s.fields }

/-! ### Slots seen from a field (R2, R73) -/

/-- The slot that belongs to a field, with its number. -/
def slotOf (n : Nat) : List (Nat × Slot) → Option (Nat × Slot)
  | [] => none
  | e :: rest => if e.2.field = some n then some e else slotOf n rest

/-- The field holds a render slot, FILLING or READY (R53 condition 3). -/
def State.holdsSlot (s : State) (n : Nat) : Bool := (slotOf n s.pnt.slots).isSome

def SlotContent.isReady : SlotContent → Bool
  | .ready _ => true
  | .filling _ _ => false

/-- The field holds a READY slot (R75). -/
def State.holdsReadySlot (s : State) (n : Nat) : Bool :=
  (slotOf n s.pnt.slots).any fun e => e.2.content.isReady

/-- Give up the slots that a test names: a READY slot becomes FREE, and a FILLING slot is marked discard and belongs to no
field (R74, R79). -/
def abandonSlots (concerns : Slot → Bool) : List (Nat × Slot) → List (Nat × Slot)
  | [] => []
  | (k, slot) :: rest =>
    if concerns slot then
      match slot.content with
      | .ready _ => abandonSlots concerns rest
      | .filling inputs _ => (k, ⟨none, .filling inputs true⟩) :: abandonSlots concerns rest
    else (k, slot) :: abandonSlots concerns rest

/-! ### The paint queue (R65, R66, R68) -/

/-- The field has an entry in ROUTINE. -/
def State.inRoutine (s : State) (n : Nat) : Bool := s.pnt.routine.any fun e => e.field == n

/-- The field has an entry in URGENT. -/
def State.inUrgent (s : State) (n : Nat) : Bool := s.pnt.urgent.contains n

/-- A field's queue membership part as a code: 0 none, 1 URGENT, 2 ROUTINE (R2, R175). -/
def State.membershipCode (s : State) (n : Nat) : Byte :=
  if s.inUrgent n then 1 else if s.inRoutine n then 2 else 0

/-- Serve an enqueue request for a field (R66) and judge LAGGING where the queued total changes (R71). `urgentCause`: the cause
is a retire or an alert raise, which is URGENT whatever the class option (R67). -/
def State.enqueue (s : State) (n : Nat) (urgentCause : Bool) : State :=
  match s.field? n with
  | none => s
  | some f =>
    if !s.shows f then s
    else if s.inUrgent n then s
    else if s.inRoutine n then
      if urgentCause || f.options.urgent then
        { s with pnt := { s.pnt with urgent := s.pnt.urgent ++ [n],
                                     routine := s.pnt.routine.filter fun e => e.field != n } }
      else s
    else if urgentCause || f.options.urgent then
      ({ s with pnt := { s.pnt with urgent := s.pnt.urgent ++ [n] } }).judgeLagging
    else
      ({ s with pnt := { s.pnt with routine := s.pnt.routine ++ [RoutineEntry.mk n 0] } }).judgeLagging

/-- Serve an enqueue request and latch PAINT_LAG where LAGGING rises (R66, R71), at frame number N. -/
def State.enqueueAndLatch (s : State) (n : Nat) (urgentCause : Bool) (at_ : FrameNo) : State :=
  (s.enqueue n urgentCause).latchLagRise s at_

/-- Take a field's entry off the queue and judge LAGGING on the new total (R68, R71). -/
def State.removeEntry (s : State) (n : Nat) (at_ : FrameNo) : State :=
  if s.inUrgent n || s.inRoutine n then
    ({ s with pnt := { s.pnt with urgent := s.pnt.urgent.filter fun m => m != n,
                                  routine := s.pnt.routine.filter fun e => e.field != n } }).judgeLagging.latchLagRise s at_
  else s

/-- Take the entries of some fields off the queue, one after another. -/
def State.removeEntries (s : State) (at_ : FrameNo) : List Nat → State
  | [] => s
  | n :: rest => (s.removeEntry n at_).removeEntries at_ rest

/-- An enqueue made at frame boundary N: the entry that it appends is fresh, and is not aged at N (R69). -/
def State.enqueueAtBoundary (s : State) (n : Nat) (urgentCause : Bool) : State :=
  let t := s.enqueue n urgentCause
  if t.membershipCode n = s.membershipCode n then t
  else { t with boundary := t.boundary.map fun b => { b with fresh := n :: b.fresh } }

/-- Enqueues by class made at frame boundary N for some fields in turn, PAINT_LAG latched on each rise of LAGGING
(R86, R87). -/
def State.enqueueAllAtBoundary (s : State) (at_ : FrameNo) : List Nat → State
  | [] => s
  | n :: rest =>
    ((s.enqueueAtBoundary n false).latchLagRise s at_).enqueueAllAtBoundary at_ rest

/-! ### The alert list and the watch list (R142, R147) -/

/-- The capacity of the alert list (R142). -/
def alertCapacity : Nat := 32

/-- The capacity of the watch list (R146). -/
def watchCapacity : Nat := 16

/-- Offer a field to the alert list (R142). -/
def offerAlert (n : Nat) (list : List Nat) : List Nat :=
  if list.contains n || alertCapacity ≤ list.length then list else list ++ [n]

/-- The kinds that one raise latches: ALERT, and ALERT_FULL where the field finds the list full (R140, R142). -/
def alertKinds (n : Nat) (list : List Nat) : EventSet :=
  if !list.contains n && alertCapacity ≤ list.length then evAlert ||| evAlertFull else evAlert

/-- A record of the same field and kind is in the watch list (R147 check 1). -/
def watchHolds (r : WatchRecord) (list : List WatchRecord) : Bool :=
  list.any fun q => q.field == r.field && q.kind == r.kind

/-- Hand a record to the watch list (R147). -/
def addWatch (r : WatchRecord) (list : List WatchRecord) : List WatchRecord :=
  if watchHolds r list || watchCapacity ≤ list.length then list else list ++ [r]

/-- What handing over a record latches: nothing, WATCH_FULL or WATCH (R147). -/
def watchChange (r : WatchRecord) (list : List WatchRecord) : List EventSet :=
  if watchHolds r list then []
  else if watchCapacity ≤ list.length then [evWatchFull]
  else [evWatch]

/-! ### Going FREE (R23) -/

/-- A field goes FREE by a cause other than reset: record, alert list entry, watch records, queue entry and slot go together.
It latches nothing of its own. -/
def State.release (s : State) (n : Nat) (at_ : FrameNo) : State :=
  let t := s.removeEntry n at_
  { t with
    fields := Store.erase n t.fields
    pnt := { t.pnt with slots := abandonSlots (fun slot => slot.field == some n) t.pnt.slots }
    aeu := { t.aeu with alertList := t.aeu.alertList.filter fun m => m != n,
                        watchList := t.aeu.watchList.filter fun r => r.field != n } }

/-- Some fields go FREE, one after another. -/
def State.releaseAll (s : State) (at_ : FrameNo) : List Nat → State
  | [] => s
  | n :: rest => (s.release n at_).releaseAll at_ rest

/-! ### The frame boundary being taken (R103, assumption log 3) -/

/-- The number that the next boundary gives the frame counter (R103). -/
def State.boundaryNumber (s : State) : FrameNo := s.scr.frameCounter + 1

/-- The number that the frame counter stands at: while a boundary is begun, its number, because SCR advances the counter before
anything else of the boundary is done (R103, R106; assumption log 3). -/
def State.standingFrame (s : State) : FrameNo := if s.boundary.isSome then s.boundaryNumber else s.now

/-- A block takes its part of the next boundary: the first one to do so fixes whether expiries are held, from the freeze
state before any response to the boundary (R126). -/
def State.openBoundary (s : State) : State :=
  match s.boundary with
  | some _ => s
  | none =>
    { s with boundary := some { held := s.scr.frozen && s.scr.timerHold, aged := false, toggled := false,
                                examined := 0, fresh := [] } }

/-! ### MSG's take of a frame (R168) -/

/-- The capacity of the reply queue (R170). -/
def replyCapacity : Nat := 8

/-- MSG can take this frame: reset processing is not in progress, no message is in hand, a reply entry is FREE, and the frame
is the oldest HELD one. Where no frame is HELD, the receiver is hunting and no break holds RXD low, the frame comes in whole and
is taken at once (R162, assumption log 4). -/
def State.canTake (s : State) (f : Frame) : Bool :=
  s.resetCause.isNone && s.msg.inHand.isNone && s.entriesUsed < replyCapacity &&
    match s.lnk.arrival with
    | [] => s.lnk.receiver == .hunting && !s.lnk.rxLow
    | k :: _ => Store.find? k s.lnk.buffers == some (.held f)

/-- MSG takes the frame: it becomes the message in hand, with a RESERVED reply entry, and its buffer becomes FREE. -/
def State.take (s : State) (f : Frame) : State :=
  { s with
    msg := { s.msg with inHand := some f }
    lnk :=
      match s.lnk.arrival with
      | [] => s.lnk
      | k :: rest => { s.lnk with buffers := Store.erase k s.lnk.buffers, arrival := rest } }

end Sys2Proof.Machine
end

