-- ==== Sys2Proof/Machine/Format.lean ====
section
/-! DEFINITION. The formatter of chapter 2 (R26 to R46): the text of exactly a field's width for a display value. -/

namespace Sys2Proof.Machine

/-- What the formatter gives: w glyphs, and whether the fit result is "fitted" (R26, R28). -/
structure Formatted where
  glyphs : List Byte
  fitted : Bool
  deriving DecidableEq, Repr

/-! ### Glyphs (R31) -/

def glyphSpace : Byte := 0x20
def glyphMinus : Byte := 0x2D
def glyphPlus : Byte := 0x2B
def glyphComma : Byte := 0x2C
def glyphPoint : Byte := 0x2E
def glyphApostrophe : Byte := 0x27
def glyphStar : Byte := 0x2A
def glyphBox : Byte := 0x7F
def glyphK : Byte := 0x4B
def glyphM : Byte := 0x4D
def glyphB : Byte := 0x42

def digitGlyph (d : Nat) : Byte := BitVec.ofNat 8 (0x30 + d)

/-! ### Building numeric text (R30 to R33) -/

/-- The magnitude of a value, 0..2,147,483,648 (R30). -/
def magnitude (v : Word) : Nat := v.toInt.natAbs

/-- The decimal digits of a number, highest first, at most as many as the first argument. -/
def decimalDigits : Nat → Nat → List Nat
  | 0, _ => []
  | k + 1, n => if n < 10 then [n] else decimalDigits k (n / 10) ++ [n % 10]

/-- The digits of an integer part: no leading zeros, and at least one digit (R31). Ten digits hold every number that a format
forms (R30). -/
def integerDigits (n : Nat) : List Byte := (decimalDigits 10 n).map digitGlyph

/-- A separator between each group of three digits, counted from the right (R32). -/
def withSeparators : List Byte → List Byte
  | [] => []
  | d :: rest =>
    if rest.length != 0 && rest.length % 3 == 0 then d :: glyphComma :: withSeparators rest
    else d :: withSeparators rest

/-- A number as an integer part, with or without separators (R31, R32). -/
def integerPart (separators : Bool) (n : Nat) : List Byte :=
  if separators then withSeparators (integerDigits n) else integerDigits n

/-- A number written with exactly so many digits, padded with leading zeros (R31). -/
def fixedDigits (count n : Nat) : List Byte :=
  (List.range count).reverse.map fun i => digitGlyph (n / 10 ^ i % 10)

/-- The sign glyph of a candidate, from its own displayed magnitude (R33). -/
def signGlyphs (plus : Bool) (v : Word) (displayed : Nat) : List Byte :=
  if displayed = 0 then []
  else if v.toInt < 0 then [glyphMinus]
  else if plus && 0 < v.toInt then [glyphPlus]
  else []

/-- A candidate with separators first and then the one without, while the option is on; the one without alone while it is
off (R37, R40, R41). -/
def withAndWithout (separators : Bool) (text : Bool → List Byte) : List (List Byte) :=
  if separators then [text true, text false] else [text false]

/-! ### DECIMAL and CHANGE (R35 to R38) -/

/-- The displayed magnitude of a candidate with d of s decimals: rounded half up from m itself (R35). -/
def decimalDisplayed (m s d : Nat) : Nat :=
  if d = s then m else (m + 5 * 10 ^ (s - d - 1)) / 10 ^ (s - d)

/-- The text of a candidate with d decimals (R36). -/
def decimalText (plus : Bool) (v : Word) (s d : Nat) (separators : Bool) : List Byte :=
  let shown := decimalDisplayed (magnitude v) s d
  signGlyphs plus v shown ++ integerPart separators (shown / 10 ^ d) ++
    (if d = 0 then [] else glyphPoint :: fixedDigits d (shown % 10 ^ d))

/-- The candidate sequence, d = s, s − 1, … , 0 (R37). -/
def decimalCandidates (plus : Bool) (v : Word) (s : Nat) (separators : Bool) : List (List Byte) :=
  (List.range (s + 1)).reverse.flatMap fun d => withAndWithout separators (decimalText plus v s d)

/-! ### FRACTION (R39, R40) -/

/-- The number of decimal digits of D − 1, D = 2^k (R39). -/
def numeratorDigits (k : Nat) : Nat := (decimalDigits 10 (2 ^ k - 1)).length

/-- The text of a FRACTION candidate (R39). -/
def fractionText (v : Word) (k : Nat) (separators : Bool) : List Byte :=
  let m := magnitude v
  signGlyphs false v m ++ integerPart separators (m / 2 ^ k) ++
    glyphApostrophe :: fixedDigits (numeratorDigits k) (m % 2 ^ k)

/-- The FRACTION candidate sequence (R40). -/
def fractionCandidates (v : Word) (k : Nat) (separators : Bool) : List (List Byte) :=
  withAndWithout separators (fractionText v k)

/-! ### VOLUME (R41, R42) -/

/-- The plain candidate (R41 orders 1 and 2). -/
def volumePlain (v : Word) (separators : Bool) : List Byte :=
  signGlyphs false v (magnitude v) ++ integerPart separators (magnitude v)

/-- A suffixed candidate with one decimal: `unit` is 1,000, 1,000,000 or 1,000,000,000 (R41). -/
def volumeTenths (v : Word) (unit : Nat) (suffix : Byte) : List Byte :=
  let x := (magnitude v + unit / 20) / (unit / 10)
  signGlyphs false v x ++ integerDigits (x / 10) ++ [glyphPoint, digitGlyph (x % 10), suffix]

/-- A suffixed candidate with no decimal (R41). -/
def volumeWhole (v : Word) (unit : Nat) (suffix : Byte) : List Byte :=
  let y := (magnitude v + unit / 2) / unit
  signGlyphs false v y ++ integerDigits y ++ [suffix]

/-- The VOLUME candidate sequence (R41). -/
def volumeCandidates (v : Word) (separators : Bool) : List (List Byte) :=
  withAndWithout separators (volumePlain v) ++
    [volumeTenths v 1000 glyphK, volumeWhole v 1000 glyphK,
     volumeTenths v 1000000 glyphM, volumeWhole v 1000000 glyphM,
     volumeTenths v 1000000000 glyphB, volumeWhole v 1000000000 glyphB]

/-! ### Fitting (R34, R43 to R46) -/

/-- The first candidate whose length does not exceed w, right-aligned; overflow marks where none fits (R34, R46). -/
def fitNumeric (w : Nat) (candidates : List (List Byte)) : Formatted :=
  match candidates.find? fun text => text.length ≤ w with
  | some text => ⟨List.replicate (w - text.length) glyphSpace ++ text, true⟩
  | none => ⟨List.replicate w glyphStar, false⟩

/-- A stored glyph below 0x20 is written as the substitute box (R43). -/
def substituteGlyph (g : Byte) : Byte := if g.toNat < 0x20 then glyphBox else g

/-- A TEXT value fitted to w: cut from the end, or padded on the side away from its alignment (R43, R44, R45). -/
def fitText (w : Nat) (alignRight : Bool) (glyphs : List Byte) : Formatted :=
  let cut := (glyphs.take w).map substituteGlyph
  let padding := List.replicate (w - cut.length) glyphSpace
  ⟨if alignRight then padding ++ cut else cut ++ padding, true⟩

/-- The candidates of a numeric format; TEXT has none (R37, R38, R40, R41). -/
def numericCandidates (f : Field) (v : Word) : List (List Byte) :=
  match f.format with
  | .decimal => decimalCandidates false v f.scale f.options.separators
  | .change => decimalCandidates true v f.scale f.options.separators
  | .fraction => fractionCandidates v f.scale f.options.separators
  | .volume => volumeCandidates v f.options.separators
  | .text => []

/-- The formatter: w glyphs and a fit result for a display value (R26, R27). -/
def formatValue (f : Field) (display : Option Value) : Formatted :=
  match display with
  | none => ⟨List.replicate f.width glyphSpace, true⟩
  | some (.number v) => fitNumeric f.width (numericCandidates f v)
  | some (.text glyphs) => fitText f.width f.options.alignRight glyphs

end Sys2Proof.Machine
end

