-- ==== Sys2Proof/Machine/Render.lean ====
section
/-! DEFINITION. The painter of chapter 4: what a render shows and in which colours (R76 to R85), and its two events. -/

namespace Sys2Proof.Machine

/-! ### What a render shows (R81 to R83) -/

/-- The display value of a render, from the field's state when it begins (R81). -/
def Field.display (f : Field) : Option Value :=
  match f.state with
  | .live => f.value
  | .stale => f.value
  | .held => f.shown
  | .retiring => none

/-- The tick of a render: made for a LIVE field of a numeric format, by comparing the current value with the shown value as
signed integers (R82). -/
def Field.tick (f : Field) : Option Direction :=
  if f.state = .live && f.format != .text then
    match f.value, f.shown with
    | some (.number v), some (.number u) =>
      if u.toInt < v.toInt then some .up else if v.toInt < u.toInt then some .down else none
    | _, _ => none
  else none

/-- The direction of a value render: the tick's, or the field's as it stands (R82). -/
def Field.renderDirection (f : Field) : Direction := f.tick.getD f.direction

/-- A value render is marked "flash start": it has a tick and the flash length is not 0 (R83). -/
def Field.flashStarts (f : Field) : Bool := f.tick.isSome && f.flashLength != 0

/-! ### Colours (R84, R85) -/

/-- The sign of a display value as a direction: UP for positive, DOWN for negative, NONE for zero or absent (R38). -/
def signOf : Option Value → Direction
  | some (.number v) => if 0 < v.toInt then .up else if v.toInt < 0 then .down else .none
  | _ => .none

/-- The style's colour of a direction, and another where it is NONE. -/
def tint (y : Style) (other : Nibble) : Direction → Nibble
  | .up => y.up
  | .down => y.down
  | .none => other

/-- The colours and marks that a value render gives every cell, by the six steps of R84; `began` is the frame at which the
flash deadline is judged. The glyph is left to the formatter. -/
def Field.cellStyle (f : Field) (began : FrameNo) : Cell :=
  let y := f.style
  let d := f.renderDirection
  let step2 := tint y y.f (if f.format = .change then signOf f.display else d)
  let flashing := f.state = .live && (f.flashStarts || f.flashDeadline.any fun e => !reached e began)
  let quiet := f.state = .stale || f.state = .held
  let fg := if quiet then y.stale else if flashing then y.b else step2
  let bg := if quiet then y.b else if flashing then tint y y.b d else y.b
  { glyph := glyphSpace, fg := fg, bg := if f.alertLatched then y.alert else bg, blink := f.alertLatched,
    underline := f.state = .held }

/-- What a completed render leaves in its slot (R77, R84, R85). -/
def RenderInputs.rendered (i : RenderInputs) : Rendered :=
  match i.kind with
  | .blank =>
    { kind := .blank, cells := List.replicate i.record.width (blankCell i.defaultFg i.defaultBg), value := none,
      direction := .none, flashStart := false }
  | .value =>
    let style := i.record.cellStyle i.began
    { kind := .value,
      cells := (formatValue i.record i.record.display).glyphs.map fun g => { style with glyph := g },
      value := i.record.display, direction := i.record.renderDirection, flashStart := i.record.flashStarts }

/-- The overflow flag that a completed render leaves the field: a BLANK render leaves it unchanged (R28). -/
def RenderInputs.overflow (i : RenderInputs) (before : Bool) : Bool :=
  match i.kind with
  | .blank => before
  | .value => !(formatValue i.record i.record.display).fitted

/-! ### The painter (R75 to R80) -/

/-- The number of render slots (R73). -/
def slotCount : Nat := 32

def SlotContent.isFilling : SlotContent → Bool
  | .filling _ _ => true
  | .ready _ => false

/-- The slot that a render is writing, with its number; the painter is idle while there is none (R75). -/
def fillingSlot : List (Nat × Slot) → Option (Nat × Slot)
  | [] => none
  | e :: rest => if e.2.content.isFilling then some e else fillingSlot rest

/-- The painter is rendering (R160). -/
def State.rendering (s : State) : Bool := (fillingSlot s.pnt.slots).isSome

/-- The FREE slot with the lowest number (R76). -/
def State.freeSlot (s : State) : Option Nat :=
  (List.range slotCount).find? fun k => (Store.find? k s.pnt.slots).isNone

/-- The entry of a field can be served: it holds a READY slot, or a slot is FREE (R75). -/
def State.servable (s : State) (n : Nat) : Bool := s.holdsReadySlot n || s.freeSlot.isSome

/-- The field numbers in the order in which the painter scans the queue: URGENT, then ROUTINE (R75). -/
def State.scanOrder (s : State) : List Nat := s.pnt.urgent ++ s.pnt.routine.map RoutineEntry.field

/-- The first entry that can be served (R75). -/
def State.nextServed (s : State) : Option Nat := s.scanOrder.find? s.servable

/-- The slot of a render: the one the field holds, or the FREE slot with the lowest number (R76 step 1). -/
def State.slotFor (s : State) (n : Nat) : Option Nat :=
  match slotOf n s.pnt.slots with
  | some (k, _) => some k
  | none => s.freeSlot

/-- The inputs that a render of a field reads when it begins (R76 steps 3 and 4). -/
def State.renderInputs (s : State) (f : Field) : RenderInputs :=
  { kind := if f.state = .retiring then .blank else .value, record := f, defaultFg := s.scr.defaultFg,
    defaultBg := s.scr.defaultBg, began := s.now }

/-- The painter takes the entry of a field and its render begins in a slot (R68, R76, R78). -/
def State.beginRender (s : State) (n k : Nat) (f : Field) : State :=
  let t := s.removeEntry n s.now
  { t with pnt := { t.pnt with
      slots := Store.insert k ⟨some n, .filling (s.renderInputs f) false⟩ t.pnt.slots } }

/-- The painter begins a render where R75 lets it, and stays as it is otherwise. -/
def State.paintNext (s : State) : State :=
  if s.scr.frozen || s.rendering then s
  else
    match s.nextServed with
    | none => s
    | some n =>
      match s.field? n, s.slotFor n with
      | some f, some k => s.beginRender n k f
      | _, _ => s

/-- The render in flight completes (R77). -/
def State.finishRender (s : State) : State :=
  match fillingSlot s.pnt.slots with
  | some (k, ⟨some n, .filling inputs false⟩) =>
    let t := { s with pnt := { s.pnt with slots := Store.insert k ⟨some n, .ready inputs.rendered⟩ s.pnt.slots } }
    match t.field? n with
    | some f => t.putField n { f with overflow := inputs.overflow f.overflow }
    | none => t
  | some (k, _) => { s with pnt := { s.pnt with slots := Store.erase k s.pnt.slots } }
  | none => s

end Sys2Proof.Machine
end

