-- ==== Sys2Proof/Machine/Commit.lean ====
section
/-! DEFINITION. SCR's work on the plane at a frame boundary: commits, page changes, reconfiguration, the freeze limit (chapter 6). -/

namespace Sys2Proof.Machine

/-! ### Commits (R107 to R110) -/

/-- The record of a field after the commit of its VALUE slot at N: shown value and frame, direction and flash deadline (R107,
R108). -/
def Field.committed (f : Field) (r : Rendered) (n : FrameNo) : Field :=
  { f with
    shown := if r.value.isSome then r.value else f.shown
    shownFrame := if r.value.isSome then some n else f.shownFrame
    direction := r.direction
    flashDeadline :=
      if r.flashStart && f.state = .live then some (n + BitVec.ofNat 32 f.flashLength) else f.flashDeadline }

/-- Commit one READY slot that belongs to a field at N: its cells go to the plane, and the slot becomes FREE; a BLANK commit
makes the field FREE (R107, R109). -/
def State.commitSlot (s : State) (n : FrameNo) (k : Nat) : State :=
  match Store.find? k s.pnt.slots with
  | some ⟨some m, .ready r⟩ =>
    match s.field? m with
    | some f =>
      let t := { s with
        scr := { s.scr with
          plane := Memory.writeRun s.scr.plane (s.scr.geometry.place f.row f.column) r.cells }
        pnt := { s.pnt with slots := Store.erase k s.pnt.slots } }
      match r.kind with
      | .value => t.putField m (f.committed r n)
      | .blank => t.release m n
    | none => s
  | _ => s

/-- Commit the READY slots with some numbers, one after another. -/
def State.commitSlots (s : State) (n : FrameNo) : List Nat → State
  | [] => s
  | k :: rest => (s.commitSlot n k).commitSlots n rest

/-- R106 step 3: unless the part is frozen, every READY slot is committed. -/
def State.commitAll (s : State) (n : FrameNo) : State :=
  if s.scr.frozen then s else s.commitSlots n (List.range slotCount)

/-! ### Page change (R86, R112, R113) -/

/-- The cells that a page change keeps: those covered by a COMMON field in use (R112 step 1). -/
def State.commonCovers (s : State) (place : Nat) : Bool :=
  s.fields.any fun e => e.2.page = .common && e.2.covers s.scr.geometry place

/-- The field numbers of the fields in use of a numbered page, lowest first. -/
def State.numbersOfPage (s : State) (p : BitVec 2) : List Nat :=
  (s.fields.filter fun e => e.2.page = .numbered p).map Prod.fst

/-- A field without the parts that leaving the panel drops: shown value, shown frame and flash deadline (R112 step 3, R116
step 4). -/
def Field.unshown (f : Field) : Field := { f with shown := none, shownFrame := none, flashDeadline := none }

/-- The default blank cell in the default colours in effect (R90). -/
def State.defaultBlank (s : State) : Cell := blankCell s.scr.defaultFg s.scr.defaultBg

/-- The field numbers of the fields of a page that are RETIRING. -/
def State.retiringOfPage (s : State) (p : BitVec 2) : List Nat :=
  (s.fields.filter fun e => e.2.page = .numbered p && e.2.state = .retiring).map Prod.fst

/-- R112 steps 1 and 2 and the shown values of step 3: the plane is blanked, and the departing fields give up their slots,
shown values and flash deadlines. -/
def State.clearPage (s : State) (p : BitVec 2) : State :=
  { s with
    scr := { s.scr with
      plane := Memory.blankBut s.commonCovers s.defaultBlank s.scr.geometry.cells s.scr.plane }
    pnt := { s.pnt with
      slots := abandonSlots (fun slot => slot.field.any fun m => (s.numbersOfPage p).contains m) s.pnt.slots }
    fields := s.fields.map fun e => if e.2.page = .numbered p then (e.1, e.2.unshown) else e }

/-- The page change from the selected page to q at N, with PNT's response and the deferred reply (R86, R112, R113). -/
def State.changePage (s : State) (request : PendingPage) (n : FrameNo) : State :=
  let p := s.scr.page
  let q := request.page
  let cleared := (s.clearPage p).releaseAll n (s.retiringOfPage p)
  let turned := { cleared with scr := { cleared.scr with page := q } }
  let removed := if q = p then turned else turned.removeEntries n (turned.numbersOfPage p)
  let wanted := removed.numbersOfPage q
  let queued := removed.enqueueAllAtBoundary n wanted
  { queued with msg := { queued.msg with pendingPage := none } }.fillReply 0x86 request.tag
    (q.zeroExtend 8 :: bytesOfCount wanted.length) queued.lnk.placings

/-! ### Reconfiguration (R70, R72, R87, R115 to R117) -/

/-- The parameters take effect, and LAGGING is judged afresh against the new threshold (R70, R72, R115). -/
def State.takeParameters (s : State) (c : PendingConfigure) (n : FrameNo) : State :=
  let t := { s with
    scr := { s.scr with defaultFg := c.fg, defaultBg := c.bg, blinkPeriod := c.blinkPeriod }
    pnt := { s.pnt with ageLimit := c.ageLimit, lagThreshold := c.lagThreshold } }
  t.judgeLagging.latchLagRise s n

/-- The fields that a geometry change releases: those out of bounds of the new geometry, and every RETIRING one (R116
step 3). -/
def State.releasedBy (s : State) (g : Geometry) : List Nat :=
  (s.fields.filter fun e => !e.2.inBounds g || e.2.state = .retiring).map Prod.fst

/-- The field numbers of the visible fields in use, lowest first. -/
def State.visibleNumbers (s : State) : List Nat := (s.fields.filter fun e => s.shows e.2).map Prod.fst

/-- R116 steps 1, 2 and 4: the new plane, all slots given up, all shown values and flash deadlines dropped. -/
def State.clearForGeometry (s : State) (g : Geometry) : State :=
  { s with
    scr := { s.scr with geometry := g, plane := Memory.blankBut (fun _ => false) s.defaultBlank g.cells s.scr.plane }
    pnt := { s.pnt with slots := abandonSlots (fun _ => true) s.pnt.slots }
    fields := s.fields.map fun e => (e.1, e.2.unshown) }

/-- The geometry change at N with PNT's response (R87, R116). -/
def State.changeGeometry (s : State) (g : Geometry) (n : FrameNo) : State :=
  let released := (s.clearForGeometry g).releaseAll n (s.releasedBy g)
  let emptied := released.removeEntries n released.scanOrder
  emptied.enqueueAllAtBoundary n emptied.visibleNumbers

/-- A CONFIGURE DISPLAY applied at N, with the deferred reply (R115, R116, R117). -/
def State.applyConfigure (s : State) (c : PendingConfigure) (n : FrameNo) : State :=
  let taken := s.takeParameters c n
  let same := c.geometry = s.scr.geometry
  let done := if same then taken else taken.changeGeometry c.geometry n
  let released := if same then 0 else (taken.releasedBy c.geometry).length
  { done with msg := { done.msg with pendingConfigure := none } }.fillReply 0x83 c.tag
    (c.geometry.code :: bytesOfCount released) done.lnk.placings

/-- R106 step 2: unless the part is frozen, the pending operation is applied. At most one is pending. -/
def State.applyPendingPage (s : State) (n : FrameNo) : State :=
  match s.msg.pendingPage with
  | some request => if s.scr.frozen then s else s.changePage request n
  | none => s

def State.applyPendingConfigure (s : State) (n : FrameNo) : State :=
  match s.msg.pendingConfigure with
  | some c => if s.scr.frozen then s else s.applyConfigure c n
  | none => s

/-! ### The freeze limit (R106 step 1, R122) -/

/-- The freeze reaches its limit at N. -/
def State.freezeDue (s : State) (n : FrameNo) : Bool := s.scr.frozen && dueAt s.scr.freezeDeadline n

/-- The freeze ends: not frozen, no deadline, timer-hold clear (R121, R122). -/
def State.endFreeze (s : State) : State :=
  { s with scr := { s.scr with frozen := false, freezeDeadline := none, timerHold := false } }

/-- R106 step 1. -/
def State.expireFreeze (s : State) (n : FrameNo) : State :=
  if s.freezeDue n then s.endFreeze.latch evFreezeExpired n else s

/-! ### Staged palette and mode, and the blink (R96, R99, R101) -/

/-- Every index with a staged colour takes it; the staged set becomes empty (R96). -/
def State.applyPalette (s : State) : State :=
  { s with scr := { s.scr with
      palette := List.zipWith (fun now staged => staged.getD now) s.scr.palette s.scr.stagedPalette
      stagedPalette := List.replicate 16 none } }

/-- The staged pair, if one is staged, takes effect (R99). -/
def State.applyMode (s : State) : State :=
  match s.scr.stagedMode with
  | some (mode, level) => { s with scr := { s.scr with mode := mode, brightness := level, stagedMode := none } }
  | none => s

/-- The blink period in effect from boundary N: that of a CONFIGURE DISPLAY that N applies, or the current one (R101, R103). -/
def State.periodAt (s : State) (n : FrameNo) : Nat :=
  match s.msg.pendingConfigure with
  | some c => if s.scr.frozen && !s.freezeDue n then s.scr.blinkPeriod else c.blinkPeriod
  | none => s.scr.blinkPeriod

/-- The phase toggles at a boundary whose number is a multiple of the period in effect from it (R101). -/
def State.togglesAt (s : State) (n : FrameNo) : Bool := n.toNat % s.periodAt n == 0

/-- The blink phase judged at N, once per boundary (R101). -/
def State.judgeBlink (s : State) (n : FrameNo) : State :=
  if s.boundary.any fun b => b.toggled then s
  else
    { s with
      scr := { s.scr with blinkOn := s.scr.blinkOn != s.togglesAt n }
      boundary := s.boundary.map fun b => { b with toggled := true } }

end Sys2Proof.Machine
end

