-- ==== Sys2Proof/Machine/Boundary.lean ====
section
/-! DEFINITION. The frame boundary: PNT's aging (R69), FTU's expiries (R125 to R129), the boundary as a whole (R103, R106), and
the commands that take it or one block's part of it. -/

namespace Sys2Proof.Machine

/-! ### Aging (R69) -/

/-- An entry that stood in ROUTINE before the boundary, one wait count older. -/
def RoutineEntry.aged (fresh : List Nat) (e : RoutineEntry) : RoutineEntry :=
  if fresh.contains e.field then e else { e with wait := e.wait + 1 }

/-- An entry that aging promotes: it stood before the boundary and its new wait count has reached the limit. -/
def RoutineEntry.promoted (fresh : List Nat) (limit : Nat) (e : RoutineEntry) : Bool :=
  !fresh.contains e.field && limit ≤ e.wait + 1

/-- PNT ages ROUTINE, once per boundary. The promoted entries join URGENT in their order, ahead of the entries that this
boundary has appended (R69). -/
def State.age (s : State) : State :=
  match s.boundary with
  | none => s
  | some b =>
    if b.aged then s
    else
      { s with
        pnt := { s.pnt with
          urgent :=
            s.pnt.urgent.filter (fun m => !b.fresh.contains m) ++
              (s.pnt.routine.filter (RoutineEntry.promoted b.fresh s.pnt.ageLimit)).map RoutineEntry.field ++
              s.pnt.urgent.filter (fun m => b.fresh.contains m)
          routine :=
            (s.pnt.routine.filter fun e => !e.promoted b.fresh s.pnt.ageLimit).map (RoutineEntry.aged b.fresh) }
        boundary := some { b with aged := true } }

/-! ### Expiries (R125 to R129) -/

/-- A field has an expiry due at N. -/
def Field.expires (f : Field) (n : FrameNo) : Bool := dueAt f.staleDeadline n || dueAt f.flashDeadline n

/-- The record after the expiries due at N: a stale expiry makes the field STALE, and each deadline reached becomes absent
(R127, R128, R129). -/
def Field.expired (f : Field) (n : FrameNo) : Field :=
  { f with
    state := if dueAt f.staleDeadline n then .stale else f.state
    staleDeadline := if dueAt f.staleDeadline n then none else f.staleDeadline
    flashDeadline := if dueAt f.flashDeadline n then none else f.flashDeadline }

/-- The STALE watch record is handed over at a stale expiry with the stale watch option on (R127). -/
def Field.handsStale (f : Field) (n : FrameNo) : Bool := dueAt f.staleDeadline n && f.options.staleWatch

/-- FTU takes the expiries of one field that are due at N, as one change: record, watch record, one enqueue by class (R127,
R128, R129). The watch record's occurrence and a rise of LAGGING are separate changes. -/
def State.expireField (s : State) (m : Nat) (f : Field) (n : FrameNo) : State :=
  let r : WatchRecord := ⟨m, .stale, n⟩
  let put := s.putField m (f.expired n)
  let handed :=
    if f.handsStale n then { put with aeu := { put.aeu with watchList := addWatch r put.aeu.watchList } } else put
  let queued := handed.enqueueAtBoundary m false
  queued.latchOpen
    [if f.handsStale n then watchChange r s.aeu.watchList else [], lagChange handed queued] n

/-- FTU examines a field at N. -/
def State.examine (s : State) (n : FrameNo) (m : Nat) : State :=
  match s.field? m with
  | some f => if f.expires n then s.expireField m f n else s
  | none => s

/-- FTU examines some fields in turn. -/
def State.examineAll (s : State) (n : FrameNo) : List Nat → State
  | [] => s
  | m :: rest => (s.examine n m).examineAll n rest

/-- FTU has examined the fields below a number at the boundary being taken. -/
def State.markExamined (s : State) (upTo : Nat) : State :=
  { s with boundary := s.boundary.map fun b => { b with examined := upTo } }

/-- The number of field records (R1). -/
def fieldCount : Nat := 512

/-- FTU takes its whole part of boundary N: every field not yet examined, lowest number first, unless expiries are held
(R125, R126). -/
def State.takeExpiries (s : State) (n : FrameNo) : State :=
  match s.boundary with
  | none => s
  | some b =>
    if b.held then s.markExamined fieldCount
    else (s.examineAll n (s.numbers.filter fun m => b.examined ≤ m)).markExamined fieldCount

/-- The field whose expiry FTU takes next at N (R125). -/
def State.nextExpiry (s : State) (n : FrameNo) : Option Nat :=
  match s.boundary with
  | none => none
  | some b =>
    if b.held then none
    else ((s.fields.filter fun e => b.examined ≤ e.1 && e.2.expires n).map Prod.fst).head?

/-! ### The boundary as a whole (R103, R106) -/

/-- SCR's first work at N: the counter and the staged palette, mode and brightness (R96, R99, R103). -/
def State.startBoundary (s : State) (n : FrameNo) : State :=
  let t := { s with scr := { s.scr with frameCounter := n } }
  t.applyPalette.applyMode

/-- SCR's freeze, pending-operation and commit work in the order of R106, with the blink judged against the period in effect
from N. -/
def State.screenWork (s : State) (agingFirst : Bool) (n : FrameNo) : State :=
  let before := if agingFirst then s.age else s
  ((((before.expireFreeze n).applyPendingPage n).applyPendingConfigure n).age.judgeBlink n).commitAll n

/-- The FRAME latch of AEU at N (R152), made first or last. -/
def State.latchFrameIf (s : State) (now : Bool) (n : FrameNo) : State := if now then s.latch evFrame n else s

/-- Every block takes what it has not yet taken of the next boundary, and the boundary is over. -/
def State.takeBoundary (s : State) (order : BoundaryOrder) : State :=
  let n := s.boundaryNumber
  let started := (s.openBoundary.startBoundary n).latchFrameIf order.frameFirst n
  let early := if order.ftuFirst then started.takeExpiries n else started
  let screened := early.screenWork order.agingFirst n
  let taken := (screened.takeExpiries n).latchFrameIf (!order.frameFirst) n
  { taken with boundary := none }

/-- The order in which a boundary that other blocks have begun is finished before a request or a render is taken. -/
def settlingOrder : BoundaryOrder := ⟨false, false, false⟩

/-- A boundary that a block has begun to take is over before MSG takes a request and before a render begins or completes
(R47, R103, R112). -/
def State.settle (s : State) : State :=
  match s.boundary with
  | none => s
  | some _ => s.takeBoundary settlingOrder

/-! ### The commands -/

/-- Reset processing is in progress: no block responds to a frame boundary (R103, R173). -/
def State.inReset (s : State) : Bool := s.resetCause.isSome

/-- FRAME_BOUNDARY (R103): SCR takes the boundary, and every block does what it has not yet done at it. -/
def execFrameBoundary (order : BoundaryOrder) (s : State) : Host.Outcome State Fault Refusal :=
  if s.inReset then .next s else .next (s.takeBoundary order)

/-- BLINK_TOGGLE (R101): at a boundary whose number is a multiple of the blink period. -/
def execBlinkToggle (s : State) : Host.Outcome State Fault Refusal :=
  let t := s.openBoundary
  if s.inReset || !s.togglesAt s.boundaryNumber then .next s else .next (t.judgeBlink s.boundaryNumber)

/-- FREEZE_EXPIRED (R122): SCR ends the freeze at its limit; the boundary's pending work and commits follow. -/
def execFreezeExpired (s : State) : Host.Outcome State Fault Refusal :=
  if s.inReset || !s.freezeDue s.boundaryNumber then .next s
  else .next (s.openBoundary.expireFreeze s.boundaryNumber)

/-- STALE_EXPIRY (R127, R129): FTU takes the stale expiry of the field that comes next in its examination. -/
def execStaleExpiry (m : Nat) (s : State) : Host.Outcome State Fault Refusal :=
  let t := s.openBoundary
  let n := s.boundaryNumber
  match t.field? m with
  | some f =>
    if !s.inReset && t.nextExpiry n = some m && dueAt f.staleDeadline n then
      .next ((t.expireField m f n).markExamined (m + 1))
    else .next s
  | none => .next s

/-- FLASH_EXPIRY (R128): FTU takes the flash expiry of the field that comes next in its examination and has no stale expiry
due with it (R129). -/
def execFlashExpiry (m : Nat) (s : State) : Host.Outcome State Fault Refusal :=
  let t := s.openBoundary
  let n := s.boundaryNumber
  match t.field? m with
  | some f =>
    if !s.inReset && t.nextExpiry n = some m && !dueAt f.staleDeadline n then
      .next ((t.expireField m f n).markExamined (m + 1))
    else .next s
  | none => .next s

/-- AGING (R69): PNT's part of the boundary. -/
def execAging (s : State) : Host.Outcome State Fault Refusal :=
  if s.inReset then .next s else .next s.openBoundary.age

/-- PAGE_CHANGE (R112): the pending SELECT PAGE is applied at an unfrozen boundary. -/
def execPageChange (s : State) : Host.Outcome State Fault Refusal :=
  if s.inReset || s.scr.frozen || s.msg.pendingPage.isNone then .next s
  else .next (s.openBoundary.applyPendingPage s.boundaryNumber)

/-- CONFIGURATION_APPLY (R115): the pending CONFIGURE DISPLAY is applied at an unfrozen boundary. -/
def execConfigurationApply (s : State) : Host.Outcome State Fault Refusal :=
  if s.inReset || s.scr.frozen || s.msg.pendingConfigure.isNone then .next s
  else .next (s.openBoundary.applyPendingConfigure s.boundaryNumber)

/-- RENDER_BEGIN (R75, R76): the painter takes the first entry that can be served. -/
def execRenderBegin (s : State) : Host.Outcome State Fault Refusal :=
  if s.inReset then .next s else .next s.settle.paintNext

/-- RENDER_COMPLETE (R77): the render in flight completes. -/
def execRenderComplete (s : State) : Host.Outcome State Fault Refusal :=
  if s.inReset then .next s else .next s.settle.finishRender

end Sys2Proof.Machine
end

