-- ==== Sys2Proof/Machine/Link.lean ====
section
/-! DEFINITION. LNK: the receiver (R164 to R167), MSG's take and validation of a frame (R168, R169), the transmitter (R170, R171),
and reset processing (R173, R174). -/

namespace Sys2Proof.Machine

/-! ### The receiver -/

/-- The number of input buffers (R167). -/
def bufferCount : Nat := 6

/-- The lowest-numbered FREE input buffer (R164). -/
def Link.freeBuffer (l : Link) : Option Nat :=
  (List.range bufferCount).find? fun k => (Store.find? k l.buffers).isNone

/-- Latch a line event at the frame number of the moment; it does not wait for a begun boundary to be over (R153). -/
def State.latchLine (s : State) (kinds : EventSet) : State := s.latch kinds s.standingFrame

/-- Append a byte to a FILLING buffer (R164); a discarded frame's bytes are not stored (R166). -/
def Link.storeByte (l : Link) (buffer : Option Nat) (b : Byte) : Link :=
  match buffer with
  | none => l
  | some k =>
    match Store.find? k l.buffers with
    | some (.filling stored) => { l with buffers := Store.insert k (.filling (stored ++ [b])) l.buffers }
    | _ => l

/-- A FILLING buffer becomes FREE (R164, R165). -/
def Link.dropBuffer (l : Link) (buffer : Option Nat) : Link :=
  match buffer with
  | none => l
  | some k => { l with buffers := Store.erase k l.buffers }

/-- The frame is complete: its buffer becomes HELD, marked good or bad-CRC, and joins the arrival order (R164). -/
def Link.holdFrame (l : Link) (buffer : Option Nat) : Link :=
  match buffer with
  | none => l
  | some k =>
    match Store.find? k l.buffers with
    | some (.filling stored) =>
      match frameOfStored stored with
      | some f => { l with buffers := Store.insert k (.held f) l.buffers, arrival := l.arrival ++ [k] }
      | none => l
    | _ => l

/-- The receiver takes one byte (R164, R166). -/
def State.receiveByte (s : State) (b : Byte) : State :=
  match s.lnk.receiver with
  | .hunting =>
    if b = sof then
      match s.lnk.freeBuffer with
      | some k =>
        { s with lnk := { s.lnk with receiver := .expectLen (some k),
                                     buffers := Store.insert k (.filling []) s.lnk.buffers } }
      | none => ({ s with lnk := { s.lnk with receiver := .expectLen none } }).latchLine evOverrun
    else s
  | .expectLen buffer =>
    if b.toNat ≤ maxPayload then
      { s with lnk := { s.lnk.storeByte buffer b with receiver := .inFrame buffer (b.toNat + 4) } }
    else ({ s with lnk := { s.lnk.dropBuffer buffer with receiver := .hunting } }).latchLine evFraming
  | .inFrame buffer left =>
    if left ≤ 1 then
      { s with lnk := { (s.lnk.storeByte buffer b).holdFrame buffer with receiver := .hunting } }
    else { s with lnk := { s.lnk.storeByte buffer b with receiver := .inFrame buffer (left - 1) } }

/-- A break on RXD begins, or the line returns high (R162). -/
def State.setRxLow (s : State) (low : Bool) : State := { s with lnk := { s.lnk with rxLow := low } }

/-- What the host does to RXD (R162): a character is taken with the data bits received, whatever its stop bit; a break is taken
as one byte 0x00, and no further byte is taken until the line returns high. -/
def State.receiveSignal (s : State) : LineSignal → State
  | .character c => if s.lnk.rxLow then s else s.receiveByte c.data
  | .heldLow => if s.lnk.rxLow then s else (s.receiveByte 0x00).setRxLow true
  | .returnsHigh => s.setRxLow false

/-- The receiver takes what arrives on RXD in turn. -/
def State.receiveSignals (s : State) : List LineSignal → State
  | [] => s
  | x :: rest => (s.receiveSignal x).receiveSignals rest

/-- The buffer that a frame in frame has claimed. -/
def Receiver.buffer : Receiver → Option Nat
  | .hunting => none
  | .expectLen buffer => buffer
  | .inFrame buffer _ => buffer

/-- FRAME_RECEIVED (R162, R164, R166): characters arrive; during reset processing the receiver takes none (R173). -/
def execFrameReceived (signals : List LineSignal) (s : State) : Host.Outcome State Fault Refusal :=
  if s.inReset then .next s else .next (s.receiveSignals signals)

/-- GAP_TIMEOUT (R165): a gap of more than 2 ms ends a frame in frame, a break's low time counted in (R162); while the receiver
is hunting it does nothing. -/
def execGapTimeout (s : State) : Host.Outcome State Fault Refusal :=
  if s.inReset || s.lnk.receiver = .hunting then .next s
  else
    .next (({ s with
      lnk := { s.lnk.dropBuffer s.lnk.receiver.buffer with receiver := .hunting } }).latchLine evFraming)

/-! ### MSG's take (R168, R169) -/

/-- MSG takes the frame that the command stands for and acts on it; where it cannot take it, the frame is not taken and nothing
changes (R168, assumption log 4). -/
def State.takeThen (s : State) (command : Instr) (act : State → State) : Host.Outcome State Fault Refusal :=
  match command.frame? with
  | none => .next s
  | some f => if s.settle.canTake f then .next (act (s.settle.take f)) else .next s

/-- R169 check 3, then the request's own rule. -/
def State.checkLength {α : Type} (s : State) (p : Carried α) (act : α → State → State) : State :=
  match p with
  | .fields a => act a s
  | .wrongLength _ => s.refuse .badLength none

/-- UNKNOWN_TYPE (R169 check 2). -/
def execUnknownType (type tag : Byte) (payload : List Byte) (s : State) : Host.Outcome State Fault Refusal :=
  s.takeThen (.unknownType type tag payload) fun t => t.refuse .unknownType none

/-- BAD_CHECK (R169 check 1): CHECK_ERROR and REFUSAL latch together (R152). -/
def execBadCheck (type tag : Byte) (payload : List Byte) (s : State) : Host.Outcome State Fault Refusal :=
  s.takeThen (.badCheck type tag payload) fun t => t.refuse .badCheck none

/-! ### The transmitter (R170, R171) -/

/-- The payload of a NOTICE: latched set and frame number (R175). -/
def Notice.payload (x : Notice) : List Byte := bytesOfHalf x.latched ++ bytesOfWord x.frame

/-- The NOTICE on the line: TYPE 0xFE, TAG 0 (R153, R171). -/
def Notice.bytes (x : Notice) : List Byte := lineBytes 0xFE 0 x.payload

/-- A reply on the line (R163). -/
def Reply.bytes (r : Reply) : List Byte := lineBytes r.type r.tag r.payload

/-- The idle transmitter begins the waiting frame with the earliest placing time; a NOTICE leaves the notice slot (R171). -/
def Link.begin_ (l : Link) : Link :=
  match l.replies, l.notice with
  | [], none => l
  | r :: _, none => { l with sending := some (.reply r.bytes) }
  | [], some x => { l with sending := some (.notice x.bytes), notice := none }
  | r :: _, some x =>
    if x.placed < r.placed then { l with sending := some (.notice x.bytes), notice := none }
    else { l with sending := some (.reply r.bytes) }

/-- TRANSMIT_BEGIN (R171): TXEN is judged when a frame would begin; with it low, or while a frame is being sent, none begins. -/
def execTransmitBegin (txen : Bool) (s : State) : Host.Outcome State Fault Refusal :=
  if s.inReset || s.lnk.sending.isSome then .next s
  else
    let l := { s.lnk with txen := txen }
    .next { s with lnk := if txen then l.begin_ else l }

/-- TRANSMIT_COMPLETE (R170): the CRC low byte is sent; a reply's entry, the oldest FILLED one, becomes FREE. -/
def execTransmitComplete (s : State) : Host.Outcome State Fault Refusal :=
  match s.lnk.sending with
  | none => .next s
  | some (.reply _) => .next { s with lnk := { s.lnk with sending := none, replies := s.lnk.replies.drop 1 } }
  | some (.notice _) => .next { s with lnk := { s.lnk with sending := none } }

/-- The bytes of the frame being sent; none while the transmitter is idle (R171). -/
def Link.bytesSent (l : Link) : List Byte :=
  match l.sending with
  | none => []
  | some (.reply bytes) => bytes
  | some (.notice bytes) => bytes

/-- Of the frame being sent, the bytes that are begun once some bit times of it have passed: the last of them is the byte being
sent. A frame that an earlier beginning of reset processing cut off keeps its bytes (R173). -/
def Link.bytesBegun (l : Link) (bitTimes : Nat) : List Byte :=
  if l.sending.isSome then l.bytesSent.take (bitTimes / 10 + 1) else l.cut

/-- The level of TXD so many bit times after the frame being sent began: its bytes stand back to back, each a low start bit, the
data bits least significant first, and one high stop bit; TXD is high between frames (R162). During reset processing it is that
of the bytes that the cut-off lets complete, and then high (R173). -/
def State.txd (s : State) (bitTime : Nat) : Bool :=
  let bytes := if s.inReset then s.lnk.cut else s.lnk.bytesSent
  (bytes.flatMap fun b => (characterOf b true).levels).getD bitTime true

/-! ### Reset processing (R162, R173, R174) -/

/-- Reset processing begins: every block takes its reset values, everything in flight is dropped, a frame being sent is cut off at
the end of the byte being sent, and the straps are sampled. Which byte that is, is a FREE VALUE (assumption log 14). The level of
TXEN, the model's commands that wait and its count of open choices are no state of a block. -/
def State.beginReset (s : State) (cause : ResetCause) (resetn : Bool) (straps : Straps) : State :=
  { State.reset with
    lnk := { Link.reset with
      rate := straps, txen := s.lnk.txen, cut := s.lnk.bytesBegun (Config.bitTimesSent s.choices) }
    resetCause := some cause
    resetn := resetn
    choices := s.choices + (if s.lnk.sending.isSome then 1 else 0)
    pending := s.pending }

/-- RESET (R173): an accepted request begins reset processing. -/
def execReset (tag : Byte) (p : Carried Unit) (straps : Straps) (s : State) : Host.Outcome State Fault Refusal :=
  s.takeThen (.reset tag p straps) fun t =>
    t.checkLength p fun _ u => u.beginReset (.request tag) true straps

/-- RESETN (R173): driven low, it begins reset processing in every state, or starts it again with the cause POWER. -/
def execResetn (straps : Straps) (s : State) : Host.Outcome State Fault Refusal :=
  .next (s.beginReset .power false straps)

/-- The tag of RESET DONE (R174). -/
def ResetCause.tag : ResetCause → Byte
  | .power => 0
  | .request tag => tag

/-- The cause that RESET DONE carries (R174, R175). -/
def ResetCause.code : ResetCause → Byte
  | .power => 0
  | .request _ => 1

/-- RESET_DONE (R171, R174): reset processing completes with the transmitter idle, RDY rises and RESET DONE is placed. Without
reset processing nothing completes. -/
def execResetDone (s : State) : Host.Outcome State Fault Refusal :=
  match s.resetCause with
  | none => .next s
  | some cause =>
    .next (({ s with resetCause := none, resetn := true, lnk := { s.lnk with cut := [] } }).fillReply 0x8F cause.tag
      [cause.code] s.lnk.placings)

end Sys2Proof.Machine
end

