-- ==== Sys2Proof/Machine/Fields.lean ====
section
/-! DEFINITION. The field requests of chapter 1: DEFINE FIELD, RESTYLE FIELD, SET LIMITS, DELETE FIELD, READ FIELD. -/

namespace Sys2Proof.Machine

/-- The first two checks of most field requests: the number, and a field that is FREE or RETIRING (R10, R15, R18, R20). -/
def State.onField (s : State) (number : Half) (act : Nat → Field → State) : State :=
  if fieldCount ≤ number.toNat then s.refuse .badField (some number)
  else
    match s.field? number.toNat with
    | none => s.refuse .notDefined (some number)
    | some f => if f.state = .retiring then s.refuse .notDefined (some number) else act number.toNat f

/-! ### DEFINE FIELD (R11 to R14) -/

/-- The first failing check of DEFINE FIELD after the number's, or the page and format that the codes name (R11). -/
def State.checkDefine (s : State) (r : DefineFields) : Except RefusalCode (Page × Format) :=
  if (s.field? r.number.toNat).isSome then .error .inUse
  else
    match Page.ofCode r.page, Format.ofCode r.format with
    | some page, some format =>
      if r.width.toNat = 0 || 40 < r.width.toNat then .error .badValue else .ok (page, format)
    | _, _ => .error .badValue

/-- The record that an accepted DEFINE FIELD writes (R12, R13). -/
def DefineFields.record (r : DefineFields) (page : Page) (format : Format) : Field :=
  { state := .live, page := page, row := r.row.toNat, column := r.column.toNat, width := r.width.toNat, format := format,
    scale := storedScale format r.scale.toNat, options := Options.ofByte r.options, style := r.style,
    flashLength := r.flashLength.toNat, staleInterval := r.staleInterval.toNat, value := none, lastPost := none,
    shown := none, shownFrame := none, direction := .none, flashDeadline := none, staleDeadline := none, upper := none,
    lower := none, zone := .inside, alertLatched := false, overflow := false }

/-- A field conflicts with a field in use other than itself (R9, R11 check 6). -/
def State.conflictsWithAny (s : State) (n : Nat) (f : Field) : Bool :=
  s.fields.any fun e => e.1 != n && f.conflicts e.2

/-- An accepted DEFINE FIELD (R13). -/
def State.defineAccepted (s : State) (n : Nat) (number : Half) (f : Field) : State :=
  ((s.putField n f).enqueueAndLatch n false s.now).answer
    (bytesOfHalf number ++ [f.state.code, byteOfBool (s.shows f)])

/-- DEFINE FIELD: the six checks of R11 in order. -/
def State.define (s : State) (r : DefineFields) : State :=
  if fieldCount ≤ r.number.toNat then s.refuse .badField (some r.number)
  else
    match s.checkDefine r with
    | .error code => s.refuse code (some r.number)
    | .ok (page, format) =>
      let f := DefineFields.record r page format
      if s.msg.pendingConfigure.isSome then s.refuse .busy (some r.number)
      else if !f.inBounds s.scr.geometry then s.refuse .outOfBounds (some r.number)
      else if s.conflictsWithAny r.number.toNat f then s.refuse .overlap (some r.number)
      else s.defineAccepted r.number.toNat r.number f

def execDefineField (tag : Byte) (p : Carried DefineFields) (s : State) : Host.Outcome State Fault Refusal :=
  s.takeThen (.defineField tag p) fun t => t.checkLength p fun r u => u.define r

/-! ### RESTYLE FIELD (R15 to R17) -/

/-- The record after an accepted RESTYLE FIELD (R15, R16). -/
def Field.restyled (f : Field) (r : RestyleFields) : Field :=
  let interval := r.staleInterval.toNat
  { f with
    options := Options.ofByte r.options
    style := r.style
    flashLength := r.flashLength.toNat
    staleInterval := interval
    state := if f.state = .stale && interval = 0 then .live else f.state
    staleDeadline :=
      if f.state = .live then f.lastPost.bind fun post => afterTicks post interval else none }

/-- An accepted RESTYLE FIELD (R15, R16, R17). -/
def State.restyle (s : State) (r : RestyleFields) : State :=
  s.onField r.number fun n f =>
    ((s.putField n (f.restyled r)).enqueueAndLatch n false s.now).answer
      (bytesOfHalf r.number ++ [(f.restyled r).state.code])

def execRestyleField (tag : Byte) (p : Carried RestyleFields) (s : State) : Host.Outcome State Fault Refusal :=
  s.takeThen (.restyleField tag p) fun t => t.checkLength p fun r u => u.restyle r

/-! ### SET LIMITS (R18, R19) -/

/-- A limit is present where its flag is set, with the carried value (R18). -/
def limitOf (flag : Bool) (v : Word) : Option Word := if flag then some v else none

/-- The record after an accepted SET LIMITS: both limits replaced, the zone recomputed from the current value (R18, R19). -/
def Field.limited (f : Field) (r : LimitFields) : Field :=
  let upper := limitOf (r.flags.getLsbD 0) r.upper
  let lower := limitOf (r.flags.getLsbD 1) r.lower
  { f with upper := upper, lower := lower, zone := zoneOfValue upper lower f.value }

/-- SET LIMITS (R18, R19). -/
def State.setLimits (s : State) (r : LimitFields) : State :=
  s.onField r.number fun n f =>
    if f.format = .text then s.refuse .wrongFormat (some r.number)
    else if r.flags.getLsbD 0 && r.flags.getLsbD 1 && r.upper.toInt ≤ r.lower.toInt then
      s.refuse .badValue (some r.number)
    else (s.putField n (f.limited r)).answer (bytesOfHalf r.number ++ [(f.limited r).zone.code])

def execSetLimits (tag : Byte) (p : Carried LimitFields) (s : State) : Host.Outcome State Fault Refusal :=
  s.takeThen (.setLimits tag p) fun t => t.checkLength p fun r u => u.setLimits r

/-! ### DELETE FIELD (R20 to R22) -/

/-- The record of a visible field that is deleted (R20). -/
def Field.retired (f : Field) : Field :=
  { f with state := .retiring, flashDeadline := none, staleDeadline := none }

/-- DELETE FIELD: a visible field retires with an URGENT entry, an invisible one goes FREE at once (R20, R22). -/
def State.delete (s : State) (number : Half) : State :=
  s.onField number fun n f =>
    if s.shows f then
      ((s.putField n f.retired).enqueueAndLatch n true s.now).answer (bytesOfHalf number ++ [FieldState.code .retiring])
    else (s.release n s.now).answer (bytesOfHalf number ++ [0])

def execDeleteField (tag : Byte) (p : Carried Half) (s : State) : Host.Outcome State Fault Refusal :=
  s.takeThen (.deleteField tag p) fun t => t.checkLength p fun number u => u.delete number

/-! ### READ FIELD (R24, R25, R175) -/

/-- The definition parts, laid out as DEFINE FIELD bytes 2..13. -/
def Field.definitionBytes (f : Field) : List Byte :=
  [f.page.code, byteOfNat f.row, byteOfNat f.column, byteOfNat f.width, f.format.code, byteOfNat f.scale, f.options.byte] ++
    f.style.bytes ++ [byteOfNat f.flashLength, byteOfNat f.staleInterval]

/-- The presence marks of the optional parts (byte 15). -/
def Field.presence (f : Field) : Byte :=
  byteOfFlags [f.value.isSome, f.lastPost.isSome, f.shown.isSome, f.shownFrame.isSome, f.flashDeadline.isSome,
    f.staleDeadline.isSome, f.upper.isSome, f.lower.isSome]

/-- An optional four-byte part; zeros where it is absent. -/
def optionalWord (w : Option Word) : List Byte := bytesOfWord (w.getD 0)

/-- A value or shown value at the end of the reply: four bytes for a numeric format, a glyph count and the glyphs for TEXT. -/
def valueBytes (format : Format) (v : Option Value) : List Byte :=
  match v with
  | some (.number w) => bytesOfWord w
  | some (.text glyphs) => byteOfNat glyphs.length :: glyphs
  | none => if format = .text then [0] else bytesOfWord 0

/-- The slot number, 0xFF when absent, and the slot state code (bytes 44 and 45). -/
def slotBytes (n : Nat) (slots : List (Nat × Slot)) : List Byte :=
  match slotOf n slots with
  | some (k, slot) => [byteOfNat k, if slot.content.isReady then 2 else 1]
  | none => [0xFF, 0]

/-- The READ FIELD reply (R24, R175). Bits 2 to 7 of byte 42, which its table does not name, are 0 (DESIGN CHOICE, log 26). -/
def State.fieldReport (s : State) (n : Nat) (f : Field) : List Byte :=
  bytesOfCount n ++ f.state.code :: f.definitionBytes ++ [f.presence] ++
    optionalWord f.lastPost ++ optionalWord f.shownFrame ++ optionalWord f.flashDeadline ++ optionalWord f.staleDeadline ++
    optionalWord f.upper ++ optionalWord f.lower ++
    [f.direction.code, f.zone.code, byteOfFlags [f.alertLatched, f.overflow], s.membershipCode n] ++
    slotBytes n s.pnt.slots ++ valueBytes f.format f.value ++ valueBytes f.format f.shown

/-- READ FIELD: not refused on a RETIRING field (R24). -/
def State.readField (s : State) (number : Half) : State :=
  if fieldCount ≤ number.toNat then s.refuse .badField (some number)
  else
    match s.field? number.toNat with
    | none => s.refuse .notDefined (some number)
    | some f => s.answer (s.fieldReport number.toNat f)

def execReadField (tag : Byte) (p : Carried Half) (s : State) : Host.Outcome State Fault Refusal :=
  s.takeThen (.readField tag p) fun t => t.checkLength p fun number u => u.readField number

end Sys2Proof.Machine
end

