-- ==== Sys2Proof/Machine/Posting.lean ====
section
/-! DEFINITION. Posting (chapter 3): POST, POST BATCH, POST TEXT and UNHOLD, with the alert that a post may raise (R140). -/

namespace Sys2Proof.Machine

/-! ### One post -/

/-- The state after an accepted post (R50). -/
def Field.revivedState (f : Field) : FieldState :=
  match f.state with
  | .stale => if f.options.hold then .held else .live
  | .live => .live
  | .held => .held
  | .retiring => .retiring

/-- The zone after a post of a value: computed for a numeric field, unchanged for TEXT (R62, R139). -/
def Field.zoneAfter (f : Field) : Value → Zone
  | .number v => zoneOf f.upper f.lower v
  | .text _ => f.zone

/-- The post raises an alert: the zone it computes is ABOVE or BELOW and differs from the zone before (R140). -/
def Field.raises (f : Field) (v : Value) : Bool := f.zoneAfter v != .inside && f.zoneAfter v != f.zone

/-- The record after an accepted post of frame N (R47, R49, R50, R140). -/
def Field.posted (f : Field) (v : Value) (n : FrameNo) : Field :=
  { f with
    value := some v
    lastPost := some n
    state := f.revivedState
    staleDeadline := if f.revivedState = .live then afterTicks n f.staleInterval else none
    zone := f.zoneAfter v
    alertLatched := f.alertLatched || f.raises v }

/-- The post's own enqueue: a revival, or, for a field LIVE after the post, a condition of R53. -/
def State.postEnqueues (s : State) (n : Nat) (f : Field) (v : Value) : Bool :=
  f.state = .stale || (f.state = .live && (f.shown != some v || s.holdsSlot n))

/-- The REVIVE record is handed over: the post revives a STALE field whose revive watch option is on (R50). -/
def Field.handsRevive (f : Field) : Bool := f.state = .stale && f.options.reviveWatch

/-- AEU's lists after a post: the REVIVE record and the raised alert (R50, R140, R142, R147). -/
def Alerts.posted (a : Alerts) (n : Nat) (f : Field) (v : Value) (frame : FrameNo) : Alerts :=
  { a with
    watchList := if f.handsRevive then addWatch ⟨n, .revive, frame⟩ a.watchList else a.watchList
    alertList := if f.raises v then offerAlert n a.alertList else a.alertList }

/-- The enqueues of a post: its own, by class, and the alert's, URGENT (R53, R54, R140). -/
def State.postQueued (s : State) (n : Nat) (own raised : Bool) : State :=
  let first := if own then s.enqueue n false else s
  if raised then first.enqueue n true else first

/-- An accepted post, all its effects but the reply (R47 to R57, R140). The REVIVE record, the alert and the post's own enqueue
reach their blocks in an order that the manual leaves open; a rise of LAGGING that only the alert's enqueue can cause follows
the ALERT latch (R140). -/
def State.applyPost (s : State) (n : Nat) (f : Field) (v : Value) : State :=
  let own := s.postEnqueues n f v
  let raised := f.raises v
  let put := { s.putField n (f.posted v s.now) with aeu := s.aeu.posted n f v s.now }
  let queued := put.postQueued n own raised
  let watch := if f.handsRevive then watchChange ⟨n, .revive, s.now⟩ s.aeu.watchList else []
  let alert := if raised then [alertKinds n s.aeu.alertList] else []
  let lag := lagChange put queued
  queued.latchOpen (if own then [watch, alert, lag] else [watch, alert ++ lag]) s.now

/-- The checks of a post in order, for a field whose format must satisfy a test (R48, R61). -/
def State.checkPost (s : State) (number : Half) (fits : Format → Bool) : Except RefusalCode Field :=
  if fieldCount ≤ number.toNat then .error .badField
  else
    match s.field? number.toNat with
    | none => .error .notDefined
    | some f =>
      if f.state = .retiring then .error .notDefined
      else if fits f.format then .ok f
      else .error .wrongFormat

/-- A numeric format. -/
def Format.numeric (x : Format) : Bool := x != .text

/-! ### POST (R48) -/

def State.post (s : State) (r : PostFields) : State :=
  match s.checkPost r.number Format.numeric with
  | .error code => s.refuse code (some r.number)
  | .ok f =>
    (s.applyPost r.number.toNat f (.number r.value)).answer
      (bytesOfHalf r.number ++ [f.revivedState.code, (f.zoneAfter (.number r.value)).code])

def execPost (tag : Byte) (p : Carried PostFields) (s : State) : Host.Outcome State Fault Refusal :=
  s.takeThen (.post tag p) fun t => t.checkLength p fun r u => u.post r

/-! ### POST BATCH (R58 to R60) -/

/-- What a batch has come to: the state, the entries accepted, and the first refused entry with its code. -/
structure BatchRun where
  state : State
  accepted : Nat
  firstRefused : Option (Nat × RefusalCode)

/-- One entry of a batch, applied as a POST, or skipped with the fault record and REFUSAL (R59). -/
def BatchRun.entry (b : BatchRun) (index : Nat) (r : PostFields) : BatchRun :=
  match b.state.checkPost r.number Format.numeric with
  | .error code =>
    { b with state := b.state.refuseEntry code r.number index,
             firstRefused := b.firstRefused.orElse fun _ => some (index, code) }
  | .ok f =>
    { b with state := b.state.applyPost r.number.toNat f (.number r.value), accepted := b.accepted + 1 }

/-- The entries of a batch in order (R59). -/
def BatchRun.entries (b : BatchRun) (index : Nat) : List PostFields → BatchRun
  | [] => b
  | r :: rest => (b.entry index r).entries (index + 1) rest

/-- The DONE of a batch (R60, R175). -/
def BatchRun.report (b : BatchRun) : List Byte :=
  match b.firstRefused with
  | some (index, code) => [byteOfNat b.accepted, byteOfNat index, code.code]
  | none => [byteOfNat b.accepted, 0xFF, 0]

def State.postBatch (s : State) (entries : List PostFields) : State :=
  let b := (BatchRun.mk s 0 none).entries 0 entries
  b.state.answer b.report

def execPostBatch (tag : Byte) (p : Carried (List PostFields)) (s : State) : Host.Outcome State Fault Refusal :=
  s.takeThen (.postBatch tag p) fun t => t.checkLength p fun entries u => u.postBatch entries

/-! ### POST TEXT (R61, R62) -/

/-- The longest text a field stores (R61). -/
def maxText : Nat := 40

def State.postText (s : State) (r : TextFields) : State :=
  match s.checkPost r.number (fun x => x == .text) with
  | .error code => s.refuse code (some r.number)
  | .ok f =>
    (s.applyPost r.number.toNat f (.text (r.glyphs.take maxText))).answer
      (bytesOfHalf r.number ++ [f.revivedState.code])

def execPostText (tag : Byte) (p : Carried TextFields) (s : State) : Host.Outcome State Fault Refusal :=
  s.takeThen (.postText tag p) fun t => t.checkLength p fun r u => u.postText r

/-! ### UNHOLD (R63) -/

/-- The record of a HELD field that is released at frame N (R63). -/
def Field.unheld (f : Field) (n : FrameNo) : Field :=
  { f with state := .live, staleDeadline := afterTicks n f.staleInterval }

def State.unhold (s : State) (number : Half) : State :=
  s.onField number fun n f =>
    if f.state = .held then
      ((s.putField n (f.unheld s.now)).enqueueAndLatch n false s.now).answer
        (bytesOfHalf number ++ [FieldState.code .live])
    else s.refuse .notHeld (some number)

def execUnhold (tag : Byte) (p : Carried Half) (s : State) : Host.Outcome State Fault Refusal :=
  s.takeThen (.unhold tag p) fun t => t.checkLength p fun number u => u.unhold number

end Sys2Proof.Machine
end

