-- ==== Sys2Proof/Machine/Attention.lean ====
section
/-! DEFINITION. AEU's requests: alerts (R143 to R145), the watch list (R148), events and notices (R155, R157), the fault record
(R159). -/

namespace Sys2Proof.Machine

/-! ### ACK ALERT (R144, R145) -/

/-- Clear the latch of a latched field: the latch becomes no, its entry leaves the alert list, and a visible field is
enqueued by its class option (R144). -/
def State.clearLatch (s : State) (n : Nat) (f : Field) : State :=
  ({ s.putField n { f with alertLatched := false } with
     aeu := { s.aeu with alertList := s.aeu.alertList.filter fun m => m != n } }).enqueueAndLatch n false s.now

/-- Clear the latches of some fields in turn (R145). -/
def State.clearLatches (s : State) : List Nat → State
  | [] => s
  | n :: rest =>
    match s.field? n with
    | some f => (s.clearLatch n f).clearLatches rest
    | none => s.clearLatches rest

/-- The fields whose latch ACK ALERT ALL clears, lowest number first: latched and not RETIRING (R145). -/
def State.latchedNumbers (s : State) : List Nat :=
  (s.fields.filter fun e => e.2.alertLatched && e.2.state != .retiring).map Prod.fst

/-- ACK ALERT carrying ALL (R145). -/
def State.ackAll (s : State) : State :=
  (s.clearLatches s.latchedNumbers).answer ([0xFF, 0xFF] ++ bytesOfCount s.latchedNumbers.length ++ [0])

/-- ACK ALERT of one field; the number 0xFFFF stands for ALL (R144). -/
def State.ack (s : State) (number : Half) : State :=
  if number = 0xFFFF then s.ackAll
  else
    s.onField number fun n f =>
      if f.alertLatched then (s.clearLatch n f).answer (bytesOfHalf number ++ bytesOfCount 1 ++ [f.zone.code])
      else s.answer (bytesOfHalf number ++ bytesOfCount 0 ++ [f.zone.code])

def execAckAlert (tag : Byte) (p : Carried Half) (s : State) : Host.Outcome State Fault Refusal :=
  s.takeThen (.ackAlert tag p) fun t => t.checkLength p fun number u => u.ack number

def execAckAlertAll (tag : Byte) (s : State) : Host.Outcome State Fault Refusal :=
  s.takeThen (.ackAlertAll tag) fun t => t.ackAll

/-! ### READ ALERTS (R143) -/

/-- The zone of a listed field as it stands. -/
def State.zoneCode (s : State) (n : Nat) : Byte := ((s.field? n).map fun f => f.zone.code).getD 0

/-- The number of fields in use that are latched and not in the list (R143). -/
def State.unlistedLatched (s : State) : Nat :=
  (s.fields.filter fun e => e.2.alertLatched && !s.aeu.alertList.contains e.1).length

def State.alertReport (s : State) : List Byte :=
  byteOfNat s.aeu.alertList.length ::
    s.aeu.alertList.flatMap (fun n => bytesOfCount n ++ [s.zoneCode n]) ++ bytesOfCount s.unlistedLatched

def execReadAlerts (tag : Byte) (p : Carried Unit) (s : State) : Host.Outcome State Fault Refusal :=
  s.takeThen (.readAlerts tag p) fun t => t.checkLength p fun _ u => u.answer u.alertReport

/-! ### READ WATCH (R148) -/

def WatchRecord.bytes (r : WatchRecord) : List Byte := bytesOfCount r.field ++ r.kind.code :: bytesOfWord r.frame

def State.watchReport (s : State) : List Byte :=
  byteOfNat s.aeu.watchList.length :: s.aeu.watchList.flatMap WatchRecord.bytes

/-- The records are returned and removed; the latches are not cleared (R148). -/
def State.readWatch (s : State) : State :=
  ({ s with aeu := { s.aeu with watchList := [] } }).answer s.watchReport

def execReadWatch (tag : Byte) (p : Carried Unit) (s : State) : Host.Outcome State Fault Refusal :=
  s.takeThen (.readWatch tag p) fun t => t.checkLength p fun _ u => u.readWatch

/-! ### CLEAR EVENTS and SET NOTICE MASK (R155, R157) -/

/-- Place a NOTICE of the latched set as it stands, if notice-outstanding is no and it holds an enabled kind (R155 step 3, R157
step 2). -/
def State.renotify (s : State) : State :=
  if !s.aeu.noticeOutstanding && s.attn then s.placeNotice s.aeu.latched s.now s.lnk.placings else s

/-- CLEAR EVENTS: the NOTICE of step 3 is placed before the reply (R155). -/
def State.clearEvents (s : State) (kinds : EventSet) : State :=
  let cleared := { s with aeu := { s.aeu with latched := s.aeu.latched &&& ~~~kinds, noticeOutstanding := false } }
  let t := cleared.renotify
  t.answer (bytesOfHalf t.aeu.latched ++ [byteOfBool cleared.attn])

def execClearEvents (tag : Byte) (p : Carried Half) (s : State) : Host.Outcome State Fault Refusal :=
  s.takeThen (.clearEvents tag p) fun t => t.checkLength p fun kinds u => u.clearEvents kinds

/-- SET NOTICE MASK: bits that name no kind are not taken (R157). -/
def State.setNoticeMask (s : State) (kinds : EventSet) : State :=
  let t := ({ s with aeu := { s.aeu with noticeMask := kinds &&& allKinds } }).renotify
  t.answer (bytesOfHalf t.aeu.noticeMask ++ bytesOfHalf t.aeu.latched)

def execSetNoticeMask (tag : Byte) (p : Carried Half) (s : State) : Host.Outcome State Fault Refusal :=
  s.takeThen (.setNoticeMask tag p) fun t => t.checkLength p fun kinds u => u.setNoticeMask kinds

/-! ### READ FAULT (R159) -/

/-- The fault record's parts, absent ones sent as 0 (R175). Bits 2 to 7 of the parts byte, which no table names, are 0 (DESIGN
CHOICE, log 26). -/
def FaultRecord.bytes (r : FaultRecord) : List Byte :=
  [r.type, r.tag, r.code.code, byteOfFlags [r.field.isSome, r.index.isSome]] ++ bytesOfHalf (r.field.getD 0) ++
    byteOfNat (r.index.getD 0) :: bytesOfWord r.frame

def State.faultReport (s : State) : List Byte :=
  match s.aeu.faultRecord with
  | none => [0]
  | some r => 1 :: r.bytes

def execReadFault (tag : Byte) (p : Carried Unit) (s : State) : Host.Outcome State Fault Refusal :=
  s.takeThen (.readFault tag p) fun t => t.checkLength p fun _ u => u.answer u.faultReport

end Sys2Proof.Machine
end

