-- ==== Sys2Proof/Machine/Display.lean ====
section
/-! DEFINITION. The requests about the part and its screen (chapters 5, 6 and 9, R160, R172), and scan-out (R97, R100 to R102). -/

namespace Sys2Proof.Machine

/-! ### IDENTIFY and READ STATUS -/

/-- The IDENTIFY reply: vendor, part, revision, field count, slot count, maximum geometry (R172). -/
def identity : List Byte := [0x5A, 0x63, 1] ++ bytesOfCount 512 ++ [32, 2]

def execIdentify (tag : Byte) (p : Carried Unit) (s : State) : Host.Outcome State Fault Refusal :=
  s.takeThen (.identify tag p) fun t => t.checkLength p fun _ u => u.answer identity

/-- The freeze limit remaining, (deadline − N) mod 2^32; 0 for "no limit" (R160, R175). -/
def State.freezeRemaining (s : State) : Half :=
  match s.scr.freezeDeadline with
  | some d => if s.scr.frozen then (d - s.now).setWidth 16 else 0
  | none => 0

/-- The READ STATUS reply (R160, R175). Bit 7 of its flags byte, which its table does not name, is 0 (DESIGN CHOICE, log 26).
`reply entries used` leaves out the entry that this reply fills. -/
def State.statusReport (s : State) : List Byte :=
  [s.scr.geometry.code, s.scr.page.zeroExtend 8, s.scr.mode.code, byteOfNat s.scr.brightness,
    byteOfFlags [s.scr.frozen, s.scr.timerHold, s.pnt.lagging, s.rendering, s.msg.pendingConfigure.isSome,
      s.msg.pendingPage.isSome, s.aeu.noticeOutstanding]] ++
    bytesOfHalf s.freezeRemaining ++ bytesOfCount s.pnt.urgent.length ++ bytesOfCount s.pnt.routine.length ++
    byteOfNat s.pnt.slots.length :: bytesOfCount s.fields.length ++ byteOfNat (s.entriesUsed - 1) ::
    bytesOfHalf s.aeu.latched ++ bytesOfHalf s.aeu.noticeMask ++ bytesOfWord s.now

def execReadStatus (tag : Byte) (p : Carried Unit) (s : State) : Host.Outcome State Fault Refusal :=
  s.takeThen (.readStatus tag p) fun t => t.checkLength p fun _ u => u.answer u.statusReport

/-! ### SET PALETTE and DISPLAY MODE (R95, R98) -/

/-- Stage colours at an index and those above it; a colour whose index would be above 15 is discarded (R95). -/
def stageColours (index : Nat) (staged : List (Option Colour)) : List Colour → List (Option Colour)
  | [] => staged
  | c :: rest => stageColours (index + 1) (staged.set index (some c)) rest

def State.setPalette (s : State) (r : PaletteFields) : State :=
  if 15 < r.first.toNat then s.refuse .badValue none
  else
    ({ s with scr := { s.scr with
        stagedPalette := stageColours r.first.toNat s.scr.stagedPalette r.colours } }).answer
      [byteOfNat (min r.colours.length (16 - r.first.toNat))]

def execSetPalette (tag : Byte) (p : Carried PaletteFields) (s : State) : Host.Outcome State Fault Refusal :=
  s.takeThen (.setPalette tag p) fun t => t.checkLength p fun r u => u.setPalette r

/-- DISPLAY MODE stages the mode and the clamped brightness together (R98). -/
def State.stageMode (s : State) (r : ModeFields) : State :=
  match DisplayMode.ofCode r.mode with
  | none => s.refuse .badValue none
  | some mode =>
    ({ s with scr := { s.scr with stagedMode := some (mode, min 15 r.level.toNat) } }).answer
      [mode.code, byteOfNat (min 15 r.level.toNat)]

def execDisplayMode (tag : Byte) (p : Carried ModeFields) (s : State) : Host.Outcome State Fault Refusal :=
  s.takeThen (.displayMode tag p) fun t => t.checkLength p fun r u => u.stageMode r

/-! ### SELECT PAGE and CONFIGURE DISPLAY (R111, R114) -/

/-- A SELECT PAGE or CONFIGURE DISPLAY is accepted and not yet applied (R111, R114). -/
def State.operationPending (s : State) : Bool := s.msg.pendingPage.isSome || s.msg.pendingConfigure.isSome

/-- The tag of the message in hand, which the deferred reply is to carry. -/
def State.tagInHand (s : State) : Byte := (s.msg.inHand.map Frame.tag).getD 0

/-- SELECT PAGE: accepted, its reply entry stays reserved for the deferred reply (R111). -/
def State.selectPage (s : State) (page : Byte) : State :=
  if 3 < page.toNat then s.refuse .badValue none
  else if s.scr.frozen then s.refuse .frozen none
  else if s.operationPending then s.refuse .busy none
  else
    { s with msg := { s.msg with inHand := none, pendingPage := some ⟨page.extractLsb' 0 2, s.tagInHand⟩ } }

def execSelectPage (tag : Byte) (p : Carried Byte) (s : State) : Host.Outcome State Fault Refusal :=
  s.takeThen (.selectPage tag p) fun t => t.checkLength p fun page u => u.selectPage page

/-- The parameters as CONFIGURE DISPLAY stores them, each clamped (R114). -/
def ConfigureFields.stored (r : ConfigureFields) (g : Geometry) (tag : Byte) : PendingConfigure :=
  { geometry := g, fg := r.fg, bg := r.bg, blinkPeriod := clamp 8 120 r.blinkPeriod.toNat,
    ageLimit := max 1 r.ageLimit.toNat, lagThreshold := clamp 1 512 r.lagThreshold.toNat, tag := tag }

/-- CONFIGURE DISPLAY: accepted, its reply entry stays reserved for the deferred reply (R114). -/
def State.configure (s : State) (r : ConfigureFields) : State :=
  match Geometry.ofCode r.geometry with
  | none => s.refuse .badValue none
  | some g =>
    if s.scr.frozen then s.refuse .frozen none
    else if s.operationPending then s.refuse .busy none
    else
      { s with msg := { s.msg with inHand := none,
                                   pendingConfigure := some (ConfigureFields.stored r g s.tagInHand) } }

def execConfigureDisplay (tag : Byte) (p : Carried ConfigureFields) (s : State) : Host.Outcome State Fault Refusal :=
  s.takeThen (.configureDisplay tag p) fun t => t.checkLength p fun r u => u.configure r

/-! ### FREEZE and THAW (R118, R119, R121) -/

/-- FREEZE: taken while frozen it is a renewal, and replaces the deadline and the flag (R118, R119). The reply carries the
timer-hold flag as 1 or 0; the other bits of its flags byte are not stored (R118) and are sent as 0 (DEDUCED, log 26). -/
def State.freeze (s : State) (r : FreezeFields) : State :=
  ({ s with scr := { s.scr with
      frozen := true, freezeDeadline := afterTicks s.now r.limit.toNat, timerHold := r.flags.getLsbD 0 } }).answer
    [r.limit, byteOfBool (r.flags.getLsbD 0), byteOfBool s.scr.frozen]

def execFreeze (tag : Byte) (p : Carried FreezeFields) (s : State) : Host.Outcome State Fault Refusal :=
  s.takeThen (.freeze tag p) fun t => t.checkLength p fun r u => u.freeze r

/-- The number of slots READY (R121). -/
def State.readySlots (s : State) : Nat := (s.pnt.slots.filter fun e => e.2.content.isReady).length

/-- THAW (R121). -/
def State.thaw (s : State) : State :=
  if s.scr.frozen then s.endFreeze.answer [byteOfNat s.readySlots] else s.refuse .notFrozen none

def execThaw (tag : Byte) (p : Carried Unit) (s : State) : Host.Outcome State Fault Refusal :=
  s.takeThen (.thaw tag p) fun t => t.checkLength p fun _ u => u.thaw

/-! ### READ CELLS (R104) -/

/-- The cells of a run of the plane, in plane order (R104). -/
def State.cellsFrom (s : State) (place count : Nat) : List Cell :=
  (List.range count).map fun i => Memory.read s.scr.plane (place + i)

/-- The attribute bytes: two bits for each of four cells, the first cell in the lowest pair, blink below underline (R175).
Pairs of the last byte that stand for no cell are 0 (DESIGN CHOICE, log 26). -/
def attributeBytes : List Cell → List Byte
  | [] => []
  | [a] => [byteOfFlags [a.blink, a.underline]]
  | [a, b] => [byteOfFlags [a.blink, a.underline, b.blink, b.underline]]
  | [a, b, c] => [byteOfFlags [a.blink, a.underline, b.blink, b.underline, c.blink, c.underline]]
  | a :: b :: c :: d :: rest =>
    byteOfFlags [a.blink, a.underline, b.blink, b.underline, c.blink, c.underline, d.blink, d.underline] ::
      attributeBytes rest

/-- The cells of a READ CELLS reply: glyph and colours of each, then the attribute bytes (R175). -/
def cellBytes (cells : List Cell) : List Byte :=
  cells.flatMap (fun c => [c.glyph, byteOfNibbles c.fg c.bg]) ++ attributeBytes cells

def State.readCells (s : State) (r : CellFields) : State :=
  let g := s.scr.geometry
  let place := g.place r.row.toNat r.column.toNat
  if r.count = 0 || 80 < r.count.toNat then s.refuse .badValue none
  else if g.rows ≤ r.row.toNat || g.columns ≤ r.column.toNat then s.refuse .outOfBounds none
  else if g.cells < place + r.count.toNat then s.refuse .outOfBounds none
  else s.answer ([r.row, r.column, r.count] ++ cellBytes (s.cellsFrom place r.count.toNat))

def execReadCells (tag : Byte) (p : Carried CellFields) (s : State) : Host.Outcome State Fault Refusal :=
  s.takeThen (.readCells tag p) fun t => t.checkLength p fun r u => u.readCells r

/-! ### Scan-out (R91, R97, R100 to R102) -/

/-- Where a hollow rectangle stands along one direction: its outer edges and the edges of its hollow. -/
structure Span where
  outerLow : Nat
  hollowLow : Nat
  hollowHigh : Nat
  outerHigh : Nat

/-- The span that four numbers pick among the pixels below `size`: any span with an edge on both sides of a hollow is some
pick's. -/
def spanOf (size : Nat) (a b c d : Nat) : Span :=
  let low := a % (size - 2)
  let high := low + 2 + b % (size - 2 - low)
  let hollow := low + 1 + c % (high - low - 1)
  { outerLow := low, hollowLow := hollow, hollowHigh := hollow + d % (high - hollow), outerHigh := high }

/-- A pixel place lies within the outer edges. -/
def Span.covers (x : Span) (i : Nat) : Bool := x.outerLow ≤ i && i ≤ x.outerHigh

/-- A pixel place lies within the hollow. -/
def Span.hollows (x : Span) (i : Nat) : Bool := x.hollowLow ≤ i && i ≤ x.hollowHigh

/-- The substitute box, glyph 0x7F: a hollow rectangle in rows 0 to 14, whose lines stand where free values put them (R91). -/
def boxLit (row column : Nat) : Bool :=
  let pick := Config.substituteBox
  let rows := spanOf 15 (pick 0) (pick 1) (pick 2) (pick 3)
  let columns := spanOf 8 (pick 4) (pick 5) (pick 6) (pick 7)
  rows.covers row && columns.covers column && !(rows.hollows row && columns.hollows column)

/-- A pixel of a glyph's 8 by 16 pattern is lit: none of row 15, none of the space, and those of a hollow rectangle for 0x7F
(R91); the rest is the glyph set's, which the manual does not give. -/
def glyphLit (code : Byte) (row column : Nat) : Bool :=
  row != 15 && code != 0x20 && (if code = 0x7F then boxLit row column else Config.glyphPattern code row column)

/-- The colour of a palette index (R94). -/
def State.colourOf (s : State) (i : Nibble) : Colour := s.scr.palette.getD i.toNat ⟨0, 0, 0⟩

/-- The palette index that a pixel of a cell shows in the current display mode and blink phase (R97, R101, R102). -/
def State.pixelIndex (s : State) (c : Cell) (row column : Nat) : Nibble :=
  let hidden := c.blink && !s.scr.blinkOn
  let lit := glyphLit c.glyph row column || (c.underline && row == 15)
  match s.scr.mode with
  | .normal => if lit && !hidden then c.fg else c.bg
  | .reverse => if lit && !hidden then c.bg else c.fg
  | .blank => 0
  | .flood => c.bg

/-- The width and height in pixels of the panel picture (R92). -/
def Geometry.picture (g : Geometry) : Nat × Nat := (8 * g.columns, 16 * g.rows)

/-- The colour on PNL of the pixel at a pixel row and column of the picture (R102); black during reset processing (R173). -/
def State.pixel (s : State) (y x : Nat) : Colour :=
  if s.inReset then ⟨0, 0, 0⟩
  else
    s.colourOf (s.pixelIndex (Memory.read s.scr.plane (s.scr.geometry.place (y / 16) (x / 8))) (y % 16) (x % 8))

/-- A colour as PNL[23:0] carries it: red on the upper 8 bits, green on the middle 8 and blue on the lower 8 (R94). -/
def pnlWord (c : Colour) : BitVec 24 := c.red ++ c.green ++ c.blue

/-- PNL[23:0] for the pixel at a pixel row and column of the picture (R94, R102). -/
def State.pnl (s : State) (y x : Nat) : BitVec 24 := pnlWord (s.pixel y x)

/-- The duty of BL, in fifteenths of a PWM period (R100). -/
def State.backlightDuty (s : State) : Nat := s.scr.brightness

end Sys2Proof.Machine
end

