-- ==== Sys2Proof/Machine/Dispatch.lean ====
section
/-! DEFINITION. The meaning of every command: one arm per row of spec/opcode_table.json. -/

namespace Sys2Proof.Machine

def exec (i : Instr) (s : State) : Host.Outcome State Fault Refusal :=
  match i with
  | .identify tag p => Sys2Proof.Machine.execIdentify tag p s
  | .readStatus tag p => Sys2Proof.Machine.execReadStatus tag p s
  | .configureDisplay tag p => Sys2Proof.Machine.execConfigureDisplay tag p s
  | .setPalette tag p => Sys2Proof.Machine.execSetPalette tag p s
  | .displayMode tag p => Sys2Proof.Machine.execDisplayMode tag p s
  | .selectPage tag p => Sys2Proof.Machine.execSelectPage tag p s
  | .freeze tag p => Sys2Proof.Machine.execFreeze tag p s
  | .thaw tag p => Sys2Proof.Machine.execThaw tag p s
  | .reset tag p straps => Sys2Proof.Machine.execReset tag p straps s
  | .defineField tag p => Sys2Proof.Machine.execDefineField tag p s
  | .restyleField tag p => Sys2Proof.Machine.execRestyleField tag p s
  | .setLimits tag p => Sys2Proof.Machine.execSetLimits tag p s
  | .deleteField tag p => Sys2Proof.Machine.execDeleteField tag p s
  | .readField tag p => Sys2Proof.Machine.execReadField tag p s
  | .post tag p => Sys2Proof.Machine.execPost tag p s
  | .postBatch tag p => Sys2Proof.Machine.execPostBatch tag p s
  | .postText tag p => Sys2Proof.Machine.execPostText tag p s
  | .unhold tag p => Sys2Proof.Machine.execUnhold tag p s
  | .ackAlert tag p => Sys2Proof.Machine.execAckAlert tag p s
  | .ackAlertAll tag => Sys2Proof.Machine.execAckAlertAll tag s
  | .readAlerts tag p => Sys2Proof.Machine.execReadAlerts tag p s
  | .readWatch tag p => Sys2Proof.Machine.execReadWatch tag p s
  | .clearEvents tag p => Sys2Proof.Machine.execClearEvents tag p s
  | .setNoticeMask tag p => Sys2Proof.Machine.execSetNoticeMask tag p s
  | .readFault tag p => Sys2Proof.Machine.execReadFault tag p s
  | .readCells tag p => Sys2Proof.Machine.execReadCells tag p s
  | .unknownType type tag payload => Sys2Proof.Machine.execUnknownType type tag payload s
  | .badCheck type tag payload => Sys2Proof.Machine.execBadCheck type tag payload s
  | .frameReceived signals => Sys2Proof.Machine.execFrameReceived signals s
  | .gapTimeout => Sys2Proof.Machine.execGapTimeout s
  | .transmitBegin txen => Sys2Proof.Machine.execTransmitBegin txen s
  | .transmitComplete => Sys2Proof.Machine.execTransmitComplete s
  | .resetn straps => Sys2Proof.Machine.execResetn straps s
  | .resetDone => Sys2Proof.Machine.execResetDone s
  | .frameBoundary order => Sys2Proof.Machine.execFrameBoundary order s
  | .blinkToggle => Sys2Proof.Machine.execBlinkToggle s
  | .freezeExpired => Sys2Proof.Machine.execFreezeExpired s
  | .staleExpiry m => Sys2Proof.Machine.execStaleExpiry m s
  | .flashExpiry m => Sys2Proof.Machine.execFlashExpiry m s
  | .aging => Sys2Proof.Machine.execAging s
  | .pageChange => Sys2Proof.Machine.execPageChange s
  | .configurationApply => Sys2Proof.Machine.execConfigurationApply s
  | .renderBegin => Sys2Proof.Machine.execRenderBegin s
  | .renderComplete => Sys2Proof.Machine.execRenderComplete s

end Sys2Proof.Machine
end

