-- ==== Sys2Proof/Safety.lean ====
section
/-! DEFINITION. The words in which the statements speak: when a command can be taken, what a reply, a refusal and an event
leave behind, and the laws that the manual says are kept. -/

namespace Sys2Proof.Machine

/-! ### When a request can be taken -/

/-- MSG can take the frame that a request stands for, and no block has begun the next frame boundary (R168). -/
def State.ready (s : State) (c : Instr) : Bool :=
  match c.frame? with
  | some f => s.boundary.isNone && s.canTake f
  | none => false

/-! ### What a take and a reply leave -/

/-- The line after the take: the oldest HELD buffer is FREE, and receiver, RXD, transmitter, straps and TXEN are as before
(R168). -/
def State.lineAfterTake (s t : State) : Prop :=
  t.lnk.receiver = s.lnk.receiver ∧ t.lnk.sending = s.lnk.sending ∧ t.lnk.rate = s.lnk.rate ∧ t.lnk.txen = s.lnk.txen ∧
    t.lnk.rxLow = s.lnk.rxLow ∧ t.lnk.cut = s.lnk.cut ∧ t.lnk.arrival = s.lnk.arrival.drop 1 ∧
    t.lnk.buffers = (match s.lnk.arrival with
      | [] => s.lnk.buffers
      | k :: _ => Store.erase k s.lnk.buffers)

/-- Reset, the boundary in progress and the model's queue of commands are as before. -/
def State.outsideBlocks (s t : State) : Prop :=
  t.resetCause = s.resetCause ∧ t.resetn = s.resetn ∧ t.boundary = s.boundary ∧ t.pending = s.pending

/-- One reply has been filled, at the tail of the fill order (R170, R171). -/
def State.replied (s t : State) (type tag : Byte) (payload : List Byte) : Prop :=
  ∃ placed, t.lnk.replies = s.lnk.replies ++ [⟨type, tag, payload, placed⟩]

/-- The take of a request that is answered at once: its reply, no message in hand, no change of the pending operations, the
line after the take (R168, R169). -/
def State.answered (s t : State) (type tag : Byte) (payload : List Byte) : Prop :=
  s.replied t type tag payload ∧ t.msg = s.msg ∧ s.lineAfterTake t ∧ s.outsideBlocks t

/-- No NOTICE is placed and no latch, mask or fault record changes. -/
def State.noEvent (s t : State) : Prop :=
  t.aeu.latched = s.aeu.latched ∧ t.aeu.noticeMask = s.aeu.noticeMask ∧
    t.aeu.noticeOutstanding = s.aeu.noticeOutstanding ∧ t.aeu.faultRecord = s.aeu.faultRecord ∧
    t.lnk.notice = s.lnk.notice

/-- AEU's two lists are as before. -/
def State.listsKept (s t : State) : Prop := t.aeu.alertList = s.aeu.alertList ∧ t.aeu.watchList = s.aeu.watchList

/-- FLD, PNT and SCR are as before. -/
def State.blocksKept (s t : State) : Prop := t.fields = s.fields ∧ t.pnt = s.pnt ∧ t.scr = s.scr

/-- Every field record but one is as before. -/
def State.otherFieldsKept (s t : State) (n : Nat) : Prop := ∀ m, m ≠ n → t.field? m = s.field? m

/-- One change of the latched set at frame number N: the kinds are latched; where they newly latch an enabled kind and
notice-outstanding was no, a NOTICE of the latched set and N is in the slot and outstanding, and otherwise notice and flag
are as before. The mask is as before (R152, R153). -/
def State.latchedOnce (s t : State) (kinds : EventSet) (n : FrameNo) : Prop :=
  t.aeu.latched = s.aeu.latched ||| kinds ∧ t.aeu.noticeMask = s.aeu.noticeMask ∧
    if s.aeu.noticeOutstanding = false ∧ kinds &&& ~~~s.aeu.latched &&& s.aeu.noticeMask ≠ 0 then
      t.aeu.noticeOutstanding = true ∧ ∃ placed, t.lnk.notice = some ⟨s.aeu.latched ||| kinds, n, placed⟩
    else t.aeu.noticeOutstanding = s.aeu.noticeOutstanding ∧ t.lnk.notice = s.lnk.notice

/-- A refused take (R10, R158, R169): REFUSED carries the code and the request's TYPE; the fault record is overwritten whole;
REFUSAL latches, with CHECK_ERROR for BAD_CHECK; no record, list or slot changes. -/
def State.refusedAs (s t : State) (type tag : Byte) (code : RefusalCode) (field : Option Half) : Prop :=
  s.answered t 0xFF tag [code.code, type] ∧ s.blocksKept t ∧ s.listsKept t ∧
    t.aeu.faultRecord = some ⟨type, tag, code, field, none, s.scr.frameCounter⟩ ∧
    s.latchedOnce t (if code = .badCheck then 0x0012 else 0x0010) s.scr.frameCounter

/-- A change that can raise LAGGING and nothing else of AEU's (R71): PAINT_LAG latches where LAGGING has risen. -/
def State.lagReported (s t : State) (n : FrameNo) : Prop :=
  (if s.pnt.lagging = false ∧ t.pnt.lagging = true then s.latchedOnce t 0x0200 n
   else t.aeu.latched = s.aeu.latched ∧ t.aeu.noticeMask = s.aeu.noticeMask ∧
     t.aeu.noticeOutstanding = s.aeu.noticeOutstanding ∧ t.lnk.notice = s.lnk.notice) ∧
    t.aeu.faultRecord = s.aeu.faultRecord

/-- Successive changes of the latched set at frame number N, in an order that the manual leaves open: as `latchedOnce`, but the
NOTICE carries the latched set as it stood when it was placed, which has an enabled kind in it (R152, R153). -/
def State.latchedInTurn (s t : State) (kinds : EventSet) (n : FrameNo) : Prop :=
  t.aeu.latched = s.aeu.latched ||| kinds ∧ t.aeu.noticeMask = s.aeu.noticeMask ∧
    if s.aeu.noticeOutstanding = false ∧ kinds &&& ~~~s.aeu.latched &&& s.aeu.noticeMask ≠ 0 then
      t.aeu.noticeOutstanding = true ∧ ∃ carried placed, t.lnk.notice = some ⟨carried, n, placed⟩ ∧
        carried &&& s.aeu.noticeMask ≠ 0 ∧ carried ||| s.aeu.latched = carried ∧
        carried ||| t.aeu.latched = t.aeu.latched
    else t.aeu.noticeOutstanding = s.aeu.noticeOutstanding ∧ t.lnk.notice = s.lnk.notice

/-- A request that reports and changes no state but the line's (R143, R159, R160, R172, R24, R104). -/
def State.reported (s t : State) (type tag : Byte) (payload : List Byte) : Prop :=
  s.answered t type tag payload ∧ s.blocksKept t ∧ t.aeu = s.aeu ∧ t.lnk.notice = s.lnk.notice

/-! ### The paint queue (R66, R68, R71) -/

/-- LAGGING after a change of the queued total (R71). -/
def lagAfter (lagging : Bool) (threshold total : Nat) : Bool :=
  if lagging then !(decide (total < threshold / 2) || (threshold / 2 == 0 && total == 0)) else decide (threshold ≤ total)

/-- PNT after an enqueue request for a field in use: slots, age limit and threshold are as before, and the lists and LAGGING are
as R66 and R71 give for the field's visibility, its membership and the cause. -/
def State.enqueued (s t : State) (n : Nat) (visible urgent : Bool) : Prop :=
  t.pnt.slots = s.pnt.slots ∧ t.pnt.ageLimit = s.pnt.ageLimit ∧ t.pnt.lagThreshold = s.pnt.lagThreshold ∧
    if visible = false ∨ n ∈ s.pnt.urgent then t.pnt = s.pnt
    else if n ∈ s.pnt.routine.map RoutineEntry.field then
      if urgent then
        t.pnt.urgent = s.pnt.urgent ++ [n] ∧ t.pnt.routine = s.pnt.routine.filter (fun e => e.field != n) ∧
          t.pnt.lagging = s.pnt.lagging
      else t.pnt = s.pnt
    else
      (if urgent then t.pnt.urgent = s.pnt.urgent ++ [n] ∧ t.pnt.routine = s.pnt.routine
        else t.pnt.urgent = s.pnt.urgent ∧ t.pnt.routine = s.pnt.routine ++ [⟨n, 0⟩]) ∧
        t.pnt.lagging = lagAfter s.pnt.lagging s.pnt.lagThreshold (s.queuedTotal + 1)

/-- The queue without a field's entry, and LAGGING judged on the new total (R68, R71). -/
def State.dequeued (s t : State) (n : Nat) : Prop :=
  t.pnt.urgent = s.pnt.urgent.filter (fun m => m != n) ∧
    t.pnt.routine = s.pnt.routine.filter (fun e => e.field != n) ∧
    t.pnt.ageLimit = s.pnt.ageLimit ∧ t.pnt.lagThreshold = s.pnt.lagThreshold ∧
    t.pnt.lagging = if n ∈ s.scanOrder then lagAfter s.pnt.lagging s.pnt.lagThreshold t.queuedTotal else s.pnt.lagging

/-- A field's slot is given up: a READY one is FREE, a FILLING one is marked discard and belongs to none; every other slot is as
before (R23, R79). -/
def State.slotGivenUp (s t : State) (n : Nat) : Prop :=
  (∀ e ∈ t.pnt.slots, e.2.field ≠ some n) ∧
    (∀ e ∈ s.pnt.slots, e.2.field ≠ some n → e ∈ t.pnt.slots) ∧
    ∀ k inputs discard, (k, ⟨some n, .filling inputs discard⟩) ∈ s.pnt.slots →
      (k, ⟨none, .filling inputs true⟩) ∈ t.pnt.slots

/-- A field has gone FREE (R23): its record, alert entry, watch records, queue entry and slot. -/
def State.freed (s t : State) (n : Nat) : Prop :=
  t.field? n = none ∧ s.otherFieldsKept t n ∧ s.dequeued t n ∧ s.slotGivenUp t n ∧
    t.aeu.alertList = s.aeu.alertList.filter (fun m => m != n) ∧
    t.aeu.watchList = s.aeu.watchList.filter (fun r => r.field != n)

/-! ### Posts (R47 to R54, R140) -/

/-- The zone of a value by the rows of R139. -/
def zoneFor (upper lower : Option Word) (v : Word) : Zone :=
  match upper, lower with
  | some u, some l => if u.toInt ≤ v.toInt then .above else if v.toInt ≤ l.toInt then .below else .inside
  | some u, none => if u.toInt ≤ v.toInt then .above else .inside
  | none, some l => if v.toInt ≤ l.toInt then .below else .inside
  | none, none => .inside

/-- The state after a post (R50). -/
def stateAfterPost (state : FieldState) (hold : Bool) : FieldState :=
  if state = .stale then (if hold then .held else .live) else state

/-- A deadline so many stale ticks of 64 frames after a frame; absent for 0 ticks. -/
def ticksAfter (frame : FrameNo) (ticks : Nat) : Option FrameNo :=
  if ticks = 0 then none else some (frame + BitVec.ofNat 32 (64 * ticks))

/-- An accepted post of a value, with the zone it computes: the record by R47 to R50, the watch list by R147, the alert list by
R142, the queue by R53, R54 and R140, and what it latches. -/
def State.postedAs (s t : State) (n : Nat) (f : Field) (v : Value) (zone : Zone) : Prop :=
  let now := s.scr.frameCounter
  let state := stateAfterPost f.state f.options.hold
  let raised := zone ≠ .inside ∧ zone ≠ f.zone
  let revived := f.state = .stale ∧ f.options.reviveWatch = true
  let listed := n ∈ s.aeu.alertList
  let alertFull := 32 ≤ s.aeu.alertList.length
  let recorded := ∃ r ∈ s.aeu.watchList, r.field = n ∧ r.kind = .revive
  let watchFull := 16 ≤ s.aeu.watchList.length
  let own := f.state = .stale ∨ (f.state = .live ∧ (f.shown ≠ some v ∨ ∃ e ∈ s.pnt.slots, e.2.field = some n))
  t.field? n = some { f with
      value := some v, lastPost := some now, state := state,
      staleDeadline := if state = .live then ticksAfter now f.staleInterval else none,
      zone := zone, alertLatched := f.alertLatched || decide raised } ∧
    s.otherFieldsKept t n ∧ t.scr = s.scr ∧
    (if raised ∧ ¬listed ∧ ¬alertFull then t.aeu.alertList = s.aeu.alertList ++ [n]
      else t.aeu.alertList = s.aeu.alertList) ∧
    (revived ∧ ¬recorded ∧ ¬watchFull → t.aeu.watchList = s.aeu.watchList ++ [⟨n, .revive, now⟩]) ∧
    (¬(revived ∧ ¬recorded ∧ ¬watchFull) → t.aeu.watchList = s.aeu.watchList) ∧
    t.aeu.faultRecord = s.aeu.faultRecord ∧
    (raised → s.enqueued t n (s.shows f) true) ∧
    (own ∧ ¬raised → s.enqueued t n (s.shows f) f.options.urgent) ∧
    (¬own ∧ ¬raised → t.pnt = s.pnt) ∧
    ∃ watch : EventSet, (revived ∧ ¬recorded → watch = if watchFull then 0x0040 else 0x0020) ∧
      (¬(revived ∧ ¬recorded) → watch = 0) ∧
      s.latchedInTurn t
        (watch ||| (if raised then 0x0080 else 0) ||| (if raised ∧ ¬listed ∧ alertFull then 0x0100 else 0) |||
          (if s.pnt.lagging = false ∧ t.pnt.lagging = true then 0x0200 else 0)) now

/-! ### Numeric text (R30 to R42) -/

/-- A number in decimal digit glyphs, with no leading zero and at least one digit (R31). -/
def decimalGlyphs (n : Nat) : List Byte :=
  if n = 0 then [0x30] else (Nat.digits 10 n).reverse.map fun d => BitVec.ofNat 8 (0x30 + d)

/-- A number in exactly so many digit glyphs, with leading zeros (R31). -/
def paddedGlyphs (count n : Nat) : List Byte :=
  let digits := (Nat.digits 10 n).reverse.map fun d => BitVec.ofNat 8 (0x30 + d)
  List.replicate (count - digits.length) 0x30 ++ digits

/-- A text is a number as an integer part: its digits, and, with separators, a ',' at every fourth place from the right and
nowhere else (R31, R32). -/
def integerText (separators : Bool) (n : Nat) (text : List Byte) : Prop :=
  text.filter (fun g => g != 0x2C) = decimalGlyphs n ∧ text.head? ≠ some 0x2C ∧
    ∀ i < text.length, text.reverse[i]? = some 0x2C ↔ separators = true ∧ i % 4 = 3

/-- The sign of a candidate, from the value and the candidate's own displayed magnitude; `plus`: the format is CHANGE (R33). -/
def signText (plus : Bool) (v : Word) (displayed : Nat) : List Byte :=
  if displayed = 0 then []
  else if v.toInt < 0 then [0x2D]
  else if plus = true ∧ 0 < v.toInt then [0x2B]
  else []

/-- A text is the sign, a number as an integer part, and an ending (R36, R39, R41). -/
def signedText (plus : Bool) (v : Word) (displayed : Nat) (separators : Bool) (whole : Nat) (ending text : List Byte) : Prop :=
  ∃ part, integerText separators whole part ∧ text = signText plus v displayed ++ part ++ ending

/-- The candidates with separators and without, in that order, while the option is on, and the one without alone while it is off
(R37, R40, R41). -/
def separatorForms (option : Bool) (shape : Bool → List Byte → Prop) : List (List Byte → Prop) :=
  if option = true then [shape true, shape false] else [shape false]

/-- The displayed magnitude with d of s decimals (R35). -/
def roundedTo (m s d : Nat) : Nat := if d = s then m else (m + 5 * 10 ^ (s - d - 1)) / 10 ^ (s - d)

/-- The candidates of DECIMAL, and with `plus` of CHANGE, in order: d = s, s − 1, … , 0 (R35 to R38). -/
def decimalShapes (plus : Bool) (v : Word) (s : Nat) (option : Bool) : List (List Byte → Prop) :=
  (List.range (s + 1)).reverse.flatMap fun d =>
    let shown := roundedTo v.toInt.natAbs s d
    separatorForms option fun separators =>
      signedText plus v shown separators (shown / 10 ^ d) (if d = 0 then [] else 0x2E :: paddedGlyphs d (shown % 10 ^ d))

/-- The candidates of FRACTION with denominator 2^k (R39, R40). -/
def fractionShapes (v : Word) (k : Nat) (option : Bool) : List (List Byte → Prop) :=
  let m := v.toInt.natAbs
  separatorForms option fun separators =>
    signedText false v m separators (m / 2 ^ k)
      (0x27 :: paddedGlyphs (decimalGlyphs (2 ^ k - 1)).length (m % 2 ^ k))

/-- A suffixed VOLUME candidate with one decimal and the one with none, for a unit of 1,000, 1,000,000 or 1,000,000,000
(R41, R42). -/
def suffixedShapes (v : Word) (unit : Nat) (suffix : Byte) : List (List Byte → Prop) :=
  let m := v.toInt.natAbs
  let x := (m + unit / 20) / (unit / 10)
  let y := (m + unit / 2) / unit
  [signedText false v x false (x / 10) [0x2E, BitVec.ofNat 8 (0x30 + x % 10), suffix],
    signedText false v y false y [suffix]]

/-- The candidates of VOLUME, in order (R41). -/
def volumeShapes (v : Word) (option : Bool) : List (List Byte → Prop) :=
  let m := v.toInt.natAbs
  separatorForms option (fun separators => signedText false v m separators m []) ++
    suffixedShapes v 1000 0x4B ++ suffixedShapes v 1000000 0x4D ++ suffixedShapes v 1000000000 0x42

/-! ### Scan-out (R91) -/

/-- A pattern is a hollow rectangle in rows 0 to 14: it is lit within its outer edges but for a hollow that has a lit edge on every
side. -/
def hollowRectangle (lit : Nat → Nat → Bool) : Prop :=
  ∃ top hollowTop hollowBottom bottom left hollowLeft hollowRight right,
    top < hollowTop ∧ hollowTop ≤ hollowBottom ∧ hollowBottom < bottom ∧ bottom ≤ 14 ∧
    left < hollowLeft ∧ hollowLeft ≤ hollowRight ∧ hollowRight < right ∧ right ≤ 7 ∧
    ∀ row column, lit row column = true ↔
      (top ≤ row ∧ row ≤ bottom ∧ left ≤ column ∧ column ≤ right) ∧
        ¬(hollowTop ≤ row ∧ row ≤ hollowBottom ∧ hollowLeft ≤ column ∧ column ≤ hollowRight)

/-! ### Frame boundaries (R101, R103, R106, R122, R124) -/

/-- A deadline is reached at frame N (R124). -/
def deadlineReached (deadline : Option FrameNo) (n : FrameNo) : Prop :=
  ∃ d, deadline = some d ∧ (n - d).toNat < 2147483648

/-- The freeze holds at boundary N: the part is frozen and its limit is not reached (R106 step 1). -/
def State.heldFrozen (s : State) (n : FrameNo) : Prop :=
  s.scr.frozen = true ∧ ¬deadlineReached s.scr.freezeDeadline n

/-- The blink period in effect from boundary N: that of the CONFIGURE DISPLAY which N applies, or the current one (R101,
R103). -/
def State.periodFrom (s : State) (n : FrameNo) (period : Nat) : Prop :=
  (∀ c, s.msg.pendingConfigure = some c → ¬s.heldFrozen n → period = c.blinkPeriod) ∧
    (s.msg.pendingConfigure = none ∨ s.heldFrozen n → period = s.scr.blinkPeriod)

/-- What a block's part of a boundary leaves alone: reset, MSG, the line but for a NOTICE, and the model's queue. -/
def State.lineUntouched (s t : State) : Prop :=
  t.resetCause = s.resetCause ∧ t.resetn = s.resetn ∧ t.pending = s.pending ∧ t.msg.inHand = s.msg.inHand ∧
    t.lnk.receiver = s.lnk.receiver ∧ t.lnk.buffers = s.lnk.buffers ∧ t.lnk.arrival = s.lnk.arrival ∧
    t.lnk.sending = s.lnk.sending ∧ t.lnk.rate = s.lnk.rate ∧ t.lnk.txen = s.lnk.txen ∧
    t.lnk.rxLow = s.lnk.rxLow ∧ t.lnk.cut = s.lnk.cut

/-- The record of the next boundary as blocks have begun it, or as the first block to take a part of it begins it (R126; the
model's own, assumption log 3). -/
def State.begun (s : State) : Boundary :=
  match s.boundary with
  | some b => b
  | none => { held := s.scr.frozen && s.scr.timerHold, aged := false, toggled := false, examined := 0, fresh := [] }

/-- A field has an expiry due at boundary N (R125). -/
def Field.dueBy (f : Field) (n : FrameNo) : Prop :=
  deadlineReached f.staleDeadline n ∨ deadlineReached f.flashDeadline n

/-- FTU's taking of one field's expiries at boundary N (R127, R128, R129): the record, the STALE watch record where the option
asks for it, and one enqueue by class. -/
def State.expiredAs (s t : State) (m : Nat) (f : Field) (n : FrameNo) (stale flash : Bool) : Prop :=
  let handed := stale = true ∧ f.options.staleWatch = true ∧ ¬∃ r ∈ s.aeu.watchList, r.field = m ∧ r.kind = .stale
  let full := 16 ≤ s.aeu.watchList.length
  t.field? m = some { f with
      state := if stale then .stale else f.state
      staleDeadline := if stale then none else f.staleDeadline
      flashDeadline := if flash then none else f.flashDeadline } ∧
    s.otherFieldsKept t m ∧ t.scr = s.scr ∧ s.enqueued t m (s.shows f) f.options.urgent ∧
    t.aeu.alertList = s.aeu.alertList ∧ t.aeu.faultRecord = s.aeu.faultRecord ∧
    (handed ∧ ¬full → t.aeu.watchList = s.aeu.watchList ++ [⟨m, .stale, n⟩]) ∧
    (¬(handed ∧ ¬full) → t.aeu.watchList = s.aeu.watchList) ∧
    (∃ watch : EventSet, (handed → watch = if full then 0x0040 else 0x0020) ∧ (¬handed → watch = 0) ∧
      s.latchedInTurn t (watch ||| if s.pnt.lagging = false ∧ t.pnt.lagging = true then 0x0200 else 0) n) ∧
    t.msg = s.msg ∧ s.lineUntouched t ∧ t.lnk.replies = s.lnk.replies

/-! ### The laws -/

/-- The plane keeps its canonical form (assumption log 9). -/
def State.planeCanonical (s : State) : Prop := Memory.wf s.scr.plane = true

/-- Filled plus reserved reply entries never exceed 8; during reset processing none is in use and no frame is begun, and outside
it no frame is cut off (R170, R171, R173). -/
def State.replyLaw (s : State) : Prop :=
  s.entriesUsed ≤ 8 ∧ (s.resetCause.isSome = true → s.entriesUsed = 0 ∧ s.lnk.sending = none) ∧
    (s.resetCause = none → s.lnk.cut = [])

/-- What is left of a frame that the beginning of reset processing cuts off: a frame being sent up to the end of some byte of it,
and, where none is being sent, what an earlier beginning left (R173). -/
def State.cutOff (s : State) (cut : List Byte) : Prop :=
  (s.lnk.sending = none → cut = s.lnk.cut) ∧
    ∀ bytes, s.lnk.sending = some (.reply bytes) ∨ s.lnk.sending = some (.notice bytes) →
      ∃ before, cut = bytes.take (before + 1)

/-- Whenever an enabled kind is latched, notice-outstanding is yes; bits 11 to 15 name no kind (R153, R175). -/
def State.noticeLaw (s : State) : Prop :=
  (s.aeu.latched &&& s.aeu.noticeMask ≠ 0 → s.aeu.noticeOutstanding = true) ∧
    s.aeu.latched &&& 0xF800 = 0 ∧ s.aeu.noticeMask &&& 0xF800 = 0

/-- The field numbers rise and lie below 512 (R1). -/
def State.tableLaw (s : State) : Prop := Store.rising s.fields = true ∧ ∀ e ∈ s.fields, e.1 < 512

/-- The law of R9: no two fields in use conflict, and every one lies inside the geometry. -/
def State.placementLaw (s : State) : Prop :=
  (∀ e ∈ s.fields, ∀ d ∈ s.fields, e.1 ≠ d.1 → e.2.conflicts d.2 = false) ∧
    ∀ e ∈ s.fields, e.2.inBounds s.scr.geometry = true

/-- The pairings and conditions of R3, record by record, with the reading of R4 that a STALE or HELD field has been posted. -/
def Field.coherent (f : Field) : Prop :=
  (f.value.isSome = f.lastPost.isSome) ∧ (f.shown.isSome = f.shownFrame.isSome) ∧
    (f.staleDeadline.isSome = true → f.state = .live ∧ f.staleInterval ≠ 0 ∧ f.lastPost.isSome = true) ∧
    (f.state = .stale ∨ f.state = .held → f.lastPost.isSome = true) ∧
    (f.state = .retiring → f.flashDeadline = none)

/-- A TEXT field has no limits, zone IN and no latched alert (R3). -/
def Field.textPlain (f : Field) : Prop :=
  f.format = .text → f.upper = none ∧ f.lower = none ∧ f.zone = .inside ∧ f.alertLatched = false

/-- An invisible field in use has no shown value, no shown frame and no flash deadline (R3, R7). -/
def State.hiddenLaw (s : State) : Prop :=
  ∀ e ∈ s.fields, s.shows e.2 = false → e.2.shown = none ∧ e.2.shownFrame = none ∧ e.2.flashDeadline = none

/-- A field number is that of a field in use and visible (R7). -/
def State.onScreen (s : State) (n : Nat) : Prop := ∃ f, s.field? n = some f ∧ s.shows f = true

/-- The law of R65: a field stands at most once in the queue, both lists counted, and every field with an entry is visible and
in use. -/
def State.queueLaw (s : State) : Prop := s.scanOrder.Nodup ∧ ∀ n ∈ s.scanOrder, s.onScreen n

/-- Every entry of ROUTINE is of a field whose class option is ROUTINE, because an URGENT cause moves it to URGENT (R66, R67). -/
def State.routineLaw (s : State) : Prop :=
  ∀ e ∈ s.pnt.routine, ∀ f, s.field? e.field = some f → f.options.urgent = false

/-- The law of R71: with a threshold in its range (R72), LAGGING stands as the queued total and the threshold leave it, so that
judging it again changes nothing. -/
def State.lagLaw (s : State) : Prop :=
  1 ≤ s.pnt.lagThreshold ∧ s.pnt.lagging = lagAfter s.pnt.lagging s.pnt.lagThreshold s.queuedTotal

/-- A slot's field part agrees with its content: READY or FILLING with discard no belongs to a field, and FILLING with discard
yes to none (R73). -/
def Slot.belongs (slot : Slot) : Prop :=
  match slot.content with
  | .ready _ => slot.field.isSome = true
  | .filling _ discard => slot.field.isSome = !discard

/-- The law of R73: at most 32 slots are in use, at most one is FILLING, a field holds at most one, and every field that holds
one is visible and in use. -/
def State.slotLaw (s : State) : Prop :=
  Store.rising s.pnt.slots = true ∧ (∀ e ∈ s.pnt.slots, e.1 < 32 ∧ e.2.belongs) ∧
    (s.pnt.slots.filter fun e => e.2.content.isFilling).length ≤ 1 ∧
    (s.pnt.slots.filterMap fun e => e.2.field).Nodup ∧
    ∀ e ∈ s.pnt.slots, ∀ n, e.2.field = some n → s.onScreen n

/-- The law of R142: the alert list holds at most 32 distinct field numbers, each of a field whose alert is latched. -/
def State.alertLaw (s : State) : Prop :=
  s.aeu.alertList.length ≤ 32 ∧ s.aeu.alertList.Nodup ∧
    ∀ n ∈ s.aeu.alertList, ∃ f, s.field? n = some f ∧ f.alertLatched = true

/-- The law of R146 and R23: the watch list holds at most 16 records, no two of the same field and kind, each of a field in
use. -/
def State.watchLaw (s : State) : Prop :=
  s.aeu.watchList.length ≤ 16 ∧ (s.aeu.watchList.map fun r => (r.field, r.kind)).Nodup ∧
    ∀ r ∈ s.aeu.watchList, (s.field? r.field).isSome = true

/-- A value is one of a format: glyphs for TEXT, at most 40 of them, and an integer for the numeric
formats (R2, R61). -/
def Value.fits (format : Format) : Value → Prop
  | .number _ => format ≠ .text
  | .text glyphs => format = .text ∧ glyphs.length ≤ 40

/-- The ranges of a record's parts (R2, R12). -/
def Field.inRange (f : Field) : Prop :=
  1 ≤ f.width ∧ f.width ≤ 40 ∧ f.scale ≤ 8 ∧ f.flashLength ≤ 255 ∧ f.staleInterval ≤ 255 ∧
    ∀ v, f.value = some v → v.fits f.format

/-- A slot's cells are as many as its field is wide, when rendered and in the inputs of a render in flight (R73, R76). -/
def State.cellsLaw (s : State) : Prop :=
  ∀ e ∈ s.pnt.slots, ∀ n f, e.2.field = some n → s.field? n = some f →
    match e.2.content with
    | .filling inputs _ => inputs.record.width = f.width
    | .ready r => r.cells.length = f.width

/-- SCR's parts lie in their ranges: sixteen palette entries and staged entries (R94, R96), brightness 0..15 (R98), the
parameters as R114 clamps them, and the freeze deadline and timer-hold only while frozen (R118, R121, R122). At most one
operation is pending (R106). -/
def State.screenLaw (s : State) : Prop :=
  s.scr.palette.length = 16 ∧ s.scr.stagedPalette.length = 16 ∧ s.scr.brightness ≤ 15 ∧
    (∀ m level, s.scr.stagedMode = some (m, level) → level ≤ 15) ∧
    8 ≤ s.scr.blinkPeriod ∧ s.scr.blinkPeriod ≤ 120 ∧ 1 ≤ s.pnt.ageLimit ∧ s.pnt.ageLimit ≤ 255 ∧
    1 ≤ s.pnt.lagThreshold ∧ s.pnt.lagThreshold ≤ 512 ∧
    (∀ c, s.msg.pendingConfigure = some c → s.msg.pendingPage = none ∧ 8 ≤ c.blinkPeriod ∧ c.blinkPeriod ≤ 120 ∧
      1 ≤ c.ageLimit ∧ c.ageLimit ≤ 255 ∧ 1 ≤ c.lagThreshold ∧ c.lagThreshold ≤ 512) ∧
    (s.scr.frozen = false → s.scr.freezeDeadline = none ∧ s.scr.timerHold = false)

end Sys2Proof.Machine
end

