-- ==== Sys2Proof/Certificates/Slice0/Obligations.lean ====
section
/-! DEFINITION. The statements for the provers, each from the rules its docstring cites. -/

open Sys2Proof Sys2Proof.Machine

/-! ### The step and the take (00_scope section 2, R168) -/

/-- A step takes the command at the front of the queue and runs it on the state with the queue's rest; an empty queue idles,
which is the model's choice (assumption log 8). -/
def Obligations.StepRunsFrontCommand : Prop :=
  (∀ (s : State) (c : Instr) (rest : List Instr), s.pending = c :: rest → step s = exec c { s with pending := rest }) ∧
    ∀ s : State, s.pending = [] → step s = .next s

/-- No command stops the machine: every refusal of the manual is a REFUSED reply (R169), which is an effect on the state. That a
command which is no request answers a next state too is the model's deduction (assumption log 19), and so is it for a command
that is not well formed (assumption log 20). -/
def Obligations.EveryCommandAnswersNextState : Prop :=
  ∀ (c : Instr) (s : State), ∃ t, exec c s = .next t

/-- A frame that MSG cannot take waits, and nothing changes: reset processing, a message in hand, no FREE reply entry, another
frame oldest in the arrival order (R168), or a receiver still in frame or held by a break (R162, assumption log 4). -/
def Obligations.RequestWaitsForMessageUnit : Prop :=
  ∀ (c : Instr) (f : Frame) (s : State), c.frame? = some f → s.boundary = none →
    s.resetCause ≠ none ∨ s.msg.inHand ≠ none ∨ 8 ≤ s.entriesUsed ∨
      (s.lnk.arrival = [] ∧ (s.lnk.receiver ≠ .hunting ∨ s.lnk.rxLow = true)) ∨
      (∃ k rest, s.lnk.arrival = k :: rest ∧ Store.find? k s.lnk.buffers ≠ some (.held f)) →
    exec c s = .next s

/-- A request finds a frame boundary that blocks have begun over before it is taken, and so do the beginning and the completion of
a render (R47, R103, R112). It is over as FRAME_BOUNDARY in the settling order would leave it: every block has taken what it had
not yet taken of it. That a begun boundary is so finished, and in that order, is the model's choice (assumption log 3). -/
def Obligations.RequestFindsBoundaryOver : Prop :=
  (∀ (c : Instr) (f : Frame) (s : State), c.frame? = some f → s.boundary ≠ none →
    s.settle.boundary = none ∧
      exec c s = if s.settle.ready c then exec c s.settle else .next s) ∧
  ∀ s : State, s.resetCause = none → s.boundary ≠ none →
    exec (.frameBoundary settlingOrder) s = .next s.settle ∧
      exec .renderBegin s = exec .renderBegin s.settle ∧ exec .renderComplete s = exec .renderComplete s.settle

/-! ### Frames and commands (R163, R169, R175) -/

/-- DECODE AND ENCODE AGREE: the frame of every well-formed request, read by the checks and layouts of R169 and R175, is that
request, with every operand at every value that its layout carries. -/
def Obligations.FrameOfRequestReadsBack : Prop :=
  ∀ (c : Instr) (f : Frame) (straps : Straps), c.wellFormed = true → c.frame? = some f →
    (∀ tag p levels, c = .reset tag p levels → levels = straps) → commandOfFrame straps f = c

/-! ### The receiver (R163 to R166) -/

/-- A whole frame that arrives while an input buffer is FREE is held in the lowest-numbered one, marked good or bad-CRC, at the
tail of the arrival order (R163, R164); FRAME_RECEIVED completes. Each byte arrives least significant bit first, and is taken
whatever the level of its stop bit (R162). A break is taken as one byte 0x00, and no further byte is taken until the line
returns high (R162). -/
def Obligations.ReceivedFrameIsHeld : Prop :=
  (∀ (s : State) (k : Nat) (type tag high low : Byte) (payload : List Byte) (signals : List LineSignal),
    s.resetCause = none → s.lnk.rxLow = false → s.lnk.receiver = .hunting → payload.length ≤ 240 → k < 6 →
    Store.find? k s.lnk.buffers = none → (∀ j < k, Store.find? j s.lnk.buffers ≠ none) →
    let bytes : List Byte := 0xC3 :: byteOfNat payload.length :: type :: tag :: payload ++ [high, low]
    signals.length = bytes.length →
    (∀ (i : Nat) (b : Byte), bytes[i]? = some b → ∃ stop, signals[i]? = some (LineSignal.character ⟨b.getLsbD 0, b.getLsbD 1,
      b.getLsbD 2, b.getLsbD 3, b.getLsbD 4, b.getLsbD 5, b.getLsbD 6, b.getLsbD 7, stop⟩)) →
    exec (.frameReceived signals) s =
      .next { s with lnk := { s.lnk with
        buffers := Store.insert k (.held ⟨type, tag, payload,
          bytesOfHalf (crc16 (byteOfNat payload.length :: type :: tag :: payload)) == [high, low]⟩) s.lnk.buffers
        arrival := s.lnk.arrival ++ [k] } }) ∧
  ∀ s : State, s.resetCause = none →
    (s.lnk.rxLow = false → ∃ t, exec (.frameReceived (signalsOf [0x00])) s = .next t ∧
      exec (.frameReceived [.heldLow]) s = .next { t with lnk := { t.lnk with rxLow := true } }) ∧
    (s.lnk.rxLow = true → (∀ c, exec (.frameReceived [.character c]) s = .next s) ∧
      exec (.frameReceived [.heldLow]) s = .next s ∧
      exec (.frameReceived [.returnsHigh]) s = .next { s with lnk := { s.lnk with rxLow := false } })

/-- A frame that arrives while no input buffer is FREE is counted through and discarded, and OVERRUN latches; with a LEN above 240
FRAMING latches after it and the receiver hunts (R166). A NOTICE that these place carries the number that the counter stands at:
while blocks have begun a boundary, its number (R153, R106; that a line event falls between their parts, assumption log 3). -/
def Obligations.FrameWithoutBufferIsDiscarded : Prop :=
  ∀ s : State, s.resetCause = none → s.lnk.rxLow = false → s.lnk.receiver = .hunting →
    (∀ j < 6, Store.find? j s.lnk.buffers ≠ none) →
    let standing := if s.boundary = none then s.scr.frameCounter else s.scr.frameCounter + 1
    let dropped := fun t : State => s.blocksKept t ∧ s.listsKept t ∧ t.msg = s.msg ∧ s.outsideBlocks t ∧
      t.lnk.receiver = .hunting ∧ t.lnk.buffers = s.lnk.buffers ∧ t.lnk.arrival = s.lnk.arrival ∧
      t.lnk.replies = s.lnk.replies ∧ t.lnk.sending = s.lnk.sending ∧ t.lnk.rxLow = s.lnk.rxLow
    (∀ (type tag high low : Byte) (payload : List Byte), payload.length ≤ 240 →
      ∃ t, exec (.frameReceived
          (signalsOf (0xC3 :: byteOfNat payload.length :: type :: tag :: payload ++ [high, low]))) s = .next t ∧
        s.latchedOnce t 0x0008 standing ∧ dropped t) ∧
    ∀ b : Byte, 240 < b.toNat →
      ∃ u t, exec (.frameReceived (signalsOf [0xC3, b])) s = .next t ∧ s.latchedOnce u 0x0008 standing ∧
        u.latchedOnce t 0x0004 standing ∧ dropped t

/-- FRAMING (R164, R165): a LEN above 240 or a gap of more than 2 ms ends a frame in frame; its FILLING buffer becomes FREE, FRAMING
latches, the receiver hunts. While hunting, a gap does nothing, and so does a byte other than 0xC3. A NOTICE that FRAMING places
carries the number that the counter stands at: while blocks have begun a boundary, its number (R153, R106; that a line event
falls between their parts, assumption log 3). -/
def Obligations.FramingEndsFrame : Prop :=
  ∀ s : State, s.resetCause = none →
    let standing := if s.boundary = none then s.scr.frameCounter else s.scr.frameCounter + 1
    (∀ b : Byte, s.lnk.receiver = .hunting →
      (b ≠ 0xC3 → exec (.frameReceived (signalsOf [b])) s = .next s) ∧
      (240 < b.toNat → s.lnk.rxLow = false → (∃ k < 6, Store.find? k s.lnk.buffers = none) →
        ∃ t, exec (.frameReceived (signalsOf [0xC3, b])) s = .next t ∧ s.latchedOnce t 0x0004 standing ∧
          s.blocksKept t ∧ s.listsKept t ∧ t.msg = s.msg ∧ s.outsideBlocks t ∧
          t.lnk.receiver = .hunting ∧ t.lnk.buffers = s.lnk.buffers ∧ t.lnk.arrival = s.lnk.arrival ∧
          t.lnk.replies = s.lnk.replies ∧ t.lnk.sending = s.lnk.sending)) ∧
    (s.lnk.receiver = .hunting → exec .gapTimeout s = .next s) ∧
    (s.lnk.receiver ≠ .hunting →
      ∃ t, exec .gapTimeout s = .next t ∧ s.latchedOnce t 0x0004 standing ∧
        s.blocksKept t ∧ s.listsKept t ∧ t.msg = s.msg ∧ s.outsideBlocks t ∧
        t.lnk.receiver = .hunting ∧ t.lnk.arrival = s.lnk.arrival ∧ t.lnk.replies = s.lnk.replies ∧
        t.lnk.sending = s.lnk.sending ∧
        t.lnk.buffers = (match s.lnk.receiver with
          | .expectLen (some k) => Store.erase k s.lnk.buffers
          | .inFrame (some k) _ => Store.erase k s.lnk.buffers
          | _ => s.lnk.buffers))

/-! ### The transmitter (R170, R171) -/

/-- With TXEN high, the idle transmitter begins the waiting frame with the earliest placing time, the oldest FILLED reply or the
NOTICE, which leaves its slot; with TXEN low, or nothing waiting, none begins (R171). -/
def Obligations.TransmitterBeginsEarliestFrame : Prop :=
  ∀ s : State, s.resetCause = none → s.lnk.sending = none →
    exec (.transmitBegin false) s = .next { s with lnk := { s.lnk with txen := false } } ∧
    (s.lnk.replies = [] → s.lnk.notice = none →
      exec (.transmitBegin true) s = .next { s with lnk := { s.lnk with txen := true } }) ∧
    (∀ r rest, s.lnk.replies = r :: rest → (∀ x, s.lnk.notice = some x → r.placed ≤ x.placed) →
      exec (.transmitBegin true) s = .next { s with lnk := { s.lnk with
        txen := true, sending := some (.reply (lineBytes r.type r.tag r.payload)) } }) ∧
    ∀ x, s.lnk.notice = some x → (∀ r rest, s.lnk.replies = r :: rest → x.placed < r.placed) →
      exec (.transmitBegin true) s = .next { s with lnk := { s.lnk with
        txen := true, notice := none,
        sending := some (.notice (lineBytes 0xFE 0 (bytesOfHalf x.latched ++ bytesOfWord x.frame))) } }

/-- A frame already begun completes whatever TXEN does, and no other begins meanwhile; at its CRC low byte the entry of a reply
becomes FREE (R170, R171). On TXD its bytes stand back to back, each a low start bit, eight data bits least significant first
and one high stop bit; between frames TXD is high (R162). During reset processing it carries the bytes that the cut-off let
complete, and is then high (R173). -/
def Obligations.TransmitterCompletesFrame : Prop :=
  ∀ s : State, (s.lnk.sending = none → exec .transmitComplete s = .next s) ∧
    (∀ bytes, s.lnk.sending = some (.reply bytes) →
      (∀ txen, exec (.transmitBegin txen) s = .next s) ∧
      exec .transmitComplete s = .next { s with lnk := { s.lnk with sending := none, replies := s.lnk.replies.drop 1 } }) ∧
    (∀ bytes, s.lnk.sending = some (.notice bytes) →
      (∀ txen, exec (.transmitBegin txen) s = .next s) ∧
      exec .transmitComplete s = .next { s with lnk := { s.lnk with sending := none } }) ∧
    (s.lnk.sending = none → s.resetCause = none → ∀ i, s.txd i = true) ∧
    ∀ bytes, (s.resetCause = none ∧ (s.lnk.sending = some (.reply bytes) ∨ s.lnk.sending = some (.notice bytes))) ∨
        (s.resetCause ≠ none ∧ s.lnk.cut = bytes) →
      ∀ i, s.txd i = (match bytes[i / 10]? with
        | none => true
        | some b => if i % 10 = 0 then false else if i % 10 = 9 then true else b.getLsbD (i % 10 - 1))

/-! ### Reset (R162, R173, R174) -/

/-- An accepted RESET begins reset processing: every block takes its reset values, everything in flight is dropped, a frame being
sent is cut off once the byte being sent completes, the straps are sampled (R162, R173). The model's choices in it: its queue
stays (assumption log 8), its count of choices stays or rises (log 10), the straps are sampled at the beginning and the level of
TXEN stays (log 12), which byte is being sent is left free (log 14), and no break holds RXD after it (log 25). -/
def Obligations.ResetRequestBeginsReset : Prop :=
  ∀ (s : State) (tag : Byte) (straps : Straps), s.ready (.reset tag (.fields ()) straps) = true →
    ∃ cut choices, s.cutOff cut ∧ s.choices ≤ choices ∧ (s.lnk.sending = none → choices = s.choices) ∧
    exec (.reset tag (.fields ()) straps) s = .next { State.reset with
      lnk := { State.reset.lnk with rate := straps, txen := s.lnk.txen, cut := cut }
      resetCause := some (.request tag), resetn := true, choices := choices, pending := s.pending }

/-- RESETN driven low begins reset processing in every state, or starts it again with the cause POWER; a frame being sent is cut
off once the byte being sent completes (R173, R174). The model's choices in it are those of ResetRequestBeginsReset (assumption
logs 8, 10, 12, 14 and 25). -/
def Obligations.ResetPinBeginsReset : Prop :=
  ∀ (s : State) (straps : Straps),
    ∃ cut choices, s.cutOff cut ∧ s.choices ≤ choices ∧ (s.lnk.sending = none → choices = s.choices) ∧
    exec (.resetn straps) s = .next { State.reset with
      lnk := { State.reset.lnk with rate := straps, txen := s.lnk.txen, cut := cut }
      resetCause := some .power, resetn := false, choices := choices, pending := s.pending }

/-- Reset processing completes by placing RESET DONE, TYPE 0x8F, with the tag and cause that R174 gives; RDY rises where at
least two buffers are FREE. Without reset processing nothing completes. -/
def Obligations.ResetCompletionPlacesResetDone : Prop :=
  ∀ s : State, (s.resetCause = none → exec .resetDone s = .next s) ∧
    ∀ cause, s.resetCause = some cause →
      ∃ t, exec .resetDone s = .next t ∧ t.resetCause = none ∧ t.resetn = true ∧
        s.replied t 0x8F (match cause with | .power => 0 | .request tag => tag)
          [match cause with | .power => 0 | .request _ => 1] ∧
        s.blocksKept t ∧ t.msg = s.msg ∧ t.aeu = s.aeu ∧ t.boundary = s.boundary ∧ t.pending = s.pending ∧
        t.lnk.receiver = s.lnk.receiver ∧ t.lnk.buffers = s.lnk.buffers ∧ t.lnk.arrival = s.lnk.arrival ∧
        t.lnk.notice = s.lnk.notice ∧ t.lnk.sending = s.lnk.sending ∧ t.lnk.cut = [] ∧ t.lnk.rate = s.lnk.rate ∧
        (s.lnk.buffers.length ≤ 4 → t.rdy = true)

/-- Throughout reset processing RDY is low, every pixel is black, and no command but RESETN and RESET_DONE changes anything: no
byte, request, boundary or render is taken (R173). -/
def Obligations.ResetProcessingTakesNothing : Prop :=
  ∀ (s : State) (c : Instr), s.resetCause ≠ none → s.lnk.sending = none → (∀ straps, c ≠ .resetn straps) → c ≠ .resetDone →
    exec c s = .next s ∧ s.rdy = false ∧ ∀ y x, s.pixel y x = ⟨0, 0, 0⟩

/-! ### Refusals (R169, R175 and the check tables of the requests) -/

/-- The checks of R169 in MSG: a frame marked bad-CRC is refused with BAD_CHECK, CHECK_ERROR and REFUSAL latching together; a
good frame of no request code with UNKNOWN_TYPE, both echoing TYPE and TAG as received; and a request of any type whose LEN does
not agree with the type with BAD_LENGTH. -/
def Obligations.FrameChecksRefuse : Prop :=
  (∀ (s : State) (type tag : Byte) (payload : List Byte),
    (s.ready (.badCheck type tag payload) = true →
      ∃ t, exec (.badCheck type tag payload) s = .next t ∧ s.refusedAs t type tag .badCheck none) ∧
    (s.ready (.unknownType type tag payload) = true →
      ∃ t, exec (.unknownType type tag payload) s = .next t ∧ s.refusedAs t type tag .unknownType none)) ∧
  ∀ (s : State) (tag : Byte) (payload : List Byte) (straps : Straps),
    ∀ e ∈ ([(0x01, .identify tag (.wrongLength payload)), (0x02, .readStatus tag (.wrongLength payload)),
        (0x03, .configureDisplay tag (.wrongLength payload)), (0x04, .setPalette tag (.wrongLength payload)),
        (0x05, .displayMode tag (.wrongLength payload)), (0x06, .selectPage tag (.wrongLength payload)),
        (0x07, .freeze tag (.wrongLength payload)), (0x08, .thaw tag (.wrongLength payload)),
        (0x0F, .reset tag (.wrongLength payload) straps), (0x10, .defineField tag (.wrongLength payload)),
        (0x11, .restyleField tag (.wrongLength payload)), (0x12, .setLimits tag (.wrongLength payload)),
        (0x13, .deleteField tag (.wrongLength payload)), (0x14, .readField tag (.wrongLength payload)),
        (0x18, .post tag (.wrongLength payload)), (0x19, .postBatch tag (.wrongLength payload)),
        (0x1A, .postText tag (.wrongLength payload)), (0x1B, .unhold tag (.wrongLength payload)),
        (0x20, .ackAlert tag (.wrongLength payload)), (0x21, .readAlerts tag (.wrongLength payload)),
        (0x22, .readWatch tag (.wrongLength payload)), (0x28, .clearEvents tag (.wrongLength payload)),
        (0x29, .setNoticeMask tag (.wrongLength payload)), (0x2A, .readFault tag (.wrongLength payload)),
        (0x30, .readCells tag (.wrongLength payload))] : List (Byte × Instr)),
      s.ready e.2 = true → ∃ t, exec e.2 s = .next t ∧ s.refusedAs t e.1 tag .badLength none

/-- A field number of 512 or above is refused with BAD_FIELD before any later check, and the fault record keeps the number as
carried; a FREE field, or for all but READ FIELD a RETIRING one, is refused with NOT_DEFINED (R10, R15, R18, R20, R24, R48, R61,
R63, R144). -/
def Obligations.FieldNumberChecks : Prop :=
  ∀ (s : State) (tag : Byte) (number : Half) (d : DefineFields) (r : RestyleFields) (l : LimitFields) (p : PostFields)
    (x : TextFields), d.number = number → r.number = number → l.number = number → p.number = number → x.number = number →
    (512 ≤ number.toNat →
      ∀ e ∈ ([(0x10, .defineField tag (.fields d)), (0x11, .restyleField tag (.fields r)),
          (0x12, .setLimits tag (.fields l)), (0x13, .deleteField tag (.fields number)),
          (0x14, .readField tag (.fields number)), (0x18, .post tag (.fields p)), (0x1A, .postText tag (.fields x)),
          (0x1B, .unhold tag (.fields number))] ++
          (if number = 0xFFFF then [] else [(0x20, .ackAlert tag (.fields number))]) : List (Byte × Instr)),
        s.ready e.2 = true → ∃ t, exec e.2 s = .next t ∧ s.refusedAs t e.1 tag .badField (some number)) ∧
    (number.toNat < 512 → (∀ f, s.field? number.toNat = some f → f.state = .retiring) →
      ∀ e ∈ ([(0x11, .restyleField tag (.fields r)), (0x12, .setLimits tag (.fields l)),
          (0x13, .deleteField tag (.fields number)), (0x18, .post tag (.fields p)), (0x1A, .postText tag (.fields x)),
          (0x1B, .unhold tag (.fields number)), (0x20, .ackAlert tag (.fields number))] : List (Byte × Instr)),
        s.ready e.2 = true → ∃ t, exec e.2 s = .next t ∧ s.refusedAs t e.1 tag .notDefined (some number)) ∧
    (number.toNat < 512 → s.field? number.toNat = none → s.ready (.readField tag (.fields number)) = true →
      ∃ t, exec (.readField tag (.fields number)) s = .next t ∧ s.refusedAs t 0x14 tag .notDefined (some number))

/-- Checks 2 to 6 of DEFINE FIELD, in the order of R11. -/
def Obligations.DefineFieldChecks : Prop :=
  ∀ (s : State) (tag : Byte) (r : DefineFields), r.number.toNat < 512 → s.ready (.defineField tag (.fields r)) = true →
    let refused := fun code => ∃ t, exec (.defineField tag (.fields r)) s = .next t ∧
      s.refusedAs t 0x10 tag code (some r.number)
    let codesNameNothing := 4 < r.format.toNat ∨ (3 < r.page.toNat ∧ r.page ≠ 0xFF) ∨ r.width = 0 ∨ 40 < r.width.toNat
    let inside := r.row.toNat < s.scr.geometry.rows ∧ r.column.toNat + r.width.toNat ≤ s.scr.geometry.columns
    let conflict := ∃ e ∈ s.fields, (r.page = 0xFF ∨ e.2.page = .common ∨ e.2.page.code = r.page) ∧
      e.2.row = r.row.toNat ∧ r.column.toNat < e.2.column + e.2.width ∧ e.2.column < r.column.toNat + r.width.toNat
    if s.field? r.number.toNat ≠ none then refused .inUse
    else if codesNameNothing then refused .badValue
    else if s.msg.pendingConfigure ≠ none then refused .busy
    else if ¬inside then refused .outOfBounds
    else conflict → refused .overlap

/-- The later checks of SET LIMITS, POST, POST TEXT and UNHOLD on a field in use that is not RETIRING (R18, R48, R61, R63). -/
def Obligations.FormatAndStateChecks : Prop :=
  ∀ (s : State) (tag : Byte) (number : Half) (f : Field) (l : LimitFields) (p : PostFields) (x : TextFields),
    l.number = number → p.number = number → x.number = number → number.toNat < 512 →
    s.field? number.toNat = some f → f.state ≠ .retiring →
    (s.ready (.setLimits tag (.fields l)) = true →
      (f.format = .text →
        ∃ t, exec (.setLimits tag (.fields l)) s = .next t ∧ s.refusedAs t 0x12 tag .wrongFormat (some number)) ∧
      (f.format ≠ .text → l.flags.getLsbD 0 = true → l.flags.getLsbD 1 = true → l.upper.toInt ≤ l.lower.toInt →
        ∃ t, exec (.setLimits tag (.fields l)) s = .next t ∧ s.refusedAs t 0x12 tag .badValue (some number))) ∧
    (s.ready (.post tag (.fields p)) = true → f.format = .text →
      ∃ t, exec (.post tag (.fields p)) s = .next t ∧ s.refusedAs t 0x18 tag .wrongFormat (some number)) ∧
    (s.ready (.postText tag (.fields x)) = true → f.format ≠ .text →
      ∃ t, exec (.postText tag (.fields x)) s = .next t ∧ s.refusedAs t 0x1A tag .wrongFormat (some number)) ∧
    (s.ready (.unhold tag (.fields number)) = true → f.state ≠ .held →
      ∃ t, exec (.unhold tag (.fields number)) s = .next t ∧ s.refusedAs t 0x1B tag .notHeld (some number))

/-- The checks of the screen requests in their order: SET PALETTE, DISPLAY MODE, SELECT PAGE, CONFIGURE DISPLAY, THAW and READ
CELLS (R95, R98, R104, R111, R114, R121). A palette with no colours is no such command (R95, assumption log 20). -/
def Obligations.ScreenRequestChecks : Prop :=
  ∀ (s : State) (tag : Byte) (pal : PaletteFields) (mode : ModeFields) (page : Byte) (conf : ConfigureFields)
    (run : CellFields),
    let refused := fun (c : Instr) type code => ∃ t, exec c s = .next t ∧ s.refusedAs t type tag code none
    let waits := s.msg.pendingPage ≠ none ∨ s.msg.pendingConfigure ≠ none
    ((Instr.setPalette tag (.fields pal)).wellFormed = true → s.ready (.setPalette tag (.fields pal)) = true →
      15 < pal.first.toNat →
      refused (.setPalette tag (.fields pal)) 0x04 .badValue) ∧
    (s.ready (.displayMode tag (.fields mode)) = true → 3 < mode.mode.toNat →
      refused (.displayMode tag (.fields mode)) 0x05 .badValue) ∧
    (s.ready (.selectPage tag (.fields page)) = true →
      if 3 < page.toNat then refused (.selectPage tag (.fields page)) 0x06 .badValue
      else if s.scr.frozen = true then refused (.selectPage tag (.fields page)) 0x06 .frozen
      else waits → refused (.selectPage tag (.fields page)) 0x06 .busy) ∧
    (s.ready (.configureDisplay tag (.fields conf)) = true →
      if 2 < conf.geometry.toNat then refused (.configureDisplay tag (.fields conf)) 0x03 .badValue
      else if s.scr.frozen = true then refused (.configureDisplay tag (.fields conf)) 0x03 .frozen
      else waits → refused (.configureDisplay tag (.fields conf)) 0x03 .busy) ∧
    (s.ready (.thaw tag (.fields ())) = true → s.scr.frozen = false → refused (.thaw tag (.fields ())) 0x08 .notFrozen) ∧
    (s.ready (.readCells tag (.fields run)) = true →
      if run.count = 0 ∨ 80 < run.count.toNat then refused (.readCells tag (.fields run)) 0x30 .badValue
      else s.scr.geometry.rows ≤ run.row.toNat ∨ s.scr.geometry.columns ≤ run.column.toNat ∨
          s.scr.geometry.cells < run.row.toNat * s.scr.geometry.columns + run.column.toNat + run.count.toNat →
        refused (.readCells tag (.fields run)) 0x30 .outOfBounds)

/-! ### Requests that report (R24, R104, R143, R148, R159, R160, R172) -/

/-- IDENTIFY: refused only with BAD_LENGTH; it replies with the codes of R172 and changes no state. -/
def Obligations.IdentifyReportsPart : Prop :=
  ∀ (s : State) (tag : Byte),
    (s.ready (.identify tag (.fields ())) = true →
      ∃ t, exec (.identify tag (.fields ())) s = .next t ∧
        s.reported t 0x81 tag [0x5A, 0x63, 0x01, 0x02, 0x00, 0x20, 0x02]) ∧
    ∀ payload, s.ready (.identify tag (.wrongLength payload)) = true →
      ∃ t, exec (.identify tag (.wrongLength payload)) s = .next t ∧ s.refusedAs t 0x01 tag .badLength none

/-- READ STATUS: the 23 bytes of its table, as they stand when MSG takes it, and no change of state (R160, R175). -/
def Obligations.ReadStatusReportsState : Prop :=
  ∀ (s : State) (tag : Byte), (∀ payload, s.ready (.readStatus tag (.wrongLength payload)) = true →
      ∃ t, exec (.readStatus tag (.wrongLength payload)) s = .next t ∧ s.refusedAs t 0x02 tag .badLength none) ∧
    (s.ready (.readStatus tag (.fields ())) = true →
    ∃ t flags, exec (.readStatus tag (.fields ())) s = .next t ∧
      (flags.getLsbD 0 = s.scr.frozen ∧ flags.getLsbD 1 = s.scr.timerHold ∧ flags.getLsbD 2 = s.pnt.lagging ∧
        (flags.getLsbD 3 = true ↔ ∃ e ∈ s.pnt.slots, e.2.content.isFilling = true) ∧
        flags.getLsbD 4 = s.msg.pendingConfigure.isSome ∧ flags.getLsbD 5 = s.msg.pendingPage.isSome ∧
        flags.getLsbD 6 = s.aeu.noticeOutstanding) ∧
      s.reported t 0x82 tag
        ([s.scr.geometry.code, s.scr.page.zeroExtend 8, s.scr.mode.code, BitVec.ofNat 8 s.scr.brightness, flags] ++
          bytesOfHalf (match s.scr.frozen, s.scr.freezeDeadline with
            | true, some d => (d - s.scr.frameCounter).setWidth 16
            | _, _ => 0) ++
          bytesOfHalf (BitVec.ofNat 16 s.pnt.urgent.length) ++ bytesOfHalf (BitVec.ofNat 16 s.pnt.routine.length) ++
          [BitVec.ofNat 8 s.pnt.slots.length] ++ bytesOfHalf (BitVec.ofNat 16 s.fields.length) ++
          [BitVec.ofNat 8 s.entriesUsed] ++ bytesOfHalf s.aeu.latched ++ bytesOfHalf s.aeu.noticeMask ++
          bytesOfWord s.scr.frameCounter))

/-- READ FIELD: every part of the record, absent parts as zeros, and no change of state; a RETIRING field is reported too (R24,
R175). The model's choice in it: bits 6 and 7 of the options byte, which are not stored, are sent as 0 (assumption log 26). -/
def Obligations.ReadFieldReportsRecord : Prop :=
  ∀ (s : State) (tag : Byte) (number : Half) (f : Field), number.toNat < 512 → s.field? number.toNat = some f →
    s.ready (.readField tag (.fields number)) = true →
    ∃ t presence flags slot, exec (.readField tag (.fields number)) s = .next t ∧
      (presence.getLsbD 0 = f.value.isSome ∧ presence.getLsbD 1 = f.lastPost.isSome ∧
        presence.getLsbD 2 = f.shown.isSome ∧ presence.getLsbD 3 = f.shownFrame.isSome ∧
        presence.getLsbD 4 = f.flashDeadline.isSome ∧ presence.getLsbD 5 = f.staleDeadline.isSome ∧
        presence.getLsbD 6 = f.upper.isSome ∧ presence.getLsbD 7 = f.lower.isSome) ∧
      (flags.getLsbD 0 = f.alertLatched ∧ flags.getLsbD 1 = f.overflow) ∧
      ((∀ e ∈ s.pnt.slots, e.2.field ≠ some number.toNat) → slot = [0xFF, 0x00]) ∧
      (∀ e ∈ s.pnt.slots, e.2.field = some number.toNat →
        (∀ d ∈ s.pnt.slots, d.2.field = some number.toNat → d = e) →
        slot = [BitVec.ofNat 8 e.1, if e.2.content.isFilling then 0x01 else 0x02]) ∧
      s.reported t 0x94 tag
        (bytesOfHalf number ++ [f.state.code, f.page.code, BitVec.ofNat 8 f.row, BitVec.ofNat 8 f.column,
            BitVec.ofNat 8 f.width, f.format.code, BitVec.ofNat 8 f.scale, f.options.byte,
            f.style.f ++ f.style.b, f.style.up ++ f.style.down, f.style.stale ++ f.style.alert,
            BitVec.ofNat 8 f.flashLength, BitVec.ofNat 8 f.staleInterval, presence] ++
          bytesOfWord (f.lastPost.getD 0) ++ bytesOfWord (f.shownFrame.getD 0) ++ bytesOfWord (f.flashDeadline.getD 0) ++
          bytesOfWord (f.staleDeadline.getD 0) ++ bytesOfWord (f.upper.getD 0) ++ bytesOfWord (f.lower.getD 0) ++
          [f.direction.code, f.zone.code, flags,
            if number.toNat ∈ s.pnt.urgent then 1
            else if number.toNat ∈ s.pnt.routine.map RoutineEntry.field then 2 else 0] ++ slot ++
          valueBytes f.format f.value ++ valueBytes f.format f.shown)

/-- READ ALERTS: the list head first with each field's zone, and the count of latched fields that are not listed; no change of
state (R143). -/
def Obligations.ReadAlertsReportsList : Prop :=
  ∀ (s : State) (tag : Byte) (zones : Nat → Zone), (∀ payload, s.ready (.readAlerts tag (.wrongLength payload)) = true →
      ∃ t, exec (.readAlerts tag (.wrongLength payload)) s = .next t ∧ s.refusedAs t 0x21 tag .badLength none) ∧
    ((∀ n ∈ s.aeu.alertList, ∃ f, s.field? n = some f ∧ f.zone = zones n) →
    s.ready (.readAlerts tag (.fields ())) = true →
    ∃ t, exec (.readAlerts tag (.fields ())) s = .next t ∧
      s.reported t 0xA1 tag
        (BitVec.ofNat 8 s.aeu.alertList.length ::
          s.aeu.alertList.flatMap (fun n => bytesOfHalf (BitVec.ofNat 16 n) ++ [(zones n).code]) ++
          bytesOfHalf (BitVec.ofNat 16
            ((s.fields.filter fun e => e.2.alertLatched && !s.aeu.alertList.contains e.1).length))))

/-- READ FAULT: refused only with BAD_LENGTH; it returns none or every part with its presence mark, and changes no state
(R159, R175). -/
def Obligations.ReadFaultReportsRecord : Prop :=
  ∀ (s : State) (tag : Byte),
    (s.ready (.readFault tag (.fields ())) = true →
      ∃ t, exec (.readFault tag (.fields ())) s = .next t ∧
        (s.aeu.faultRecord = none → s.reported t 0xAA tag [0x00]) ∧
        ∀ r, s.aeu.faultRecord = some r → ∃ parts : Byte,
          parts.getLsbD 0 = r.field.isSome ∧ parts.getLsbD 1 = r.index.isSome ∧
          s.reported t 0xAA tag ([0x01, r.type, r.tag, r.code.code, parts] ++ bytesOfHalf (r.field.getD 0) ++
            [BitVec.ofNat 8 (r.index.getD 0)] ++ bytesOfWord r.frame)) ∧
    ∀ payload, s.ready (.readFault tag (.wrongLength payload)) = true →
      ∃ t, exec (.readFault tag (.wrongLength payload)) s = .next t ∧ s.refusedAs t 0x2A tag .badLength none

/-- READ CELLS: the cells of the run in plane order, with two attribute bits each, and no change of state (R104, R175). -/
def Obligations.ReadCellsReportsPlane : Prop :=
  ∀ (s : State) (tag : Byte) (r : CellFields),
    let place := r.row.toNat * s.scr.geometry.columns + r.column.toNat
    let n := r.count.toNat
    0 < n → n ≤ 80 → r.row.toNat < s.scr.geometry.rows → r.column.toNat < s.scr.geometry.columns →
    place + n ≤ s.scr.geometry.cells → s.ready (.readCells tag (.fields r)) = true →
    ∃ t attributes, exec (.readCells tag (.fields r)) s = .next t ∧ attributes.length = (n + 3) / 4 ∧
      (∀ i < n, (attributes.getD (i / 4) 0).getLsbD (2 * (i % 4)) = (Memory.read s.scr.plane (place + i)).blink ∧
        (attributes.getD (i / 4) 0).getLsbD (2 * (i % 4) + 1) = (Memory.read s.scr.plane (place + i)).underline) ∧
      s.reported t 0xB0 tag ([r.row, r.column, r.count] ++
        (List.range n).flatMap (fun i => [(Memory.read s.scr.plane (place + i)).glyph,
          (Memory.read s.scr.plane (place + i)).fg ++ (Memory.read s.scr.plane (place + i)).bg]) ++ attributes)

/-- READ WATCH returns every record, head first, and removes them; the latches are not cleared (R148). -/
def Obligations.ReadWatchDrainsList : Prop :=
  ∀ (s : State) (tag : Byte), (∀ payload, s.ready (.readWatch tag (.wrongLength payload)) = true →
      ∃ t, exec (.readWatch tag (.wrongLength payload)) s = .next t ∧ s.refusedAs t 0x22 tag .badLength none) ∧
    (s.ready (.readWatch tag (.fields ())) = true →
    ∃ t, exec (.readWatch tag (.fields ())) s = .next t ∧ t.aeu = { s.aeu with watchList := [] } ∧ s.blocksKept t ∧
      t.lnk.notice = s.lnk.notice ∧
      s.answered t 0xA2 tag (BitVec.ofNat 8 s.aeu.watchList.length ::
        s.aeu.watchList.flatMap (fun r => bytesOfHalf (BitVec.ofNat 16 r.field) ++
          [if r.kind = .stale then 0x00 else 0x01] ++ bytesOfWord r.frame)))

/-! ### Field requests (R10 to R23) -/

/-- An accepted DEFINE FIELD writes the record of R12 and R13, enqueues a visible field by its class, and answers. -/
def Obligations.DefineFieldWritesRecord : Prop :=
  ∀ (s : State) (tag : Byte) (r : DefineFields) (page : Page) (format : Format),
    r.number.toNat < 512 → s.field? r.number.toNat = none →
    (r.page = 0xFF ∧ page = .common ∨ ∃ p : BitVec 2, r.page = p.zeroExtend 8 ∧ page = .numbered p) →
    r.format = format.code → 1 ≤ r.width.toNat → r.width.toNat ≤ 40 → s.msg.pendingConfigure = none →
    r.row.toNat < s.scr.geometry.rows → r.column.toNat + r.width.toNat ≤ s.scr.geometry.columns →
    (∀ e ∈ s.fields, page.meets e.2.page = true → e.2.row = r.row.toNat →
      r.column.toNat + r.width.toNat ≤ e.2.column ∨ e.2.column + e.2.width ≤ r.column.toNat) →
    s.ready (.defineField tag (.fields r)) = true →
    let visible := page.visibleOn s.scr.page
    ∃ t, exec (.defineField tag (.fields r)) s = .next t ∧
      t.field? r.number.toNat = some
        { state := .live, page := page, row := r.row.toNat, column := r.column.toNat, width := r.width.toNat,
          format := format,
          scale := (match format with
            | .decimal => min r.scale.toNat 6
            | .change => min r.scale.toNat 6
            | .fraction => if r.scale.toNat = 0 then 1 else min r.scale.toNat 8
            | _ => 0),
          options := ⟨r.options.getLsbD 0, r.options.getLsbD 1, r.options.getLsbD 2, r.options.getLsbD 3,
            r.options.getLsbD 4, r.options.getLsbD 5⟩,
          style := r.style, flashLength := r.flashLength.toNat, staleInterval := r.staleInterval.toNat, value := none,
          lastPost := none, shown := none, shownFrame := none, direction := .none, flashDeadline := none,
          staleDeadline := none, upper := none, lower := none, zone := .inside, alertLatched := false,
          overflow := false } ∧
      s.otherFieldsKept t r.number.toNat ∧ t.scr = s.scr ∧ s.listsKept t ∧
      s.enqueued t r.number.toNat visible (r.options.getLsbD 1) ∧ s.lagReported t s.scr.frameCounter ∧
      s.answered t 0x90 tag (bytesOfHalf r.number ++ [0x01, if visible then 0x01 else 0x00])

/-- An accepted RESTYLE FIELD replaces options, style, flash length and interval, recomputes deadline and state by R16, and
enqueues a visible field by its new class (R15, R17). -/
def Obligations.RestyleFieldReplacesStyle : Prop :=
  ∀ (s : State) (tag : Byte) (r : RestyleFields) (f : Field),
    r.number.toNat < 512 → s.field? r.number.toNat = some f → f.state ≠ .retiring →
    s.ready (.restyleField tag (.fields r)) = true →
    let interval := r.staleInterval.toNat
    let state := if f.state = .stale ∧ interval = 0 then .live else f.state
    ∃ t, exec (.restyleField tag (.fields r)) s = .next t ∧
      t.field? r.number.toNat = some { f with
        options := ⟨r.options.getLsbD 0, r.options.getLsbD 1, r.options.getLsbD 2, r.options.getLsbD 3,
          r.options.getLsbD 4, r.options.getLsbD 5⟩
        style := r.style, flashLength := r.flashLength.toNat, staleInterval := interval, state := state
        staleDeadline := (match f.state, f.lastPost with
          | .live, some post => ticksAfter post interval
          | _, _ => none) } ∧
      s.otherFieldsKept t r.number.toNat ∧ t.scr = s.scr ∧ s.listsKept t ∧
      s.enqueued t r.number.toNat (s.shows f) (r.options.getLsbD 1) ∧ s.lagReported t s.scr.frameCounter ∧
      s.answered t 0x91 tag (bytesOfHalf r.number ++ [state.code])

/-- An accepted SET LIMITS replaces both limits and recomputes the zone from the current value; it raises no alert and enqueues
nothing (R18, R19). -/
def Obligations.SetLimitsReplacesLimits : Prop :=
  ∀ (s : State) (tag : Byte) (r : LimitFields) (f : Field),
    r.number.toNat < 512 → s.field? r.number.toNat = some f → f.state ≠ .retiring → f.format ≠ .text →
    (r.flags.getLsbD 0 = true → r.flags.getLsbD 1 = true → r.lower.toInt < r.upper.toInt) →
    s.ready (.setLimits tag (.fields r)) = true →
    let upper := if r.flags.getLsbD 0 then some r.upper else none
    let lower := if r.flags.getLsbD 1 then some r.lower else none
    let zone := match f.value with
      | some (.number v) => zoneFor upper lower v
      | _ => .inside
    ∃ t, exec (.setLimits tag (.fields r)) s = .next t ∧
      t.field? r.number.toNat = some { f with upper := upper, lower := lower, zone := zone } ∧
      s.otherFieldsKept t r.number.toNat ∧ t.scr = s.scr ∧ t.pnt = s.pnt ∧ t.aeu = s.aeu ∧
      t.lnk.notice = s.lnk.notice ∧ s.answered t 0x92 tag (bytesOfHalf r.number ++ [zone.code])

/-- An accepted DELETE FIELD retires a visible field, drops its deadlines and gives it an URGENT entry; an invisible one goes
FREE at once, with the effects of R23 (R20, R22). -/
def Obligations.DeleteFieldRetiresOrFrees : Prop :=
  ∀ (s : State) (tag : Byte) (number : Half) (f : Field),
    number.toNat < 512 → s.field? number.toNat = some f → f.state ≠ .retiring → s.tableLaw →
    s.ready (.deleteField tag (.fields number)) = true →
    ∃ t, exec (.deleteField tag (.fields number)) s = .next t ∧ t.scr = s.scr ∧ s.lagReported t s.scr.frameCounter ∧
      (s.shows f = true →
        t.field? number.toNat = some { f with state := .retiring, flashDeadline := none, staleDeadline := none } ∧
          s.otherFieldsKept t number.toNat ∧ s.listsKept t ∧ s.enqueued t number.toNat true true ∧
          s.answered t 0x93 tag (bytesOfHalf number ++ [0x04])) ∧
      (s.shows f = false → s.freed t number.toNat ∧ s.answered t 0x93 tag (bytesOfHalf number ++ [0x00]))

/-! ### Posts (R47 to R63) -/

/-- An accepted POST of frame N (R48, R49, R50, R53, R54, R139, R140). -/
def Obligations.PostStoresValue : Prop :=
  ∀ (s : State) (tag : Byte) (r : PostFields) (f : Field),
    r.number.toNat < 512 → s.field? r.number.toNat = some f → f.state ≠ .retiring → f.format ≠ .text →
    s.ready (.post tag (.fields r)) = true →
    let zone := zoneFor f.upper f.lower r.value
    ∃ t, exec (.post tag (.fields r)) s = .next t ∧ s.postedAs t r.number.toNat f (.number r.value) zone ∧
      s.answered t 0x98 tag
        (bytesOfHalf r.number ++ [(stateAfterPost f.state f.options.hold).code, zone.code])

/-- An accepted POST TEXT stores the first 40 glyphs as received and evaluates no zone (R61, R62). -/
def Obligations.PostTextStoresGlyphs : Prop :=
  ∀ (s : State) (tag : Byte) (r : TextFields) (f : Field),
    r.number.toNat < 512 → s.field? r.number.toNat = some f → f.state ≠ .retiring → f.format = .text →
    s.ready (.postText tag (.fields r)) = true →
    ∃ t, exec (.postText tag (.fields r)) s = .next t ∧
      s.postedAs t r.number.toNat f (.text (r.glyphs.take 40)) f.zone ∧
      s.answered t 0x9A tag (bytesOfHalf r.number ++ [(stateAfterPost f.state f.options.hold).code])

/-- A POST BATCH is one request: its entries are applied in order, a refused one is skipped, the last accepted entry of a field
leaves its value there, and one DONE carries the accepted count and the first refusal (R58, R59, R60). From entry to entry, an
accepted one has every effect of a POST, on record, lists, queue and latches, and a refused one has only those of its refusal
(R59). An empty batch is no command (R58, assumption log 20), so the batch is well formed. -/
def Obligations.PostBatchAppliesEntries : Prop :=
  ∀ (s : State) (tag : Byte) (entries : List PostFields), (Instr.postBatch tag (.fields entries)).wellFormed = true →
    s.ready (.postBatch tag (.fields entries)) = true →
    let code : PostFields → Option RefusalCode := fun r =>
      if 512 ≤ r.number.toNat then some .badField
      else match s.field? r.number.toNat with
        | none => some .notDefined
        | some f =>
          if f.state = .retiring then some .notDefined
          else if f.format = .text then some .wrongFormat
          else none
    ∃ t, exec (.postBatch tag (.fields entries)) s = .next t ∧ t.scr = s.scr ∧
      (∀ before r after c, entries = before ++ r :: after → code r = some c → (∀ q ∈ before, code q = none) →
        s.answered t 0x99 tag
          [BitVec.ofNat 8 (entries.filter fun q => (code q).isNone).length, BitVec.ofNat 8 before.length, c.code]) ∧
      ((∀ q ∈ entries, code q = none) → s.answered t 0x99 tag [BitVec.ofNat 8 entries.length, 0xFF, 0x00]) ∧
      (∀ n, (∀ q ∈ entries, q.number.toNat = n → code q ≠ none) → t.field? n = s.field? n) ∧
      (∀ before r after f, entries = before ++ r :: after → code r = none →
        (∀ q ∈ after, q.number.toNat = r.number.toNat → code q ≠ none) → s.field? r.number.toNat = some f →
        ∃ g, t.field? r.number.toNat = some g ∧ g.value = some (.number r.value) ∧
          g.lastPost = some s.scr.frameCounter ∧ g.zone = zoneFor f.upper f.lower r.value ∧
          g = { f with
            value := g.value, lastPost := g.lastPost, zone := g.zone, alertLatched := g.alertLatched
            state := stateAfterPost f.state f.options.hold
            staleDeadline := if stateAfterPost f.state f.options.hold = .live
              then ticksAfter s.scr.frameCounter f.staleInterval else none }) ∧
      (∀ before r after c, entries = before ++ r :: after → code r = some c → (∀ q ∈ after, code q = none) →
        t.aeu.faultRecord = some ⟨0x19, tag, c, some r.number, some before.length, s.scr.frameCounter⟩ ∧
          t.aeu.latched.getLsbD 4 = true) ∧
      ((∀ q ∈ entries, code q = none) → t.aeu.faultRecord = s.aeu.faultRecord) ∧
      ∃ chain : List State, chain.length = entries.length + 1 ∧
        (∀ a, chain[0]? = some a → s.blocksKept a ∧ a.aeu = s.aeu ∧ a.lnk.notice = s.lnk.notice) ∧
        (∀ a, chain[entries.length]? = some a → a.blocksKept t ∧ t.aeu = a.aeu ∧ t.lnk.notice = a.lnk.notice) ∧
        ∀ i r a b, entries[i]? = some r → chain[i]? = some a → chain[i + 1]? = some b →
          (∀ f, code r = none → a.field? r.number.toNat = some f →
            a.postedAs b r.number.toNat f (.number r.value) (zoneFor f.upper f.lower r.value)) ∧
          ∀ c, code r = some c → a.blocksKept b ∧ a.listsKept b ∧ a.latchedOnce b 0x0010 s.scr.frameCounter ∧
            b.aeu.faultRecord = some ⟨0x19, tag, c, some r.number, some i, s.scr.frameCounter⟩

/-- An accepted UNHOLD makes a HELD field LIVE, arms its deadline from its own frame and enqueues it by its class (R63). -/
def Obligations.UnholdReleasesField : Prop :=
  ∀ (s : State) (tag : Byte) (number : Half) (f : Field),
    number.toNat < 512 → s.field? number.toNat = some f → f.state = .held →
    s.ready (.unhold tag (.fields number)) = true →
    ∃ t, exec (.unhold tag (.fields number)) s = .next t ∧
      t.field? number.toNat = some { f with
        state := .live, staleDeadline := ticksAfter s.scr.frameCounter f.staleInterval } ∧
      s.otherFieldsKept t number.toNat ∧ t.scr = s.scr ∧ s.listsKept t ∧
      s.enqueued t number.toNat (s.shows f) f.options.urgent ∧ s.lagReported t s.scr.frameCounter ∧
      s.answered t 0x9B tag (bytesOfHalf number ++ [0x01])

/-! ### Alerts and events (R144 to R157) -/

/-- ACK ALERT of one field clears a latch, removes the list entry and enqueues the field by its class; of a field not latched it
changes nothing. The zone is kept (R144). -/
def Obligations.AckAlertClearsLatch : Prop :=
  ∀ (s : State) (tag : Byte) (number : Half) (f : Field),
    number.toNat < 512 → s.field? number.toNat = some f → f.state ≠ .retiring →
    s.ready (.ackAlert tag (.fields number)) = true →
    ∃ t, exec (.ackAlert tag (.fields number)) s = .next t ∧
      (f.alertLatched = true →
        t.field? number.toNat = some { f with alertLatched := false } ∧ s.otherFieldsKept t number.toNat ∧
          t.scr = s.scr ∧ t.aeu.alertList = s.aeu.alertList.filter (fun m => m != number.toNat) ∧
          t.aeu.watchList = s.aeu.watchList ∧ s.enqueued t number.toNat (s.shows f) f.options.urgent ∧
          s.lagReported t s.scr.frameCounter ∧
          s.answered t 0xA0 tag (bytesOfHalf number ++ [0x00, 0x01, f.zone.code])) ∧
      (f.alertLatched = false → s.reported t 0xA0 tag (bytesOfHalf number ++ [0x00, 0x00, f.zone.code]))

/-- ACK ALERT ALL clears the latch of every field in use but the RETIRING ones, removes their entries and enqueues the visible
ones; the list keeps only RETIRING fields, and the reply counts the latches cleared. From field to field, lowest number first, it
does what ACK ALERT does for a latched field: latch, list, the enqueue by the field's class, LAGGING and PAINT_LAG (R144, R145,
R66, R71). -/
def Obligations.AckAlertAllClearsLatches : Prop :=
  ∀ (s : State) (tag : Byte), s.tableLaw → s.alertLaw → s.ready (.ackAlertAll tag) = true →
    let cleared := s.fields.filter fun e => e.2.alertLatched && e.2.state != .retiring
    ∃ t, exec (.ackAlertAll tag) s = .next t ∧ t.scr = s.scr ∧ t.pnt.slots = s.pnt.slots ∧
      (∀ n f, s.field? n = some f →
        t.field? n = some (if f.state = .retiring then f else { f with alertLatched := false })) ∧
      (∀ n, s.field? n = none → t.field? n = none) ∧
      (∀ n, n ∈ t.aeu.alertList ↔ n ∈ s.aeu.alertList ∧ ∃ f, s.field? n = some f ∧ f.state = .retiring) ∧
      t.aeu.alertList.Sublist s.aeu.alertList ∧ t.aeu.watchList = s.aeu.watchList ∧
      (∀ n ∈ s.scanOrder, n ∈ t.scanOrder) ∧ (∀ e ∈ cleared, s.shows e.2 = true → e.1 ∈ t.scanOrder) ∧
      (∀ n ∈ t.scanOrder, n ∈ s.scanOrder ∨ ∃ e ∈ cleared, e.1 = n ∧ s.shows e.2 = true) ∧
      (∃ chain : List State, chain.length = cleared.length + 1 ∧
        (∀ a, chain[0]? = some a → s.blocksKept a ∧ a.aeu = s.aeu ∧ a.lnk.notice = s.lnk.notice) ∧
        (∀ a, chain[cleared.length]? = some a → a.blocksKept t ∧ t.aeu = a.aeu ∧ t.lnk.notice = a.lnk.notice) ∧
        ∀ i n f a b, cleared[i]? = some (n, f) → chain[i]? = some a → chain[i + 1]? = some b →
          b.field? n = some { f with alertLatched := false } ∧ a.otherFieldsKept b n ∧ b.scr = a.scr ∧
          b.aeu.alertList = a.aeu.alertList.filter (fun m => m != n) ∧ b.aeu.watchList = a.aeu.watchList ∧
          a.enqueued b n (a.shows f) f.options.urgent ∧ a.lagReported b s.scr.frameCounter) ∧
      s.answered t 0xA0 tag ([0xFF, 0xFF] ++ bytesOfHalf (BitVec.ofNat 16 cleared.length) ++ [0x00])

/-- CLEAR EVENTS clears the named latches and notice-outstanding; where an enabled kind is still latched, a fresh NOTICE is
placed, ahead of the reply. Nothing behind the latches is undone (R155). -/
def Obligations.ClearEventsClearsLatches : Prop :=
  ∀ (s : State) (tag : Byte) (kinds : Half), (∀ payload, s.ready (.clearEvents tag (.wrongLength payload)) = true →
      ∃ t, exec (.clearEvents tag (.wrongLength payload)) s = .next t ∧ s.refusedAs t 0x28 tag .badLength none) ∧
    (s.ready (.clearEvents tag (.fields kinds)) = true →
    let left := s.aeu.latched &&& ~~~kinds
    let placed := left &&& s.aeu.noticeMask ≠ 0
    ∃ t, exec (.clearEvents tag (.fields kinds)) s = .next t ∧ s.blocksKept t ∧
      t.aeu = { s.aeu with latched := left, noticeOutstanding := decide placed } ∧
      s.answered t 0xA8 tag (bytesOfHalf left ++ [if placed then 0x01 else 0x00]) ∧
      (placed → ∃ time, t.lnk.notice = some ⟨left, s.scr.frameCounter, time⟩ ∧
        ∀ r, t.lnk.replies.getLast? = some r → time < r.placed) ∧
      (¬placed → t.lnk.notice = s.lnk.notice) ∧ (t.attn = true ↔ placed))

/-- SET NOTICE MASK replaces the mask by the carried kinds; with notice-outstanding no and an enabled kind latched it places a
NOTICE. The latches are not changed (R157). -/
def Obligations.SetNoticeMaskReplacesMask : Prop :=
  ∀ (s : State) (tag : Byte) (kinds : Half), (∀ payload, s.ready (.setNoticeMask tag (.wrongLength payload)) = true →
      ∃ t, exec (.setNoticeMask tag (.wrongLength payload)) s = .next t ∧ s.refusedAs t 0x29 tag .badLength none) ∧
    (s.ready (.setNoticeMask tag (.fields kinds)) = true →
    let mask := kinds &&& 0x07FF
    let placed := s.aeu.noticeOutstanding = false ∧ s.aeu.latched &&& mask ≠ 0
    ∃ t, exec (.setNoticeMask tag (.fields kinds)) s = .next t ∧ s.blocksKept t ∧
      t.aeu = { s.aeu with noticeMask := mask, noticeOutstanding := s.aeu.noticeOutstanding || decide placed } ∧
      s.answered t 0xA9 tag (bytesOfHalf mask ++ bytesOfHalf s.aeu.latched) ∧
      (placed → ∃ time, t.lnk.notice = some ⟨s.aeu.latched, s.scr.frameCounter, time⟩) ∧
      (¬placed → t.lnk.notice = s.lnk.notice) ∧ (t.attn = true ↔ s.aeu.latched &&& mask ≠ 0))

/-! ### Screen requests (R95, R98, R111, R114, R118, R121) -/

/-- SET PALETTE stages the colours with an index up to 15 and replies with their count; DISPLAY MODE stages the mode with the
brightness clamped to 15 (R95, R98). The palette and the pair in effect do not change. A palette with no colours is no such
command (R95, assumption log 20). -/
def Obligations.PaletteAndModeAreStaged : Prop :=
  ∀ (s : State) (tag : Byte), s.screenLaw →
    (∀ r : PaletteFields, (Instr.setPalette tag (.fields r)).wellFormed = true → r.first.toNat ≤ 15 →
      s.ready (.setPalette tag (.fields r)) = true →
      ∃ t, exec (.setPalette tag (.fields r)) s = .next t ∧
        t.scr = { s.scr with stagedPalette := t.scr.stagedPalette } ∧ t.scr.stagedPalette.length = 16 ∧
        (∀ i < 16, t.scr.stagedPalette.getD i none =
          if r.first.toNat ≤ i ∧ i < r.first.toNat + r.colours.length then r.colours[i - r.first.toNat]?
          else s.scr.stagedPalette.getD i none) ∧
        t.fields = s.fields ∧ t.pnt = s.pnt ∧ t.aeu = s.aeu ∧ t.lnk.notice = s.lnk.notice ∧
        s.answered t 0x84 tag [BitVec.ofNat 8 (min r.colours.length (16 - r.first.toNat))]) ∧
    ∀ (mode : DisplayMode) (level : Byte), s.ready (.displayMode tag (.fields ⟨mode.code, level⟩)) = true →
      ∃ t, exec (.displayMode tag (.fields ⟨mode.code, level⟩)) s = .next t ∧
        t.scr = { s.scr with stagedMode := some (mode, if level.toNat ≤ 15 then level.toNat else 15) } ∧
        t.fields = s.fields ∧ t.pnt = s.pnt ∧ t.aeu = s.aeu ∧ t.lnk.notice = s.lnk.notice ∧
        s.answered t 0x85 tag [mode.code, if level.toNat ≤ 15 then level else 15]

/-- An accepted SELECT PAGE or CONFIGURE DISPLAY waits for a boundary: its reply entry stays RESERVED, the parameters are stored
clamped, no reply is filled, and nothing else changes (R111, R114). -/
def Obligations.PageAndConfigurationWait : Prop :=
  ∀ (s : State) (tag : Byte), s.scr.frozen = false → s.msg.pendingPage = none → s.msg.pendingConfigure = none →
    let waits := fun (c : Instr) (msg : Message) => ∃ t, exec c s = .next t ∧ t.msg = msg ∧ s.blocksKept t ∧
      t.aeu = s.aeu ∧ t.lnk.replies = s.lnk.replies ∧ t.lnk.notice = s.lnk.notice ∧ s.lineAfterTake t ∧
      s.outsideBlocks t ∧ t.entriesUsed = s.entriesUsed + 1
    (∀ page : BitVec 2, s.ready (.selectPage tag (.fields (page.zeroExtend 8))) = true →
      waits (.selectPage tag (.fields (page.zeroExtend 8))) { s.msg with pendingPage := some ⟨page, tag⟩ }) ∧
    ∀ (g : Geometry) (r : ConfigureFields), r.geometry = g.code → s.ready (.configureDisplay tag (.fields r)) = true →
      let stored : PendingConfigure :=
        { geometry := g, fg := r.fg, bg := r.bg, blinkPeriod := max 8 (min 120 r.blinkPeriod.toNat),
          ageLimit := max 1 r.ageLimit.toNat, lagThreshold := max 1 (min 512 r.lagThreshold.toNat), tag := tag }
      waits (.configureDisplay tag (.fields r)) { s.msg with pendingConfigure := some stored }

/-- FREEZE, new or a renewal, sets the freeze, its deadline from its own frame and the timer-hold flag; THAW of a frozen part
clears them and replies with the number of READY slots (R118, R119, R121). The model's inference in it: the bits of FREEZE's
reply flags byte that are not stored are sent as 0 (assumption log 26). -/
def Obligations.FreezeAndThaw : Prop :=
  ∀ (s : State) (tag : Byte),
    (∀ r : FreezeFields, s.ready (.freeze tag (.fields r)) = true →
      ∃ t, exec (.freeze tag (.fields r)) s = .next t ∧
        t.scr = { s.scr with frozen := true, freezeDeadline := ticksAfter s.scr.frameCounter r.limit.toNat,
                             timerHold := r.flags.getLsbD 0 } ∧
        t.fields = s.fields ∧ t.pnt = s.pnt ∧ t.aeu = s.aeu ∧ t.lnk.notice = s.lnk.notice ∧
        s.answered t 0x87 tag
          [r.limit, if r.flags.getLsbD 0 then 1 else 0, if s.scr.frozen then 1 else 0]) ∧
    (s.scr.frozen = true → s.ready (.thaw tag (.fields ())) = true →
      ∃ t, exec (.thaw tag (.fields ())) s = .next t ∧
        t.scr = { s.scr with frozen := false, freezeDeadline := none, timerHold := false } ∧
        t.fields = s.fields ∧ t.pnt = s.pnt ∧ t.aeu = s.aeu ∧ t.lnk.notice = s.lnk.notice ∧
        s.answered t 0x88 tag
          [BitVec.ofNat 8 (s.pnt.slots.filter fun e => !e.2.content.isFilling).length])

/-! ### The painter (R26 to R46, R75 to R85) -/

/-- The painter takes the first entry, in queue order, whose field holds a READY slot or that a FREE slot can serve; the render
goes to the slot the field holds, or to the FREE slot with the lowest number, and keeps its inputs as they stand (R68, R75,
R76). While frozen or rendering, or with no such entry, it takes none (R75, R80). -/
def Obligations.RenderBeginsFirstServable : Prop :=
  ∀ s : State, s.resetCause = none → s.boundary = none → s.slotLaw →
    let rendering := ∃ e ∈ s.pnt.slots, e.2.content.isFilling = true
    let servable := fun n => (∃ e ∈ s.pnt.slots, e.2.field = some n ∧ e.2.content.isFilling = false) ∨
      ∃ k < 32, Store.find? k s.pnt.slots = none
    (s.scr.frozen = true ∨ rendering ∨ (∀ n ∈ s.scanOrder, ¬servable n) → exec .renderBegin s = .next s) ∧
    (s.scr.frozen = false → ¬rendering → ∀ before n after f k, s.scanOrder = before ++ n :: after →
      (∀ m ∈ before, ¬servable m) → s.field? n = some f →
      (∃ slot, (k, slot) ∈ s.pnt.slots ∧ slot.field = some n) ∨
        ((∀ e ∈ s.pnt.slots, e.2.field ≠ some n) ∧ k < 32 ∧ Store.find? k s.pnt.slots = none ∧
          ∀ j < k, Store.find? j s.pnt.slots ≠ none) →
      ∃ t, exec .renderBegin s = .next t ∧
        t.pnt.slots = Store.insert k ⟨some n, .filling
          { kind := if f.state = .retiring then .blank else .value, record := f, defaultFg := s.scr.defaultFg,
            defaultBg := s.scr.defaultBg, began := s.scr.frameCounter } false⟩ s.pnt.slots ∧
        s.dequeued t n ∧ t.fields = s.fields ∧ t.scr = s.scr ∧ t.msg = s.msg ∧ s.listsKept t ∧
        s.lagReported t s.scr.frameCounter ∧ s.lineUntouched t ∧ t.lnk.replies = s.lnk.replies ∧
        t.boundary = none)

/-- A completed render leaves its slot READY with the cells, the rendered value, the direction and the flash mark of its inputs,
and a value render writes the overflow flag; a slot marked discard becomes FREE with nothing written (R28, R29, R77, R79, R85). -/
def Obligations.RenderCompletes : Prop :=
  ∀ s : State, s.resetCause = none → s.boundary = none → s.slotLaw →
    ((∀ e ∈ s.pnt.slots, e.2.content.isFilling = false) → exec .renderComplete s = .next s) ∧
    (∀ k i, (k, ⟨none, .filling i true⟩) ∈ s.pnt.slots →
      exec .renderComplete s = .next { s with pnt := { s.pnt with slots := Store.erase k s.pnt.slots } }) ∧
    ∀ k n i f, (k, ⟨some n, .filling i false⟩) ∈ s.pnt.slots → s.field? n = some f →
      (i.kind = .blank →
        exec .renderComplete s = .next { s with
          fields := Store.insert n f s.fields
          pnt := { s.pnt with slots := Store.insert k ⟨some n, .ready
            { kind := .blank, cells := List.replicate i.record.width ⟨0x20, i.defaultFg, i.defaultBg, false, false⟩,
              value := none, direction := .none, flashStart := false }⟩ s.pnt.slots } }) ∧
      (i.kind = .value →
        let text := formatValue i.record i.record.display
        exec .renderComplete s = .next { s with
          fields := Store.insert n { f with overflow := !text.fitted } s.fields
          pnt := { s.pnt with slots := Store.insert k ⟨some n, .ready
            { kind := .value,
              cells := text.glyphs.map fun g => { i.record.cellStyle i.began with glyph := g },
              value := i.record.display, direction := i.record.renderDirection,
              flashStart := i.record.flashStarts }⟩ s.pnt.slots } })

/-- The formatter writes exactly as many glyphs as the field is wide (R26): spaces for an absent value (R27), marks in every
place where no candidate fits (R46), else the first candidate that fits, right-aligned (R34). The digits of a DECIMAL or CHANGE
candidate, read as a number, are the magnitude rounded half up (R31, R32, R35, R36), and no glyph of a text is a control code
(R43). A TEXT value is cut from its end, or padded on the side away from its alignment, with its other glyphs kept (R43, R44,
R45). The candidates of every numeric format come in the order of its rule, each with its sign, its integer part with or
without separators, and its ending (R31 to R33, R35 to R42). -/
def Obligations.FormatterText : Prop :=
  ∀ f : Field,
    (∀ display, (formatValue f display).glyphs.length = f.width) ∧
    formatValue f none = ⟨List.replicate f.width 0x20, true⟩ ∧
    formatValue f (some (.text [])) = ⟨List.replicate f.width 0x20, true⟩ ∧
    (∀ v, (∀ text ∈ numericCandidates f v, f.width < text.length) →
      formatValue f (some (.number v)) = ⟨List.replicate f.width 0x2A, false⟩) ∧
    (∀ v before text after, numericCandidates f v = before ++ text :: after → (∀ x ∈ before, f.width < x.length) →
      text.length ≤ f.width →
      formatValue f (some (.number v)) = ⟨List.replicate (f.width - text.length) 0x20 ++ text, true⟩) ∧
    (∀ v plus s d separators, d ≤ s → s ≤ 6 →
      ∃ shown, 2 * (v : Word).toInt.natAbs < 2 * shown * 10 ^ (s - d) + 10 ^ (s - d) ∧
        2 * shown * 10 ^ (s - d) ≤ 2 * v.toInt.natAbs + (if d = s then 0 else 10 ^ (s - d)) ∧
        (((decimalText plus v s d separators).filter fun g => 0x30 ≤ g.toNat && g.toNat ≤ 0x39).foldl
          (fun n g => 10 * n + (g.toNat - 0x30)) 0) = shown) ∧
    (∀ glyphs, ∀ g ∈ (formatValue f (some (.text glyphs))).glyphs, 0x20 ≤ g.toNat) ∧
    (∀ glyphs : List Byte,
      let text := glyphs.map fun g => if g.toNat < 0x20 then 0x7F else g
      (f.width ≤ glyphs.length → formatValue f (some (.text glyphs)) = ⟨text.take f.width, true⟩) ∧
      (glyphs.length ≤ f.width → formatValue f (some (.text glyphs)) =
        ⟨if f.options.alignRight then List.replicate (f.width - glyphs.length) 0x20 ++ text
          else text ++ List.replicate (f.width - glyphs.length) 0x20, true⟩)) ∧
    ∀ v : Word, f.scale ≤ 8 → (f.format = .fraction → 1 ≤ f.scale) → f.format ≠ .text →
      List.Forall₂ (fun shape text => shape text)
        (match f.format with
          | .decimal => decimalShapes false v f.scale f.options.separators
          | .change => decimalShapes true v f.scale f.options.separators
          | .fraction => fractionShapes v f.scale f.options.separators
          | .volume => volumeShapes v f.options.separators
          | .text => [])
        (numericCandidates f v)

/-- What a value render shows (R81), its tick (R82), its flash mark (R83) and the colours and marks of its cells (R84). Where a
flashing field's direction is NONE, which R84 does not give, the background stays B: the model's deduction (assumption
log 18). -/
def Obligations.RenderShowsStateAndColours : Prop :=
  ∀ (f : Field) (began : FrameNo),
    let cell := f.cellStyle began
    let y := f.style
    let moved := match f.value, f.shown with
      | some (.number v), some (.number u) =>
        if u.toInt < v.toInt then some Direction.up else if v.toInt < u.toInt then some .down else none
      | _, _ => none
    let ticks := f.state = .live ∧ f.format ≠ .text ∧ moved ≠ none
    let direction := if f.state = .live ∧ f.format ≠ .text then moved.getD f.direction else f.direction
    let sign := match f.display with
      | some (.number v) => if 0 < v.toInt then Direction.up else if v.toInt < 0 then .down else .none
      | _ => .none
    let flashing := f.state = .live ∧
      ((ticks ∧ f.flashLength ≠ 0) ∨ ∃ d, f.flashDeadline = some d ∧ ¬deadlineReached (some d) began)
    let of := fun (none_ : Nibble) (d : Direction) => match d with
      | .up => y.up
      | .down => y.down
      | .none => none_
    f.display = (match f.state with
      | .live => f.value
      | .stale => f.value
      | .held => f.shown
      | .retiring => none) ∧
    f.renderDirection = direction ∧ (f.flashStarts = true ↔ ticks ∧ f.flashLength ≠ 0) ∧
    (f.state = .stale ∨ f.state = .held → cell.fg = y.stale ∧ (f.alertLatched = false → cell.bg = y.b)) ∧
    (f.state = .live →
      (flashing → cell.fg = y.b ∧ (f.alertLatched = false → cell.bg = of y.b direction)) ∧
      (¬flashing → cell.fg = of y.f (if f.format = .change then sign else direction) ∧
        (f.alertLatched = false → cell.bg = y.b))) ∧
    (f.alertLatched = true → cell.bg = y.alert) ∧ cell.blink = f.alertLatched ∧
    (cell.underline = true ↔ f.state = .held)

/-! ### Scan-out (R91, R92, R97, R100 to R102) -/

/-- The colour of each pixel in the four display modes: the lit pixels of a glyph and the underline row, hidden while a blinking
cell is in the off phase, row 15 and the space never lit by a glyph, and 0x7F drawn as one hollow rectangle (R91, R97, R101,
R102). PNL carries red on its upper 8 bits, green on its middle 8 and blue on its lower 8 (R94). The patterns and the places of
the rectangle's lines are free (assumption log 7). Where reset processing is in progress see ResetProcessingTakesNothing. -/
def Obligations.PixelsShowMode : Prop :=
  ∃ box : Nat → Nat → Bool, hollowRectangle box ∧ ∀ (s : State) (y x : Nat), s.resetCause = none →
    let cell := Memory.read s.scr.plane (y / 16 * s.scr.geometry.columns + x / 8)
    let colour := fun (i : Nibble) => s.scr.palette.getD i.toNat ⟨0, 0, 0⟩
    let drawn := if cell.glyph = 0x7F then box (y % 16) (x % 8) else Config.glyphPattern cell.glyph (y % 16) (x % 8)
    let lit := (y % 16 ≠ 15 ∧ cell.glyph ≠ 0x20 ∧ drawn = true) ∨
      (cell.underline = true ∧ y % 16 = 15)
    let hidden := cell.blink = true ∧ s.scr.blinkOn = false
    (s.scr.mode = .normal → (lit ∧ ¬hidden → s.pixel y x = colour cell.fg) ∧
      (¬(lit ∧ ¬hidden) → s.pixel y x = colour cell.bg)) ∧
    (s.scr.mode = .reverse → (lit ∧ ¬hidden → s.pixel y x = colour cell.bg) ∧
      (¬(lit ∧ ¬hidden) → s.pixel y x = colour cell.fg)) ∧
    (s.scr.mode = .blank → s.pixel y x = colour 0) ∧
    (s.scr.mode = .flood → s.pixel y x = colour cell.bg) ∧
    (s.pnl y x).extractLsb' 16 8 = (s.pixel y x).red ∧ (s.pnl y x).extractLsb' 8 8 = (s.pixel y x).green ∧
    (s.pnl y x).extractLsb' 0 8 = (s.pixel y x).blue

/-! ### Frame boundaries (R69, R93, R96, R99, R101, R103, R106 to R113, R115 to R117, R122, R125 to R129) -/

/-- A frame boundary advances the counter, applies the staged palette, mode and brightness, which BL then shows, judges the blink
against the period in effect from it, and latches FRAME; no latch is cleared, and the line and the message in hand are as
before (R96, R99, R100, R101, R103, R152). It takes every other part that is due and that no command has taken ahead of it: the
freeze limit (R106, R122), a pending SELECT PAGE or CONFIGURE DISPLAY with its reply (R106, R112, R113, R115, R117), the aging of
ROUTINE (R69), where every entry of ROUTINE is of a field of that class (R66), and the expiries (R125 to R129), which a frozen part
with timer-hold set holds (R126). A part taken ahead is not taken again; that a command can take it ahead is the model's choice
(assumption log 3). -/
def Obligations.BoundaryAdvancesFrame : Prop :=
  ∀ (s : State) (order : BoundaryOrder), s.resetCause = none → s.screenLaw →
    let n := s.scr.frameCounter + 1
    let limit := s.scr.frozen = true ∧ deadlineReached s.scr.freezeDeadline n
    let nothingApplied := s.heldFrozen n ∨ (s.msg.pendingPage = none ∧ s.msg.pendingConfigure = none)
    let held := match s.boundary with
      | some b => b.held = true
      | none => s.scr.frozen = true ∧ s.scr.timerHold = true
    let examined := fun m => ∃ b, s.boundary = some b ∧ m < b.examined
    let unaged := fun e : RoutineEntry => ∀ b, s.boundary = some b → b.aged = false ∧ e.field ∉ b.fresh
    ∃ t, exec (.frameBoundary order) s = .next t ∧ t.boundary = none ∧ t.scr.frameCounter = n ∧
      (∀ i < 16, t.scr.palette[i]? =
        (match s.scr.stagedPalette.getD i none with
          | some c => some c
          | none => s.scr.palette[i]?)) ∧
      t.scr.stagedPalette = List.replicate 16 none ∧ t.scr.stagedMode = none ∧
      (∀ m level, s.scr.stagedMode = some (m, level) →
        t.scr.mode = m ∧ t.scr.brightness = level ∧ t.backlightDuty = level) ∧
      (s.scr.stagedMode = none →
        t.scr.mode = s.scr.mode ∧ t.scr.brightness = s.scr.brightness ∧ t.backlightDuty = s.scr.brightness) ∧
      ((∀ b, s.boundary = some b → b.toggled = false) → ∀ period, s.periodFrom n period →
        t.scr.blinkOn = if n.toNat % period = 0 then !s.scr.blinkOn else s.scr.blinkOn) ∧
      (∀ b, s.boundary = some b → b.toggled = true → t.scr.blinkOn = s.scr.blinkOn) ∧
      t.aeu.latched.getLsbD 0 = true ∧ s.aeu.latched ||| t.aeu.latched = t.aeu.latched ∧
      t.aeu.noticeMask = s.aeu.noticeMask ∧ t.aeu.faultRecord = s.aeu.faultRecord ∧ s.lineUntouched t ∧
      (limit → t.scr.frozen = false ∧ t.scr.freezeDeadline = none ∧ t.scr.timerHold = false ∧
        t.aeu.latched.getLsbD 10 = true) ∧
      (¬limit → t.scr.frozen = s.scr.frozen ∧ t.scr.freezeDeadline = s.scr.freezeDeadline ∧
        t.scr.timerHold = s.scr.timerHold) ∧
      (∀ p, s.msg.pendingPage = some p → ¬s.heldFrozen n → t.msg.pendingPage = none ∧ t.scr.page = p.page ∧
        ∃ count placed, t.lnk.replies = s.lnk.replies ++ [⟨0x86, p.tag, p.page.zeroExtend 8 :: count, placed⟩]) ∧
      (∀ c, s.msg.pendingConfigure = some c → ¬s.heldFrozen n → t.msg.pendingConfigure = none ∧
        t.scr.geometry = c.geometry ∧ t.scr.defaultFg = c.fg ∧ t.scr.defaultBg = c.bg ∧
        t.scr.blinkPeriod = c.blinkPeriod ∧ t.pnt.ageLimit = c.ageLimit ∧ t.pnt.lagThreshold = c.lagThreshold ∧
        ∃ count placed, t.lnk.replies = s.lnk.replies ++ [⟨0x83, c.tag, c.geometry.code :: count, placed⟩]) ∧
      (nothingApplied → t.msg = s.msg ∧ t.lnk.replies = s.lnk.replies ∧ t.scr.page = s.scr.page ∧
        t.scr.geometry = s.scr.geometry ∧ t.scr.defaultFg = s.scr.defaultFg ∧ t.scr.defaultBg = s.scr.defaultBg ∧
        t.scr.blinkPeriod = s.scr.blinkPeriod ∧ t.pnt.ageLimit = s.pnt.ageLimit ∧
        t.pnt.lagThreshold = s.pnt.lagThreshold) ∧
      (nothingApplied → s.tableLaw → ∀ m f, s.field? m = some f → (∀ k r, (k, ⟨some m, .ready r⟩) ∉ s.pnt.slots) →
        (held ∨ examined m → t.field? m = some f) ∧
        (¬held → ¬examined m → ∃ state stale flash,
          t.field? m = some { f with state := state, staleDeadline := stale, flashDeadline := flash } ∧
          (deadlineReached f.staleDeadline n → state = .stale ∧ stale = none) ∧
          (¬deadlineReached f.staleDeadline n → state = f.state ∧ stale = f.staleDeadline) ∧
          (deadlineReached f.flashDeadline n → flash = none) ∧
          (¬deadlineReached f.flashDeadline n → flash = f.flashDeadline) ∧
          (f.dueBy n → s.shows f = true → m ∈ t.scanOrder))) ∧
      (nothingApplied → s.routineLaw → ∀ e ∈ s.pnt.routine,
        (∀ k r, (k, ⟨some e.field, .ready r⟩) ∈ s.pnt.slots → r.kind = .value) →
        (unaged e → s.pnt.ageLimit ≤ e.wait + 1 → e.field ∈ t.pnt.urgent) ∧
        ((∀ f, s.field? e.field = some f → ¬f.dueBy n) →
          (unaged e → e.wait + 1 < s.pnt.ageLimit → { e with wait := e.wait + 1 } ∈ t.pnt.routine) ∧
          (¬unaged e → e ∈ t.pnt.routine)))

/-- At an unfrozen boundary with nothing pending, every READY slot's cells stand on the plane over its field's extent and every
other cell is as before; a VALUE commit sets shown value, shown frame, direction and, for a marked slot, the flash deadline; a
BLANK commit makes its field FREE; every READY slot becomes FREE, and a FILLING one stays (R106 to R110). -/
def Obligations.BoundaryCommitsReadySlots : Prop :=
  ∀ (s : State) (order : BoundaryOrder), s.resetCause = none → s.boundary = none → s.scr.frozen = false →
    s.msg.pendingPage = none → s.msg.pendingConfigure = none → s.tableLaw → s.placementLaw → s.slotLaw → s.cellsLaw →
    s.planeCanonical → (∀ e ∈ s.fields, e.2.coherent ∧ e.2.inRange) →
    let n := s.scr.frameCounter + 1
    let ready := fun k m r f => (k, ⟨some m, .ready r⟩) ∈ s.pnt.slots ∧ s.field? m = some f
    ∃ t, exec (.frameBoundary order) s = .next t ∧ t.scr.geometry = s.scr.geometry ∧
      (∀ k m r f, ready k m r f → ∀ i < f.width,
        r.cells[i]? = some (Memory.read t.scr.plane (f.row * s.scr.geometry.columns + f.column + i))) ∧
      (∀ place, (∀ k m r f, ready k m r f → ¬(f.row * s.scr.geometry.columns + f.column ≤ place ∧
          place < f.row * s.scr.geometry.columns + f.column + f.width)) →
        Memory.read t.scr.plane place = Memory.read s.scr.plane place) ∧
      t.pnt.slots = s.pnt.slots.filter (fun e => e.2.content.isFilling) ∧
      (∀ k m r f, ready k m r f → r.kind = .value → ∃ g, t.field? m = some g ∧
        g.shown = (if r.value.isSome then r.value else f.shown) ∧
        g.shownFrame = (if r.value.isSome then some n else f.shownFrame) ∧ g.direction = r.direction ∧
        g.value = f.value ∧ g.lastPost = f.lastPost ∧ g.zone = f.zone ∧ g.alertLatched = f.alertLatched ∧
        g.overflow = f.overflow ∧
        (r.flashStart = true → f.state = .live → ¬deadlineReached f.staleDeadline n → f.flashLength ≠ 0 →
          g.flashDeadline = some (n + BitVec.ofNat 32 f.flashLength))) ∧
      (∀ k m r f, ready k m r f → r.kind = .blank →
        t.field? m = none ∧ m ∉ t.scanOrder ∧ m ∉ t.aeu.alertList ∧ ∀ w ∈ t.aeu.watchList, w.field ≠ m) ∧
      ∀ m, s.field? m = none → t.field? m = none

/-- The law of R93: between boundaries no command writes the plane, and while the freeze holds no boundary does (R120). Reset
gives it its reset contents. -/
def Obligations.PlaneChangesOnlyAtBoundary : Prop :=
  ∀ (c : Instr) (s t : State), exec c s = .next t → (∀ straps, c ≠ .resetn straps) →
    (∀ tag straps, c ≠ .reset tag (.fields ()) straps) →
    (s.boundary = none ∧ (∀ order, c ≠ .frameBoundary order) ∧ c ≠ .pageChange ∧ c ≠ .configurationApply) ∨
      s.heldFrozen (s.scr.frameCounter + 1) →
    t.scr.plane = s.scr.plane ∧ t.scr.geometry = s.scr.geometry ∧ t.scr.page = s.scr.page

/-- Aging adds 1 to the wait count of every entry that stood in ROUTINE before the boundary, and moves those that reach the age
limit to the tail of URGENT, the longest waiting first; an entry that the boundary appended is not aged, and a boundary ages
once (R69). That AGING takes this part ahead of the boundary, and the record of it, are the model's choice (assumption
log 3). -/
def Obligations.AgingPromotesEntries : Prop :=
  ∀ s : State, s.resetCause = none →
    (s.boundary = none →
      exec .aging s = .next { s with
        pnt := { s.pnt with
          urgent := s.pnt.urgent ++
            (s.pnt.routine.filter fun e => s.pnt.ageLimit ≤ e.wait + 1).map RoutineEntry.field
          routine := (s.pnt.routine.filter fun e => e.wait + 1 < s.pnt.ageLimit).map
            fun e => { e with wait := e.wait + 1 } }
        boundary := some { held := s.scr.frozen && s.scr.timerHold, aged := true, toggled := false, examined := 0,
                           fresh := [] } }) ∧
    (∀ b, s.boundary = some b → b.aged = true → exec .aging s = .next s) ∧
    ∀ b, s.boundary = some b → b.aged = false → ∃ t, exec .aging s = .next t ∧
      t.boundary = some { b with aged := true } ∧ t.fields = s.fields ∧ t.scr = s.scr ∧ t.aeu = s.aeu ∧
      t.pnt.slots = s.pnt.slots ∧ t.pnt.lagging = s.pnt.lagging ∧
      (∀ e ∈ s.pnt.routine, e.field ∈ b.fresh → e ∈ t.pnt.routine) ∧
      (∀ e ∈ s.pnt.routine, e.field ∉ b.fresh → e.wait + 1 < s.pnt.ageLimit →
        { e with wait := e.wait + 1 } ∈ t.pnt.routine) ∧
      (∀ e ∈ s.pnt.routine, e.field ∉ b.fresh → s.pnt.ageLimit ≤ e.wait + 1 → e.field ∈ t.pnt.urgent) ∧
      ∀ m ∈ s.pnt.urgent, m ∈ t.pnt.urgent

/-- The blink toggles at a boundary whose number is a multiple of the period in effect from it, once (R101); the freeze ends at a
boundary that reaches its limit, and FREEZE_EXPIRED latches (R122). At every other boundary neither happens. That the two are
taken ahead of the counter, at the number counter + 1, and the record of the begun boundary are the model's choice (assumption
log 3). -/
def Obligations.BlinkAndFreezeLimit : Prop :=
  ∀ s : State, s.resetCause = none →
    let n := s.scr.frameCounter + 1
    let begun : Boundary :=
      { held := s.scr.frozen && s.scr.timerHold, aged := false, toggled := false, examined := 0, fresh := [] }
    (∀ period, s.periodFrom n period →
      (n.toNat % period ≠ 0 → exec .blinkToggle s = .next s) ∧
      (n.toNat % period = 0 → s.boundary = none →
        exec .blinkToggle s = .next { s with
          scr := { s.scr with blinkOn := !s.scr.blinkOn }, boundary := some { begun with toggled := true } })) ∧
    (∀ period, s.periodFrom n period → n.toNat % period = 0 → ∀ b, s.boundary = some b → b.toggled = false →
      exec .blinkToggle s = .next { s with
        scr := { s.scr with blinkOn := !s.scr.blinkOn }, boundary := some { b with toggled := true } }) ∧
    (∀ b, s.boundary = some b → b.toggled = true → exec .blinkToggle s = .next s) ∧
    (¬(s.scr.frozen = true ∧ deadlineReached s.scr.freezeDeadline n) → exec .freezeExpired s = .next s) ∧
    (s.scr.frozen = true → deadlineReached s.scr.freezeDeadline n →
      ∃ t, exec .freezeExpired s = .next t ∧
        t.scr = { s.scr with frozen := false, freezeDeadline := none, timerHold := false } ∧
        s.latchedOnce t 0x0400 n ∧ t.aeu.faultRecord = s.aeu.faultRecord ∧ s.listsKept t ∧ t.fields = s.fields ∧
        t.pnt = s.pnt ∧ t.msg = s.msg ∧ s.lineUntouched t ∧ t.lnk.replies = s.lnk.replies ∧
        (s.boundary = none → t.boundary = some begun) ∧ ∀ b, s.boundary = some b → t.boundary = some b)

/-- FTU's next due field, lowest number first: STALE_EXPIRY takes its stale expiry, with a flash expiry due at the same boundary
(R127, R129), and FLASH_EXPIRY its flash expiry where no stale expiry is due (R128). A part that was frozen with timer-hold set
before the boundary holds them (R126); a field that is not due is not taken, and nor is one while a lower-numbered field is due
(R125), or one that the boundary has already examined. That they are taken ahead of the counter, at the number counter + 1, and
the record of it are the model's choice (assumption log 3). -/
def Obligations.ExpiriesTakeDeadlines : Prop :=
  ∀ (s : State) (m : Nat), s.resetCause = none → s.tableLaw →
    let n := s.scr.frameCounter + 1
    let unexamined := fun k => s.begun.examined ≤ k
    let first := fun f => s.field? m = some f ∧ unexamined m ∧
      ∀ k g, k < m → unexamined k → s.field? k = some g → ¬g.dueBy n
    (s.boundary = none → s.begun.held = (s.scr.frozen && s.scr.timerHold) ∧ ∀ k, unexamined k) ∧
    (s.begun.held = true ∨ ¬unexamined m →
      exec (.staleExpiry m) s = .next s ∧ exec (.flashExpiry m) s = .next s) ∧
    ((∀ f, s.field? m = some f → ¬f.dueBy n) →
      exec (.staleExpiry m) s = .next s ∧ exec (.flashExpiry m) s = .next s) ∧
    ((∃ k g, k < m ∧ unexamined k ∧ s.field? k = some g ∧ g.dueBy n) →
      exec (.staleExpiry m) s = .next s ∧ exec (.flashExpiry m) s = .next s) ∧
    (∀ f, s.begun.held = false → first f → deadlineReached f.staleDeadline n →
      exec (.flashExpiry m) s = .next s ∧
      ∃ t flash, exec (.staleExpiry m) s = .next t ∧
        (flash = true ↔ deadlineReached f.flashDeadline n) ∧ s.expiredAs t m f n true flash ∧
        ∃ fresh, t.boundary = some { s.begun with examined := m + 1, fresh := fresh } ∧
          (m ∈ t.scanOrder → m ∉ s.scanOrder → m ∈ fresh)) ∧
    ∀ f, s.begun.held = false → first f → ¬deadlineReached f.staleDeadline n →
      deadlineReached f.flashDeadline n →
      exec (.staleExpiry m) s = .next s ∧
      ∃ t, exec (.flashExpiry m) s = .next t ∧ s.expiredAs t m f n false true ∧
        ∃ fresh, t.boundary = some { s.begun with examined := m + 1, fresh := fresh } ∧
          (m ∈ t.scanOrder → m ∉ s.scanOrder → m ∈ fresh)

/-- A page change from p to q: cells outside COMMON extents are blanked in the default colours, fields of p lose slots, shown
values and flash deadlines, the RETIRING ones go FREE, q is selected, p's entries leave the queue and q's fields are entered by
class, lowest number first, behind the COMMON entries, which stay as they are; with q = p every entry of a field still in use
is kept, by R66. The entries that go lower the queued total and those that come raise it, and LAGGING and PAINT_LAG follow it
(R71); a field that goes FREE leaves AEU's lists (R23). The deferred reply carries q and the count of q's fields (R66, R86, R112,
R113). That the change is taken ahead of the counter, and the record of the entries that it appends (R69), are the model's choice
(assumption log 3). -/
def Obligations.PageChangeSwapsPage : Prop :=
  ∀ (s : State) (q : BitVec 2) (tag : Byte), s.resetCause = none → s.scr.frozen = false →
    s.msg.pendingPage = some ⟨q, tag⟩ → s.tableLaw → s.queueLaw → s.slotLaw →
    let p := s.scr.page
    let common := fun place => ∃ e ∈ s.fields, e.2.page = .common ∧
      e.2.row * s.scr.geometry.columns + e.2.column ≤ place ∧
      place < e.2.row * s.scr.geometry.columns + e.2.column + e.2.width
    ∃ t placed, exec .pageChange s = .next t ∧
      t.scr = { s.scr with plane := t.scr.plane, page := q } ∧
      (∀ place < s.scr.geometry.cells,
        (common place → Memory.read t.scr.plane place = Memory.read s.scr.plane place) ∧
        (¬common place →
          Memory.read t.scr.plane place = ⟨0x20, s.scr.defaultFg, s.scr.defaultBg, false, false⟩)) ∧
      (∀ m, s.field? m = none → t.field? m = none) ∧
      (∀ m f, s.field? m = some f →
        (f.page ≠ .numbered p → t.field? m = some f) ∧
        (f.page = .numbered p → f.state = .retiring → t.field? m = none ∧ m ∉ t.aeu.alertList ∧
          ∀ w ∈ t.aeu.watchList, w.field ≠ m) ∧
        (f.page = .numbered p → f.state ≠ .retiring →
          t.field? m = some { f with shown := none, shownFrame := none, flashDeadline := none })) ∧
      (∀ e ∈ t.pnt.slots, ∀ m f, e.2.field = some m → s.field? m = some f → f.page = .common) ∧
      (∀ e ∈ s.pnt.slots, ∀ m f, e.2.field = some m → s.field? m = some f →
        (f.page = .common → e ∈ t.pnt.slots) ∧
        (f.page = .numbered p → ∀ i discard, e.2.content = .filling i discard →
          (e.1, ⟨none, .filling i true⟩) ∈ t.pnt.slots)) ∧
      (∀ m, m ∈ t.scanOrder ↔
        (m ∈ s.scanOrder ∧ ∃ f, t.field? m = some f ∧ f.page = .common) ∨
          ∃ f, t.field? m = some f ∧ f.page = .numbered q) ∧
      (q ≠ p →
        t.pnt.urgent = s.pnt.urgent.filter (fun m => (t.field? m).any fun f => f.page = .common) ++
          (t.fields.filter fun e => e.2.page = .numbered q && e.2.options.urgent).map Prod.fst ∧
        t.pnt.routine = s.pnt.routine.filter (fun e => (t.field? e.field).any fun f => f.page = .common) ++
          (t.fields.filter fun e => e.2.page = .numbered q && !e.2.options.urgent).map fun e => ⟨e.1, 0⟩) ∧
      (q = p →
        (∀ m ∈ s.pnt.urgent, (t.field? m).isSome = true → m ∈ t.pnt.urgent) ∧
        ∀ e ∈ s.pnt.routine, ∀ f, t.field? e.field = some f →
          if f.page = .numbered q ∧ f.options.urgent = true then e.field ∈ t.pnt.urgent else e ∈ t.pnt.routine) ∧
      t.pnt.ageLimit = s.pnt.ageLimit ∧ t.pnt.lagThreshold = s.pnt.lagThreshold ∧
      (s.lagLaw →
        let kept := s.scanOrder.filter fun m => (t.field? m).any fun f => f.page = .common || q = p
        let lowered := lagAfter s.pnt.lagging s.pnt.lagThreshold kept.length
        t.pnt.lagging = lagAfter lowered s.pnt.lagThreshold t.queuedTotal ∧
          s.latchedOnce t (if lowered = false ∧ t.pnt.lagging = true then 0x0200 else 0) (s.scr.frameCounter + 1)) ∧
      t.aeu.alertList = s.aeu.alertList.filter (fun m => (s.field? m).isNone || (t.field? m).isSome) ∧
      t.aeu.watchList = s.aeu.watchList.filter (fun w => (s.field? w.field).isNone || (t.field? w.field).isSome) ∧
      t.aeu.faultRecord = s.aeu.faultRecord ∧
      (∃ fresh, t.boundary = some { s.begun with fresh := fresh } ∧ (∀ m ∈ s.begun.fresh, m ∈ fresh) ∧
        (∀ m ∈ t.scanOrder, m ∉ s.scanOrder → m ∈ fresh) ∧
        ∀ m ∈ fresh, m ∈ s.begun.fresh ∨ ∃ f, t.field? m = some f ∧ f.page = .numbered q) ∧
      t.msg = { s.msg with pendingPage := none } ∧
      t.lnk.replies = s.lnk.replies ++ [⟨0x86, tag, q.zeroExtend 8 :: bytesOfHalf (BitVec.ofNat 16
        (t.fields.filter fun e => e.2.page = .numbered q).length), placed⟩] ∧
      s.lineUntouched t

/-- A configuration applied: colours, period, age limit and threshold take effect, LAGGING is judged afresh, and the deferred
reply carries the geometry and the fields released. A changed geometry blanks the whole new plane, gives up every slot, releases
the fields that no longer fit and the RETIRING ones, and enters every visible field by class, lowest number first, in emptied
lists; LAGGING falls with the emptied lists and rises where the new entries reach the threshold, PAINT_LAG latches at each rise
(R71), and the released fields leave AEU's lists (R23, R70, R72, R87, R115, R116, R117). That the configuration is taken ahead of
the counter, and the record of the entries that it appends, are the model's choice (assumption log 3). -/
def Obligations.ConfigurationTakesEffect : Prop :=
  ∀ (s : State) (c : PendingConfigure), s.resetCause = none → s.scr.frozen = false →
    s.msg.pendingConfigure = some c → s.tableLaw →
    ∃ t released placed, exec .configurationApply s = .next t ∧
      t.scr = { s.scr with geometry := c.geometry, plane := t.scr.plane, defaultFg := c.fg, defaultBg := c.bg,
                           blinkPeriod := c.blinkPeriod } ∧
      t.pnt.ageLimit = c.ageLimit ∧ t.pnt.lagThreshold = c.lagThreshold ∧
      t.msg = { s.msg with pendingConfigure := none } ∧ s.lineUntouched t ∧
      t.lnk.replies = s.lnk.replies ++
        [⟨0x83, c.tag, c.geometry.code :: bytesOfHalf (BitVec.ofNat 16 released), placed⟩] ∧
      (c.geometry = s.scr.geometry → released = 0 ∧ t.scr.plane = s.scr.plane ∧ t.fields = s.fields ∧
        t.pnt.slots = s.pnt.slots ∧ t.pnt.urgent = s.pnt.urgent ∧ t.pnt.routine = s.pnt.routine ∧
        t.pnt.lagging = lagAfter s.pnt.lagging c.lagThreshold s.queuedTotal ∧ s.lagReported t (s.scr.frameCounter + 1) ∧
        s.listsKept t ∧ t.boundary = some s.begun) ∧
      (c.geometry ≠ s.scr.geometry →
        let leaves := fun f : Field => f.state = .retiring ∨ c.geometry.rows ≤ f.row ∨
          c.geometry.columns < f.column + f.width
        released = s.fields.length - t.fields.length ∧
        (∀ place < c.geometry.cells, Memory.read t.scr.plane place = ⟨0x20, c.fg, c.bg, false, false⟩) ∧
        (∀ m, s.field? m = none → t.field? m = none) ∧
        (∀ m f, s.field? m = some f →
          (leaves f → t.field? m = none) ∧
          (¬leaves f → t.field? m = some { f with shown := none, shownFrame := none, flashDeadline := none })) ∧
        (∀ e ∈ t.pnt.slots, e.2.field = none) ∧
        (∀ e ∈ s.pnt.slots, ∀ i discard, e.2.content = .filling i discard →
          (e.1, ⟨none, .filling i true⟩) ∈ t.pnt.slots) ∧
        (∀ e ∈ t.pnt.slots, e.2.content.isFilling = true) ∧
        (∀ m, m ∈ t.scanOrder ↔ t.onScreen m) ∧
        t.pnt.urgent = (t.fields.filter fun e => t.shows e.2 && e.2.options.urgent).map Prod.fst ∧
        t.pnt.routine = (t.fields.filter fun e => t.shows e.2 && !e.2.options.urgent).map (fun e => ⟨e.1, 0⟩) ∧
        (1 ≤ c.lagThreshold →
          t.pnt.lagging = decide (c.lagThreshold ≤ t.queuedTotal) ∧
          s.latchedOnce t (if (s.pnt.lagging = false ∧ c.lagThreshold ≤ s.queuedTotal) ∨ c.lagThreshold ≤ t.queuedTotal
            then 0x0200 else 0) (s.scr.frameCounter + 1)) ∧
        t.aeu.alertList = s.aeu.alertList.filter (fun m => (s.field? m).isNone || (t.field? m).isSome) ∧
        t.aeu.watchList = s.aeu.watchList.filter (fun w => (s.field? w.field).isNone || (t.field? w.field).isSome) ∧
        t.aeu.faultRecord = s.aeu.faultRecord ∧
        ∃ fresh, t.boundary = some { s.begun with fresh := fresh } ∧ (∀ m ∈ s.begun.fresh, m ∈ fresh) ∧
          (∀ m ∈ t.scanOrder, m ∈ fresh) ∧ ∀ m ∈ fresh, m ∈ s.begun.fresh ∨ m ∈ t.scanOrder)

/-! ### The laws that are kept -/

/-- Every step keeps the plane in its canonical form and SCR's, PNT's and MSG's parameters in their ranges (R94, R98, R105,
R106, R114, R118, R121, R122). -/
def Obligations.EveryStepKeepsScreenLaws : Prop :=
  ∀ s t : State, s.planeCanonical → s.screenLaw → step s = .next t → t.planeCanonical ∧ t.screenLaw

/-- Every step keeps filled plus reserved reply entries at 8 or fewer (R170), none in use and no frame begun during reset
processing, and none cut off outside it (R171, R173); and the law that while an enabled kind is latched
a NOTICE is outstanding (R153). -/
def Obligations.EveryStepKeepsReplyAndNoticeLaws : Prop :=
  ∀ s t : State, step s = .next t → (s.replyLaw → t.replyLaw) ∧ (s.noticeLaw → t.noticeLaw)

/-- Every step keeps the field table in its range (R1), no two fields in use in conflict and all inside the geometry (R9), and
every record coherent (R3) and in its ranges (R2, R12). A TEXT field keeps no limits, zone IN and no latch (R3), and, while
only visible fields hold slots (R73), an invisible field has no shown value, shown frame or flash deadline (R3, R7). -/
def Obligations.EveryStepKeepsFieldLaws : Prop :=
  ∀ s t : State, s.tableLaw → s.placementLaw → (∀ e ∈ s.fields, e.2.coherent ∧ e.2.inRange) → step s = .next t →
    (t.tableLaw ∧ t.placementLaw ∧ ∀ e ∈ t.fields, e.2.coherent ∧ e.2.inRange) ∧
      ((∀ e ∈ s.fields, e.2.textPlain) → ∀ e ∈ t.fields, e.2.textPlain) ∧
      (s.slotLaw → s.hiddenLaw → t.hiddenLaw)

/-- Every step keeps the laws of the paint queue (R65) and of the render slots (R73), and the slots' cells as many as their
fields are wide; the class of ROUTINE's entries (R66); and, with the threshold in its range (R72), LAGGING as the queued total
leaves it (R71). -/
def Obligations.EveryStepKeepsPaintLaws : Prop :=
  ∀ s t : State, s.tableLaw → s.queueLaw → s.slotLaw → s.cellsLaw → step s = .next t →
    (t.queueLaw ∧ t.slotLaw ∧ t.cellsLaw) ∧ (s.routineLaw → t.routineLaw) ∧ (s.screenLaw → s.lagLaw → t.lagLaw)

/-- Every step keeps the laws of the alert list (R142) and of the watch list (R23, R146). -/
def Obligations.EveryStepKeepsAttentionLaws : Prop :=
  ∀ s t : State, s.tableLaw → s.alertLaw → s.watchLaw → step s = .next t → t.alertLaw ∧ t.watchLaw

/-- The reset state meets every law, and holds the reset values of R1, R88, R94, R100, R105, R149, R161 and R173. That reset
processing is in progress in it, that no frame was cut off at its beginning, and that no break holds RXD, are the model's choice
(assumption logs 1, 14 and 25). -/
def Obligations.ResetMeetsLaws : Prop :=
  let s := State.reset
  (s.planeCanonical ∧ s.screenLaw ∧ s.replyLaw ∧ s.noticeLaw ∧ s.tableLaw ∧ s.placementLaw ∧
    (∀ e ∈ s.fields, e.2.coherent ∧ e.2.inRange ∧ e.2.textPlain) ∧ s.hiddenLaw ∧ s.queueLaw ∧ s.routineLaw ∧
    s.lagLaw ∧ s.slotLaw ∧ s.cellsLaw ∧ s.alertLaw ∧ s.watchLaw) ∧
    (∀ n, s.field? n = none) ∧
    s.pnt = { urgent := [], routine := [], slots := [], ageLimit := 20, lagThreshold := 256, lagging := false } ∧
    s.scr.geometry = .g80x25 ∧ (∀ place, Memory.read s.scr.plane place = ⟨0x20, 7, 0, false, false⟩) ∧
    s.scr.defaultFg = 7 ∧ s.scr.defaultBg = 0 ∧
    s.scr.palette.map (fun c => c.red ++ c.green ++ c.blue) =
      [0x000000, 0xC00000, 0x00C000, 0xC0C000, 0x0000C0, 0xC000C0, 0x00C0C0, 0xC0C0C0,
       0x404040, 0xFF4040, 0x40FF40, 0xFFFF40, 0x4040FF, 0xFF40FF, 0x40FFFF, 0xFFFFFF] ∧
    (∀ x ∈ s.scr.stagedPalette, x = none) ∧ s.scr.mode = .blank ∧ s.scr.brightness = 8 ∧
    s.backlightDuty = 8 ∧ s.scr.stagedMode = none ∧
    s.scr.blinkPeriod = 32 ∧ s.scr.blinkOn = true ∧ s.scr.page = 0 ∧ s.scr.frozen = false ∧
    s.scr.freezeDeadline = none ∧ s.scr.timerHold = false ∧ s.scr.frameCounter = 0 ∧
    s.aeu = { alertList := [], watchList := [], latched := 0, noticeMask := 0x07FE, noticeOutstanding := false,
              faultRecord := none } ∧
    s.msg = { inHand := none, pendingPage := none, pendingConfigure := none } ∧
    s.lnk.receiver = .hunting ∧ s.lnk.buffers = [] ∧ s.lnk.arrival = [] ∧ s.lnk.replies = [] ∧ s.lnk.notice = none ∧
    s.lnk.sending = none ∧ s.lnk.rxLow = false ∧ s.lnk.cut = [] ∧ s.attn = false ∧ s.rdy = false ∧ ∀ i, s.txd i = true
end

