-- ==== Sys2Proof/Laws/State.lean ====
section
/-! SUPPORT. What each named update of the state leaves in each of its fields, true by definition. -/

namespace Sys2Proof.Machine

variable (s : State)

/-! ### putField -/

@[simp] theorem State.putField_fields (n : Nat) (f : Field) : (s.putField n f).fields = Store.insert n f s.fields := rfl
@[simp] theorem State.putField_pnt (n : Nat) (f : Field) : (s.putField n f).pnt = s.pnt := rfl
@[simp] theorem State.putField_scr (n : Nat) (f : Field) : (s.putField n f).scr = s.scr := rfl
@[simp] theorem State.putField_msg (n : Nat) (f : Field) : (s.putField n f).msg = s.msg := rfl
@[simp] theorem State.putField_aeu (n : Nat) (f : Field) : (s.putField n f).aeu = s.aeu := rfl
@[simp] theorem State.putField_lnk (n : Nat) (f : Field) : (s.putField n f).lnk = s.lnk := rfl
@[simp] theorem State.putField_resetCause (n : Nat) (f : Field) : (s.putField n f).resetCause = s.resetCause := rfl
@[simp] theorem State.putField_resetn (n : Nat) (f : Field) : (s.putField n f).resetn = s.resetn := rfl
@[simp] theorem State.putField_boundary (n : Nat) (f : Field) : (s.putField n f).boundary = s.boundary := rfl
@[simp] theorem State.putField_choices (n : Nat) (f : Field) : (s.putField n f).choices = s.choices := rfl
@[simp] theorem State.putField_pending (n : Nat) (f : Field) : (s.putField n f).pending = s.pending := rfl

/-! ### placeNotice -/

@[simp] theorem State.placeNotice_fields (c : EventSet) (n : FrameNo) (p : Nat) :
    (s.placeNotice c n p).fields = s.fields := rfl
@[simp] theorem State.placeNotice_pnt (c : EventSet) (n : FrameNo) (p : Nat) : (s.placeNotice c n p).pnt = s.pnt := rfl
@[simp] theorem State.placeNotice_scr (c : EventSet) (n : FrameNo) (p : Nat) : (s.placeNotice c n p).scr = s.scr := rfl
@[simp] theorem State.placeNotice_msg (c : EventSet) (n : FrameNo) (p : Nat) : (s.placeNotice c n p).msg = s.msg := rfl
@[simp] theorem State.placeNotice_aeu (c : EventSet) (n : FrameNo) (p : Nat) :
    (s.placeNotice c n p).aeu = { s.aeu with noticeOutstanding := true } := rfl
@[simp] theorem State.placeNotice_lnk (c : EventSet) (n : FrameNo) (p : Nat) :
    (s.placeNotice c n p).lnk = { s.lnk with notice := some ⟨c, n, p⟩, placings := s.lnk.placings + 1 } := rfl
@[simp] theorem State.placeNotice_resetCause (c : EventSet) (n : FrameNo) (p : Nat) :
    (s.placeNotice c n p).resetCause = s.resetCause := rfl
@[simp] theorem State.placeNotice_resetn (c : EventSet) (n : FrameNo) (p : Nat) :
    (s.placeNotice c n p).resetn = s.resetn := rfl
@[simp] theorem State.placeNotice_boundary (c : EventSet) (n : FrameNo) (p : Nat) :
    (s.placeNotice c n p).boundary = s.boundary := rfl
@[simp] theorem State.placeNotice_choices (c : EventSet) (n : FrameNo) (p : Nat) :
    (s.placeNotice c n p).choices = s.choices := rfl
@[simp] theorem State.placeNotice_pending (c : EventSet) (n : FrameNo) (p : Nat) :
    (s.placeNotice c n p).pending = s.pending := rfl

/-! ### fillReply -/

@[simp] theorem State.fillReply_fields (type tag : Byte) (payload : List Byte) (p : Nat) :
    (s.fillReply type tag payload p).fields = s.fields := rfl
@[simp] theorem State.fillReply_pnt (type tag : Byte) (payload : List Byte) (p : Nat) :
    (s.fillReply type tag payload p).pnt = s.pnt := rfl
@[simp] theorem State.fillReply_scr (type tag : Byte) (payload : List Byte) (p : Nat) :
    (s.fillReply type tag payload p).scr = s.scr := rfl
@[simp] theorem State.fillReply_msg (type tag : Byte) (payload : List Byte) (p : Nat) :
    (s.fillReply type tag payload p).msg = s.msg := rfl
@[simp] theorem State.fillReply_aeu (type tag : Byte) (payload : List Byte) (p : Nat) :
    (s.fillReply type tag payload p).aeu = s.aeu := rfl
@[simp] theorem State.fillReply_lnk (type tag : Byte) (payload : List Byte) (p : Nat) :
    (s.fillReply type tag payload p).lnk = { s.lnk with replies := s.lnk.replies ++ [⟨type, tag, payload, p⟩], placings := s.lnk.placings + 1 } := rfl
@[simp] theorem State.fillReply_resetCause (type tag : Byte) (payload : List Byte) (p : Nat) :
    (s.fillReply type tag payload p).resetCause = s.resetCause := rfl
@[simp] theorem State.fillReply_resetn (type tag : Byte) (payload : List Byte) (p : Nat) :
    (s.fillReply type tag payload p).resetn = s.resetn := rfl
@[simp] theorem State.fillReply_boundary (type tag : Byte) (payload : List Byte) (p : Nat) :
    (s.fillReply type tag payload p).boundary = s.boundary := rfl
@[simp] theorem State.fillReply_choices (type tag : Byte) (payload : List Byte) (p : Nat) :
    (s.fillReply type tag payload p).choices = s.choices := rfl
@[simp] theorem State.fillReply_pending (type tag : Byte) (payload : List Byte) (p : Nat) :
    (s.fillReply type tag payload p).pending = s.pending := rfl

/-! ### recordFault -/

@[simp] theorem State.recordFault_fields (f : Frame) (code : RefusalCode) (number : Option Half) (index : Option Nat) :
    (s.recordFault f code number index).fields = s.fields := rfl
@[simp] theorem State.recordFault_pnt (f : Frame) (code : RefusalCode) (number : Option Half) (index : Option Nat) :
    (s.recordFault f code number index).pnt = s.pnt := rfl
@[simp] theorem State.recordFault_scr (f : Frame) (code : RefusalCode) (number : Option Half) (index : Option Nat) :
    (s.recordFault f code number index).scr = s.scr := rfl
@[simp] theorem State.recordFault_msg (f : Frame) (code : RefusalCode) (number : Option Half) (index : Option Nat) :
    (s.recordFault f code number index).msg = s.msg := rfl
@[simp] theorem State.recordFault_aeu (f : Frame) (code : RefusalCode) (number : Option Half) (index : Option Nat) :
    (s.recordFault f code number index).aeu = { s.aeu with faultRecord := some ⟨f.type, f.tag, code, number, index, s.now⟩ } := rfl
@[simp] theorem State.recordFault_lnk (f : Frame) (code : RefusalCode) (number : Option Half) (index : Option Nat) :
    (s.recordFault f code number index).lnk = s.lnk := rfl
@[simp] theorem State.recordFault_resetCause (f : Frame) (code : RefusalCode) (number : Option Half) (index : Option Nat) :
    (s.recordFault f code number index).resetCause = s.resetCause := rfl
@[simp] theorem State.recordFault_resetn (f : Frame) (code : RefusalCode) (number : Option Half) (index : Option Nat) :
    (s.recordFault f code number index).resetn = s.resetn := rfl
@[simp] theorem State.recordFault_boundary (f : Frame) (code : RefusalCode) (number : Option Half) (index : Option Nat) :
    (s.recordFault f code number index).boundary = s.boundary := rfl
@[simp] theorem State.recordFault_choices (f : Frame) (code : RefusalCode) (number : Option Half) (index : Option Nat) :
    (s.recordFault f code number index).choices = s.choices := rfl
@[simp] theorem State.recordFault_pending (f : Frame) (code : RefusalCode) (number : Option Half) (index : Option Nat) :
    (s.recordFault f code number index).pending = s.pending := rfl

/-! ### judgeLagging -/

@[simp] theorem State.judgeLagging_fields : (s.judgeLagging).fields = s.fields := rfl
@[simp] theorem State.judgeLagging_pnt :
    (s.judgeLagging).pnt = { s.pnt with lagging := (s.pnt.lagging || s.lagRises) && !s.lagFalls } := rfl
@[simp] theorem State.judgeLagging_scr : (s.judgeLagging).scr = s.scr := rfl
@[simp] theorem State.judgeLagging_msg : (s.judgeLagging).msg = s.msg := rfl
@[simp] theorem State.judgeLagging_aeu : (s.judgeLagging).aeu = s.aeu := rfl
@[simp] theorem State.judgeLagging_lnk : (s.judgeLagging).lnk = s.lnk := rfl
@[simp] theorem State.judgeLagging_resetCause : (s.judgeLagging).resetCause = s.resetCause := rfl
@[simp] theorem State.judgeLagging_resetn : (s.judgeLagging).resetn = s.resetn := rfl
@[simp] theorem State.judgeLagging_boundary : (s.judgeLagging).boundary = s.boundary := rfl
@[simp] theorem State.judgeLagging_choices : (s.judgeLagging).choices = s.choices := rfl
@[simp] theorem State.judgeLagging_pending : (s.judgeLagging).pending = s.pending := rfl

/-! ### markExamined -/

@[simp] theorem State.markExamined_fields (n : Nat) : (s.markExamined n).fields = s.fields := rfl
@[simp] theorem State.markExamined_pnt (n : Nat) : (s.markExamined n).pnt = s.pnt := rfl
@[simp] theorem State.markExamined_scr (n : Nat) : (s.markExamined n).scr = s.scr := rfl
@[simp] theorem State.markExamined_msg (n : Nat) : (s.markExamined n).msg = s.msg := rfl
@[simp] theorem State.markExamined_aeu (n : Nat) : (s.markExamined n).aeu = s.aeu := rfl
@[simp] theorem State.markExamined_lnk (n : Nat) : (s.markExamined n).lnk = s.lnk := rfl
@[simp] theorem State.markExamined_resetCause (n : Nat) : (s.markExamined n).resetCause = s.resetCause := rfl
@[simp] theorem State.markExamined_resetn (n : Nat) : (s.markExamined n).resetn = s.resetn := rfl
@[simp] theorem State.markExamined_boundary (n : Nat) :
    (s.markExamined n).boundary = s.boundary.map fun b => { b with examined := n } := rfl
@[simp] theorem State.markExamined_choices (n : Nat) : (s.markExamined n).choices = s.choices := rfl
@[simp] theorem State.markExamined_pending (n : Nat) : (s.markExamined n).pending = s.pending := rfl

/-! ### endFreeze -/

@[simp] theorem State.endFreeze_fields : (s.endFreeze).fields = s.fields := rfl
@[simp] theorem State.endFreeze_pnt : (s.endFreeze).pnt = s.pnt := rfl
@[simp] theorem State.endFreeze_scr :
    (s.endFreeze).scr = { s.scr with frozen := false, freezeDeadline := none, timerHold := false } := rfl
@[simp] theorem State.endFreeze_msg : (s.endFreeze).msg = s.msg := rfl
@[simp] theorem State.endFreeze_aeu : (s.endFreeze).aeu = s.aeu := rfl
@[simp] theorem State.endFreeze_lnk : (s.endFreeze).lnk = s.lnk := rfl
@[simp] theorem State.endFreeze_resetCause : (s.endFreeze).resetCause = s.resetCause := rfl
@[simp] theorem State.endFreeze_resetn : (s.endFreeze).resetn = s.resetn := rfl
@[simp] theorem State.endFreeze_boundary : (s.endFreeze).boundary = s.boundary := rfl
@[simp] theorem State.endFreeze_choices : (s.endFreeze).choices = s.choices := rfl
@[simp] theorem State.endFreeze_pending : (s.endFreeze).pending = s.pending := rfl

/-! ### applyPalette -/

@[simp] theorem State.applyPalette_fields : (s.applyPalette).fields = s.fields := rfl
@[simp] theorem State.applyPalette_pnt : (s.applyPalette).pnt = s.pnt := rfl
@[simp] theorem State.applyPalette_msg : (s.applyPalette).msg = s.msg := rfl
@[simp] theorem State.applyPalette_aeu : (s.applyPalette).aeu = s.aeu := rfl
@[simp] theorem State.applyPalette_lnk : (s.applyPalette).lnk = s.lnk := rfl
@[simp] theorem State.applyPalette_resetCause : (s.applyPalette).resetCause = s.resetCause := rfl
@[simp] theorem State.applyPalette_resetn : (s.applyPalette).resetn = s.resetn := rfl
@[simp] theorem State.applyPalette_boundary : (s.applyPalette).boundary = s.boundary := rfl
@[simp] theorem State.applyPalette_choices : (s.applyPalette).choices = s.choices := rfl
@[simp] theorem State.applyPalette_pending : (s.applyPalette).pending = s.pending := rfl

/-! ### clearPage -/

@[simp] theorem State.clearPage_fields (p : BitVec 2) :
    (s.clearPage p).fields = s.fields.map fun e => if e.2.page = .numbered p then (e.1, e.2.unshown) else e := rfl
@[simp] theorem State.clearPage_msg (p : BitVec 2) : (s.clearPage p).msg = s.msg := rfl
@[simp] theorem State.clearPage_aeu (p : BitVec 2) : (s.clearPage p).aeu = s.aeu := rfl
@[simp] theorem State.clearPage_lnk (p : BitVec 2) : (s.clearPage p).lnk = s.lnk := rfl
@[simp] theorem State.clearPage_resetCause (p : BitVec 2) : (s.clearPage p).resetCause = s.resetCause := rfl
@[simp] theorem State.clearPage_resetn (p : BitVec 2) : (s.clearPage p).resetn = s.resetn := rfl
@[simp] theorem State.clearPage_boundary (p : BitVec 2) : (s.clearPage p).boundary = s.boundary := rfl
@[simp] theorem State.clearPage_choices (p : BitVec 2) : (s.clearPage p).choices = s.choices := rfl
@[simp] theorem State.clearPage_pending (p : BitVec 2) : (s.clearPage p).pending = s.pending := rfl

/-! ### clearForGeometry -/

@[simp] theorem State.clearForGeometry_fields (g : Geometry) :
    (s.clearForGeometry g).fields = s.fields.map fun e => (e.1, e.2.unshown) := rfl
@[simp] theorem State.clearForGeometry_msg (g : Geometry) : (s.clearForGeometry g).msg = s.msg := rfl
@[simp] theorem State.clearForGeometry_aeu (g : Geometry) : (s.clearForGeometry g).aeu = s.aeu := rfl
@[simp] theorem State.clearForGeometry_lnk (g : Geometry) : (s.clearForGeometry g).lnk = s.lnk := rfl
@[simp] theorem State.clearForGeometry_resetCause (g : Geometry) : (s.clearForGeometry g).resetCause = s.resetCause := rfl
@[simp] theorem State.clearForGeometry_resetn (g : Geometry) : (s.clearForGeometry g).resetn = s.resetn := rfl
@[simp] theorem State.clearForGeometry_boundary (g : Geometry) : (s.clearForGeometry g).boundary = s.boundary := rfl
@[simp] theorem State.clearForGeometry_choices (g : Geometry) : (s.clearForGeometry g).choices = s.choices := rfl
@[simp] theorem State.clearForGeometry_pending (g : Geometry) : (s.clearForGeometry g).pending = s.pending := rfl

/-! ### take -/

@[simp] theorem State.take_fields (f : Frame) : (s.take f).fields = s.fields := rfl
@[simp] theorem State.take_pnt (f : Frame) : (s.take f).pnt = s.pnt := rfl
@[simp] theorem State.take_scr (f : Frame) : (s.take f).scr = s.scr := rfl
@[simp] theorem State.take_msg (f : Frame) : (s.take f).msg = { s.msg with inHand := some f } := rfl
@[simp] theorem State.take_aeu (f : Frame) : (s.take f).aeu = s.aeu := rfl
@[simp] theorem State.take_resetCause (f : Frame) : (s.take f).resetCause = s.resetCause := rfl
@[simp] theorem State.take_resetn (f : Frame) : (s.take f).resetn = s.resetn := rfl
@[simp] theorem State.take_boundary (f : Frame) : (s.take f).boundary = s.boundary := rfl
@[simp] theorem State.take_choices (f : Frame) : (s.take f).choices = s.choices := rfl
@[simp] theorem State.take_pending (f : Frame) : (s.take f).pending = s.pending := rfl

/-! ### setRxLow -/

@[simp] theorem State.setRxLow_fields (low : Bool) : (s.setRxLow low).fields = s.fields := rfl
@[simp] theorem State.setRxLow_pnt (low : Bool) : (s.setRxLow low).pnt = s.pnt := rfl
@[simp] theorem State.setRxLow_scr (low : Bool) : (s.setRxLow low).scr = s.scr := rfl
@[simp] theorem State.setRxLow_msg (low : Bool) : (s.setRxLow low).msg = s.msg := rfl
@[simp] theorem State.setRxLow_aeu (low : Bool) : (s.setRxLow low).aeu = s.aeu := rfl
@[simp] theorem State.setRxLow_lnk (low : Bool) : (s.setRxLow low).lnk = { s.lnk with rxLow := low } := rfl
@[simp] theorem State.setRxLow_resetCause (low : Bool) : (s.setRxLow low).resetCause = s.resetCause := rfl
@[simp] theorem State.setRxLow_resetn (low : Bool) : (s.setRxLow low).resetn = s.resetn := rfl
@[simp] theorem State.setRxLow_boundary (low : Bool) : (s.setRxLow low).boundary = s.boundary := rfl
@[simp] theorem State.setRxLow_choices (low : Bool) : (s.setRxLow low).choices = s.choices := rfl
@[simp] theorem State.setRxLow_pending (low : Bool) : (s.setRxLow low).pending = s.pending := rfl

/-! ### beginReset -/

@[simp] theorem State.beginReset_fields (cause : ResetCause) (level : Bool) (straps : Straps) :
    (s.beginReset cause level straps).fields = [] := rfl
@[simp] theorem State.beginReset_pnt (cause : ResetCause) (level : Bool) (straps : Straps) :
    (s.beginReset cause level straps).pnt = Paint.reset := rfl
@[simp] theorem State.beginReset_scr (cause : ResetCause) (level : Bool) (straps : Straps) :
    (s.beginReset cause level straps).scr = Screen.reset := rfl
@[simp] theorem State.beginReset_msg (cause : ResetCause) (level : Bool) (straps : Straps) :
    (s.beginReset cause level straps).msg = Message.reset := rfl
@[simp] theorem State.beginReset_aeu (cause : ResetCause) (level : Bool) (straps : Straps) :
    (s.beginReset cause level straps).aeu = Alerts.reset := rfl
@[simp] theorem State.beginReset_lnk (cause : ResetCause) (level : Bool) (straps : Straps) :
    (s.beginReset cause level straps).lnk = { Link.reset with
      rate := straps, txen := s.lnk.txen, cut := s.lnk.bytesBegun (Config.bitTimesSent s.choices) } := rfl
@[simp] theorem State.beginReset_resetCause (cause : ResetCause) (level : Bool) (straps : Straps) :
    (s.beginReset cause level straps).resetCause = some cause := rfl
@[simp] theorem State.beginReset_resetn (cause : ResetCause) (level : Bool) (straps : Straps) :
    (s.beginReset cause level straps).resetn = level := rfl
@[simp] theorem State.beginReset_boundary (cause : ResetCause) (level : Bool) (straps : Straps) :
    (s.beginReset cause level straps).boundary = none := rfl
@[simp] theorem State.beginReset_choices (cause : ResetCause) (level : Bool) (straps : Straps) :
    (s.beginReset cause level straps).choices = s.choices + (if s.lnk.sending.isSome then 1 else 0) := rfl
@[simp] theorem State.beginReset_pending (cause : ResetCause) (level : Bool) (straps : Straps) :
    (s.beginReset cause level straps).pending = s.pending := rfl

end Sys2Proof.Machine
end

