-- ==== Sys2Proof/Laws/Store.lean ====
section
/-! SUPPORT. Sparse stores and the cell plane: reading after a write, the rising order, the canonical form. -/

namespace Sys2Proof.Machine

variable {α : Type}

/-! ### Reading after a write -/

@[simp] theorem Store.find?_nil (k : Nat) : Store.find? k ([] : List (Nat × α)) = none := rfl

theorem Store.find?_insert (k m : Nat) (v : α) (l : List (Nat × α)) :
    Store.find? m (Store.insert k v l) = if m = k then some v else Store.find? m l := by
  induction l with
  | nil => simp only [Store.insert, Store.find?, eq_comm]
  | cons e rest ih =>
    obtain ⟨j, w⟩ := e
    by_cases hlt : k < j
    · by_cases h : m = k
      · simp [Store.insert, Store.find?, hlt, h]
      · simp [Store.insert, Store.find?, hlt, h, Ne.symm h]
    · by_cases hjk : j = k
      · by_cases h : m = k
        · simp [Store.insert, Store.find?, hjk, h]
        · simp [Store.insert, Store.find?, hjk, h, Ne.symm h]
      · by_cases h : m = k
        · subst h; simp [Store.insert, Store.find?, hlt, hjk, ih]
        · simp [Store.insert, Store.find?, hlt, hjk, ih, h]

@[simp] theorem Store.find?_insert_self (k : Nat) (v : α) (l : List (Nat × α)) :
    Store.find? k (Store.insert k v l) = some v := by simp [Store.find?_insert]

theorem Store.find?_insert_ne {k m : Nat} (h : m ≠ k) (v : α) (l : List (Nat × α)) :
    Store.find? m (Store.insert k v l) = Store.find? m l := by simp [Store.find?_insert, h]

theorem Store.find?_erase_ne {k m : Nat} (h : m ≠ k) (l : List (Nat × α)) :
    Store.find? m (Store.erase k l) = Store.find? m l := by
  induction l with
  | nil => rfl
  | cons e rest ih =>
    obtain ⟨j, w⟩ := e
    by_cases hjk : j = k
    · subst hjk; simp [Store.erase, Store.find?, Ne.symm h]
    · by_cases hm : j = m
      · subst hm; simp [Store.erase, Store.find?, hjk]
      · simp [Store.erase, Store.find?, hjk, hm, ih]

/-! ### The rising order -/

@[simp] theorem Store.rising_cons (e : Nat × α) (l : List (Nat × α)) :
    Store.rising (e :: l) = true ↔ (∀ d ∈ l, e.1 < d.1) ∧ Store.rising l = true := by
  obtain ⟨j, w⟩ := e
  simp [Store.rising]

@[simp] theorem Store.rising_nil : Store.rising ([] : List (Nat × α)) = true := rfl

theorem Store.mem_insert {k : Nat} {v : α} {l : List (Nat × α)} {e : Nat × α} (h : e ∈ Store.insert k v l) :
    e = (k, v) ∨ e ∈ l := by
  induction l with
  | nil => simpa [Store.insert] using h
  | cons d rest ih =>
    obtain ⟨j, w⟩ := d
    unfold Store.insert at h
    split at h
    · simpa using h
    · split at h
      · rcases List.mem_cons.1 h with h | h
        · exact .inl h
        · exact .inr (List.mem_cons_of_mem _ h)
      · rcases List.mem_cons.1 h with h | h
        · exact .inr (by simp [h])
        · exact (ih h).imp id (List.mem_cons_of_mem _)

theorem Store.mem_erase {k : Nat} {l : List (Nat × α)} {e : Nat × α} (h : e ∈ Store.erase k l) : e ∈ l := by
  induction l with
  | nil => simp [Store.erase] at h
  | cons d rest ih =>
    obtain ⟨j, w⟩ := d
    unfold Store.erase at h
    split at h
    · exact List.mem_cons_of_mem _ h
    · rcases List.mem_cons.1 h with h | h
      · simp [h]
      · exact List.mem_cons_of_mem _ (ih h)

theorem Store.rising_insert (k : Nat) (v : α) {l : List (Nat × α)} (h : Store.rising l = true) :
    Store.rising (Store.insert k v l) = true := by
  induction l with
  | nil => simp [Store.insert]
  | cons d rest ih =>
    obtain ⟨j, w⟩ := d
    obtain ⟨hj, hr⟩ := (Store.rising_cons _ _).1 h
    unfold Store.insert
    split
    · rename_i hlt
      refine (Store.rising_cons _ _).2 ⟨fun d hd => ?_, h⟩
      rcases List.mem_cons.1 hd with rfl | hd
      · exact hlt
      · exact hlt.trans (hj d hd)
    · split
      · rename_i hjk; subst hjk
        exact (Store.rising_cons _ _).2 ⟨hj, hr⟩
      · refine (Store.rising_cons _ _).2 ⟨fun d hd => ?_, ih hr⟩
        rcases Store.mem_insert hd with rfl | hd
        · simp only; omega
        · exact hj d hd

theorem Store.rising_erase (k : Nat) {l : List (Nat × α)} (h : Store.rising l = true) :
    Store.rising (Store.erase k l) = true := by
  induction l with
  | nil => rfl
  | cons d rest ih =>
    obtain ⟨j, w⟩ := d
    obtain ⟨hj, hr⟩ := (Store.rising_cons _ _).1 h
    unfold Store.erase
    split
    · exact hr
    · exact (Store.rising_cons _ _).2 ⟨fun d hd => hj d (Store.mem_erase hd), ih hr⟩

theorem Store.find?_none_of_rising_lt {k : Nat} {l : List (Nat × α)} (h : ∀ d ∈ l, k < d.1) :
    Store.find? k l = none := by
  induction l with
  | nil => rfl
  | cons d rest ih =>
    obtain ⟨j, w⟩ := d
    have hj : k < j := h (j, w) (by simp)
    have : j ≠ k := by omega
    simp [Store.find?, this, ih fun d hd => h d (List.mem_cons_of_mem _ hd)]

@[simp] theorem Store.find?_erase_self (k : Nat) {l : List (Nat × α)} (h : Store.rising l = true) :
    Store.find? k (Store.erase k l) = none := by
  induction l with
  | nil => rfl
  | cons d rest ih =>
    obtain ⟨j, w⟩ := d
    obtain ⟨hj, hr⟩ := (Store.rising_cons _ _).1 h
    by_cases hjk : j = k
    · subst hjk; simp [Store.erase, Store.find?_none_of_rising_lt hj]
    · simp [Store.erase, hjk, Store.find?, ih hr]

theorem Store.mem_of_find? {k : Nat} {v : α} {l : List (Nat × α)} (h : Store.find? k l = some v) : (k, v) ∈ l := by
  induction l with
  | nil => simp at h
  | cons d rest ih =>
    obtain ⟨j, w⟩ := d
    unfold Store.find? at h
    split at h
    · rename_i hj; simp_all
    · exact List.mem_cons_of_mem _ (ih h)

theorem Store.find?_of_mem {e : Nat × α} {l : List (Nat × α)} (hr : Store.rising l = true) (h : e ∈ l) :
    Store.find? e.1 l = some e.2 := by
  induction l with
  | nil => simp at h
  | cons d rest ih =>
    obtain ⟨j, w⟩ := d
    obtain ⟨hj, hr⟩ := (Store.rising_cons _ _).1 hr
    rcases List.mem_cons.1 h with rfl | h
    · simp [Store.find?]
    · have := hj e h
      have hne : j ≠ e.1 := by simp only at this; omega
      simp [Store.find?, hne, ih hr h]

theorem Store.find?_map (g : Nat → α → α) (k : Nat) (l : List (Nat × α)) :
    Store.find? k (l.map fun e => (e.1, g e.1 e.2)) = (Store.find? k l).map (g k) := by
  induction l with
  | nil => rfl
  | cons e rest ih =>
    obtain ⟨j, w⟩ := e
    by_cases h : j = k
    · subst h; simp [Store.find?]
    · simpa [Store.find?, h] using ih

theorem Store.rising_of_map_fst {β : Type} {l : List (Nat × α)} {m : List (Nat × β)} (h : m.map Prod.fst = l.map Prod.fst) :
    Store.rising m = Store.rising l := by
  induction l generalizing m with
  | nil => simp_all
  | cons e rest ih =>
    cases m with
    | nil => simp at h
    | cons d more =>
      obtain ⟨h1, h2⟩ := List.cons.inj h
      have key : ∀ (P : Nat → Prop), (∀ x ∈ more, P x.1) ↔ (∀ x ∈ rest, P x.1) := by
        intro P
        have a : (∀ x ∈ more, P x.1) ↔ ∀ y ∈ more.map Prod.fst, P y := by simp
        have b : (∀ x ∈ rest, P x.1) ↔ ∀ y ∈ rest.map Prod.fst, P y := by simp
        rw [a, b, h2]
      rw [Bool.eq_iff_iff, Store.rising_cons, Store.rising_cons, ih h2, h1, key fun y => e.1 < y]

/-! ### The cell plane -/

theorem Memory.read_write (plane : List (Nat × Cell)) (place at_ : Nat) (c : Cell) (h : Store.rising plane = true) :
    Memory.read (Memory.write plane place c) at_ = if at_ = place then c else Memory.read plane at_ := by
  unfold Memory.read Memory.write
  by_cases hc : c = resetBlank
  · by_cases ha : at_ = place
    · subst ha; simp [hc, Store.find?_erase_self _ h]
    · simp [hc, ha, Store.find?_erase_ne ha]
  · by_cases ha : at_ = place <;> simp [hc, ha, Store.find?_insert]

theorem Memory.wf_rising {plane : List (Nat × Cell)} (h : Memory.wf plane = true) : Store.rising plane = true := by
  simp only [Memory.wf, Bool.and_eq_true] at h
  exact h.1

/-- A write keeps the canonical form. -/
theorem Memory.write_wf (plane : List (Nat × Cell)) (place : Nat) (c : Cell) (h : Memory.wf plane = true) :
    Memory.wf (Memory.write plane place c) = true := by
  simp only [Memory.wf, Bool.and_eq_true, List.all_eq_true] at h ⊢
  unfold Memory.write
  split
  · exact ⟨Store.rising_erase _ h.1, fun e he => h.2 e (Store.mem_erase he)⟩
  · rename_i hc
    refine ⟨Store.rising_insert _ _ h.1, fun e he => ?_⟩
    rcases Store.mem_insert he with rfl | he
    · simpa using hc
    · exact h.2 e he

/-- A run of writes keeps the canonical form. -/
theorem Memory.writeRun_wf (plane : List (Nat × Cell)) (place : Nat) (cells : List Cell) (h : Memory.wf plane = true) :
    Memory.wf (Memory.writeRun plane place cells) = true := by
  induction cells generalizing plane place with
  | nil => exact h
  | cons c rest ih => exact ih _ _ (Memory.write_wf _ _ _ h)

/-- What a run of writes leaves at a place: the cell of the run that falls on it, or what stood there. -/
theorem Memory.read_writeRun (plane : List (Nat × Cell)) (place at_ : Nat) (cells : List Cell) (h : Memory.wf plane = true) :
    Memory.read (Memory.writeRun plane place cells) at_ =
      if place ≤ at_ then (cells[at_ - place]?).getD (Memory.read plane at_) else Memory.read plane at_ := by
  induction cells generalizing plane place with
  | nil => simp [Memory.writeRun]
  | cons c rest ih =>
    rw [Memory.writeRun, ih _ _ (Memory.write_wf _ _ _ h), Memory.read_write _ _ _ _ (Memory.wf_rising h)]
    rcases Nat.lt_trichotomy at_ place with hlt | rfl | hgt
    · simp [show ¬ place ≤ at_ by omega, show ¬ place + 1 ≤ at_ by omega, show at_ ≠ place by omega]
    · simp
    · have : at_ - place = at_ - (place + 1) + 1 := by omega
      simp [show place ≤ at_ by omega, show place + 1 ≤ at_ by omega, show at_ ≠ place by omega, this]

/-- A list of places that rise, with at most one cell each, is in canonical form. -/
theorem Memory.filterMap_range_wf (g : Nat → Cell) (size start : Nat) :
    Memory.wf ((List.range' start size).filterMap fun p => if g p = resetBlank then none else some (p, g p)) = true := by
  induction size generalizing start with
  | zero => rfl
  | succ k ih =>
    rw [List.range'_succ]
    have h := ih (start + 1)
    simp only [Memory.wf, Bool.and_eq_true, List.all_eq_true] at h ⊢
    by_cases hg : g start = resetBlank
    · simpa [hg] using h
    · simp only [List.filterMap_cons, if_neg hg]
      refine ⟨(Store.rising_cons _ _).2 ⟨fun d hd => ?_, h.1⟩, fun e he => ?_⟩
      · obtain ⟨p, hp, hd⟩ := List.mem_filterMap.1 hd
        obtain ⟨i, _, rfl⟩ := List.mem_range'.1 hp
        split at hd
        · simp at hd
        · obtain rfl := Option.some.inj hd
          simp only; omega
      · rcases List.mem_cons.1 he with rfl | he
        · simpa using hg
        · exact h.2 e he

/-- Blanking keeps the canonical form. -/
theorem Memory.blankBut_wf (keep : Nat → Bool) (blank : Cell) (size : Nat) (plane : List (Nat × Cell)) :
    Memory.wf (Memory.blankBut keep blank size plane) = true := by
  have h := Memory.filterMap_range_wf (fun p => if keep p then Memory.read plane p else blank) size 0
  simpa [Memory.blankBut, List.range_eq_range'] using h

theorem Memory.find?_filterMap_range (g : Nat → Cell) (size start at_ : Nat) :
    Store.find? at_ ((List.range' start size).filterMap fun p => if g p = resetBlank then none else some (p, g p)) =
      if start ≤ at_ ∧ at_ < start + size ∧ g at_ ≠ resetBlank then some (g at_) else none := by
  induction size generalizing start with
  | zero =>
    have : ¬ (start ≤ at_ ∧ at_ < start + 0 ∧ g at_ ≠ resetBlank) := by omega
    rw [if_neg this]; rfl
  | succ k ih =>
    rw [List.range'_succ]
    by_cases hg : g start = resetBlank
    · simp only [List.filterMap_cons, if_pos hg, ih]
      by_cases ha : at_ = start
      · subst ha; simp [hg]
      · refine if_congr ?_ rfl rfl
        constructor <;> rintro ⟨h1, h2, h3⟩ <;> exact ⟨by omega, by omega, h3⟩
    · simp only [List.filterMap_cons, if_neg hg, Store.find?]
      by_cases ha : start = at_
      · subst ha; simp [hg]
      · rw [if_neg ha, ih]
        refine if_congr ?_ rfl rfl
        constructor <;> rintro ⟨h1, h2, h3⟩ <;> exact ⟨by omega, by omega, h3⟩

/-- What blanking leaves at a place below the size: the cell kept, or the blank. -/
theorem Memory.read_blankBut (keep : Nat → Bool) (blank : Cell) (size at_ : Nat) (plane : List (Nat × Cell))
    (h : at_ < size) :
    Memory.read (Memory.blankBut keep blank size plane) at_ = if keep at_ then Memory.read plane at_ else blank := by
  have key := Memory.find?_filterMap_range (fun p => if keep p then Memory.read plane p else blank) size 0 at_
  have hb : Memory.blankBut keep blank size plane =
      (List.range' 0 size).filterMap fun p =>
        if (if keep p then Memory.read plane p else blank) = resetBlank then none
        else some (p, if keep p then Memory.read plane p else blank) := by
    simp [Memory.blankBut, List.range_eq_range']
  rw [Memory.read, hb, key]
  by_cases hg : (if keep at_ then Memory.read plane at_ else blank) = resetBlank
  · simp [hg]
  · simp [hg, h]

/-- The reset plane lists nothing and is canonical. -/
theorem Memory.reset_wf : Memory.wf State.reset.scr.plane = true := rfl

end Sys2Proof.Machine
end

