-- ==== Sys2Proof/Laws/Frames.lean ====
section
/-! SUPPORT. What the shared operations leave unchanged, block by block, and what each can do. -/

namespace Sys2Proof.Machine

variable (s : State)

/-! ### Latching -/

@[simp] theorem State.latchChanges_fields (kinds : EventSet) (cs : List EventSet) (n : FrameNo) (p : Nat) :
    (s.latchChanges kinds cs n p).fields = s.fields := by
  unfold State.latchChanges; dsimp only; split <;> rfl
@[simp] theorem State.latchChanges_pnt (kinds : EventSet) (cs : List EventSet) (n : FrameNo) (p : Nat) :
    (s.latchChanges kinds cs n p).pnt = s.pnt := by
  unfold State.latchChanges; dsimp only; split <;> rfl
@[simp] theorem State.latchChanges_scr (kinds : EventSet) (cs : List EventSet) (n : FrameNo) (p : Nat) :
    (s.latchChanges kinds cs n p).scr = s.scr := by
  unfold State.latchChanges; dsimp only; split <;> rfl
@[simp] theorem State.latchChanges_msg (kinds : EventSet) (cs : List EventSet) (n : FrameNo) (p : Nat) :
    (s.latchChanges kinds cs n p).msg = s.msg := by
  unfold State.latchChanges; dsimp only; split <;> rfl
@[simp] theorem State.latchChanges_resetCause (kinds : EventSet) (cs : List EventSet) (n : FrameNo) (p : Nat) :
    (s.latchChanges kinds cs n p).resetCause = s.resetCause := by
  unfold State.latchChanges; dsimp only; split <;> rfl
@[simp] theorem State.latchChanges_resetn (kinds : EventSet) (cs : List EventSet) (n : FrameNo) (p : Nat) :
    (s.latchChanges kinds cs n p).resetn = s.resetn := by
  unfold State.latchChanges; dsimp only; split <;> rfl
@[simp] theorem State.latchChanges_boundary (kinds : EventSet) (cs : List EventSet) (n : FrameNo) (p : Nat) :
    (s.latchChanges kinds cs n p).boundary = s.boundary := by
  unfold State.latchChanges; dsimp only; split <;> rfl
@[simp] theorem State.latchChanges_choices (kinds : EventSet) (cs : List EventSet) (n : FrameNo) (p : Nat) :
    (s.latchChanges kinds cs n p).choices = s.choices := by
  unfold State.latchChanges; dsimp only; split <;> rfl
@[simp] theorem State.latchChanges_pending (kinds : EventSet) (cs : List EventSet) (n : FrameNo) (p : Nat) :
    (s.latchChanges kinds cs n p).pending = s.pending := by
  unfold State.latchChanges; dsimp only; split <;> rfl
@[simp] theorem State.latchChanges_aeu.alertList (kinds : EventSet) (cs : List EventSet) (n : FrameNo) (p : Nat) :
    (s.latchChanges kinds cs n p).aeu.alertList = s.aeu.alertList := by
  unfold State.latchChanges; dsimp only; split <;> rfl
@[simp] theorem State.latchChanges_aeu.watchList (kinds : EventSet) (cs : List EventSet) (n : FrameNo) (p : Nat) :
    (s.latchChanges kinds cs n p).aeu.watchList = s.aeu.watchList := by
  unfold State.latchChanges; dsimp only; split <;> rfl
@[simp] theorem State.latchChanges_aeu.noticeMask (kinds : EventSet) (cs : List EventSet) (n : FrameNo) (p : Nat) :
    (s.latchChanges kinds cs n p).aeu.noticeMask = s.aeu.noticeMask := by
  unfold State.latchChanges; dsimp only; split <;> rfl
@[simp] theorem State.latchChanges_aeu.faultRecord (kinds : EventSet) (cs : List EventSet) (n : FrameNo) (p : Nat) :
    (s.latchChanges kinds cs n p).aeu.faultRecord = s.aeu.faultRecord := by
  unfold State.latchChanges; dsimp only; split <;> rfl
@[simp] theorem State.latchChanges_aeu.latched (kinds : EventSet) (cs : List EventSet) (n : FrameNo) (p : Nat) :
    (s.latchChanges kinds cs n p).aeu.latched = s.aeu.latched ||| kinds := by
  unfold State.latchChanges; dsimp only; split <;> rfl
@[simp] theorem State.latchChanges_lnk.receiver (kinds : EventSet) (cs : List EventSet) (n : FrameNo) (p : Nat) :
    (s.latchChanges kinds cs n p).lnk.receiver = s.lnk.receiver := by
  unfold State.latchChanges; dsimp only; split <;> rfl
@[simp] theorem State.latchChanges_lnk.buffers (kinds : EventSet) (cs : List EventSet) (n : FrameNo) (p : Nat) :
    (s.latchChanges kinds cs n p).lnk.buffers = s.lnk.buffers := by
  unfold State.latchChanges; dsimp only; split <;> rfl
@[simp] theorem State.latchChanges_lnk.arrival (kinds : EventSet) (cs : List EventSet) (n : FrameNo) (p : Nat) :
    (s.latchChanges kinds cs n p).lnk.arrival = s.lnk.arrival := by
  unfold State.latchChanges; dsimp only; split <;> rfl
@[simp] theorem State.latchChanges_lnk.replies (kinds : EventSet) (cs : List EventSet) (n : FrameNo) (p : Nat) :
    (s.latchChanges kinds cs n p).lnk.replies = s.lnk.replies := by
  unfold State.latchChanges; dsimp only; split <;> rfl
@[simp] theorem State.latchChanges_lnk.sending (kinds : EventSet) (cs : List EventSet) (n : FrameNo) (p : Nat) :
    (s.latchChanges kinds cs n p).lnk.sending = s.lnk.sending := by
  unfold State.latchChanges; dsimp only; split <;> rfl
@[simp] theorem State.latchChanges_lnk.rate (kinds : EventSet) (cs : List EventSet) (n : FrameNo) (p : Nat) :
    (s.latchChanges kinds cs n p).lnk.rate = s.lnk.rate := by
  unfold State.latchChanges; dsimp only; split <;> rfl
@[simp] theorem State.latchChanges_lnk.txen (kinds : EventSet) (cs : List EventSet) (n : FrameNo) (p : Nat) :
    (s.latchChanges kinds cs n p).lnk.txen = s.lnk.txen := by
  unfold State.latchChanges; dsimp only; split <;> rfl
@[simp] theorem State.latchChanges_lnk.rxLow (kinds : EventSet) (cs : List EventSet) (n : FrameNo) (p : Nat) :
    (s.latchChanges kinds cs n p).lnk.rxLow = s.lnk.rxLow := by
  unfold State.latchChanges; dsimp only; split <;> rfl
@[simp] theorem State.latchChanges_lnk.cut (kinds : EventSet) (cs : List EventSet) (n : FrameNo) (p : Nat) :
    (s.latchChanges kinds cs n p).lnk.cut = s.lnk.cut := by
  unfold State.latchChanges; dsimp only; split <;> rfl
@[simp] theorem State.latch_fields (kinds : EventSet) (n : FrameNo) :
    (s.latch kinds n).fields = s.fields := by simp [State.latch]
@[simp] theorem State.latch_pnt (kinds : EventSet) (n : FrameNo) :
    (s.latch kinds n).pnt = s.pnt := by simp [State.latch]
@[simp] theorem State.latch_scr (kinds : EventSet) (n : FrameNo) :
    (s.latch kinds n).scr = s.scr := by simp [State.latch]
@[simp] theorem State.latch_msg (kinds : EventSet) (n : FrameNo) :
    (s.latch kinds n).msg = s.msg := by simp [State.latch]
@[simp] theorem State.latch_resetCause (kinds : EventSet) (n : FrameNo) :
    (s.latch kinds n).resetCause = s.resetCause := by simp [State.latch]
@[simp] theorem State.latch_resetn (kinds : EventSet) (n : FrameNo) :
    (s.latch kinds n).resetn = s.resetn := by simp [State.latch]
@[simp] theorem State.latch_boundary (kinds : EventSet) (n : FrameNo) :
    (s.latch kinds n).boundary = s.boundary := by simp [State.latch]
@[simp] theorem State.latch_choices (kinds : EventSet) (n : FrameNo) :
    (s.latch kinds n).choices = s.choices := by simp [State.latch]
@[simp] theorem State.latch_pending (kinds : EventSet) (n : FrameNo) :
    (s.latch kinds n).pending = s.pending := by simp [State.latch]
@[simp] theorem State.latch_aeu.alertList (kinds : EventSet) (n : FrameNo) :
    (s.latch kinds n).aeu.alertList = s.aeu.alertList := by simp [State.latch]
@[simp] theorem State.latch_aeu.watchList (kinds : EventSet) (n : FrameNo) :
    (s.latch kinds n).aeu.watchList = s.aeu.watchList := by simp [State.latch]
@[simp] theorem State.latch_aeu.noticeMask (kinds : EventSet) (n : FrameNo) :
    (s.latch kinds n).aeu.noticeMask = s.aeu.noticeMask := by simp [State.latch]
@[simp] theorem State.latch_aeu.faultRecord (kinds : EventSet) (n : FrameNo) :
    (s.latch kinds n).aeu.faultRecord = s.aeu.faultRecord := by simp [State.latch]
@[simp] theorem State.latch_lnk.receiver (kinds : EventSet) (n : FrameNo) :
    (s.latch kinds n).lnk.receiver = s.lnk.receiver := by simp [State.latch]
@[simp] theorem State.latch_lnk.buffers (kinds : EventSet) (n : FrameNo) :
    (s.latch kinds n).lnk.buffers = s.lnk.buffers := by simp [State.latch]
@[simp] theorem State.latch_lnk.arrival (kinds : EventSet) (n : FrameNo) :
    (s.latch kinds n).lnk.arrival = s.lnk.arrival := by simp [State.latch]
@[simp] theorem State.latch_lnk.replies (kinds : EventSet) (n : FrameNo) :
    (s.latch kinds n).lnk.replies = s.lnk.replies := by simp [State.latch]
@[simp] theorem State.latch_lnk.sending (kinds : EventSet) (n : FrameNo) :
    (s.latch kinds n).lnk.sending = s.lnk.sending := by simp [State.latch]
@[simp] theorem State.latch_lnk.rate (kinds : EventSet) (n : FrameNo) :
    (s.latch kinds n).lnk.rate = s.lnk.rate := by simp [State.latch]
@[simp] theorem State.latch_lnk.txen (kinds : EventSet) (n : FrameNo) :
    (s.latch kinds n).lnk.txen = s.lnk.txen := by simp [State.latch]
@[simp] theorem State.latch_lnk.rxLow (kinds : EventSet) (n : FrameNo) :
    (s.latch kinds n).lnk.rxLow = s.lnk.rxLow := by simp [State.latch]
@[simp] theorem State.latch_lnk.cut (kinds : EventSet) (n : FrameNo) :
    (s.latch kinds n).lnk.cut = s.lnk.cut := by simp [State.latch]
@[simp] theorem State.latchLagRise_fields (before : State) (n : FrameNo) :
    (s.latchLagRise before n).fields = s.fields := by
  unfold State.latchLagRise; split <;> simp
@[simp] theorem State.latchLagRise_pnt (before : State) (n : FrameNo) :
    (s.latchLagRise before n).pnt = s.pnt := by
  unfold State.latchLagRise; split <;> simp
@[simp] theorem State.latchLagRise_scr (before : State) (n : FrameNo) :
    (s.latchLagRise before n).scr = s.scr := by
  unfold State.latchLagRise; split <;> simp
@[simp] theorem State.latchLagRise_msg (before : State) (n : FrameNo) :
    (s.latchLagRise before n).msg = s.msg := by
  unfold State.latchLagRise; split <;> simp
@[simp] theorem State.latchLagRise_resetCause (before : State) (n : FrameNo) :
    (s.latchLagRise before n).resetCause = s.resetCause := by
  unfold State.latchLagRise; split <;> simp
@[simp] theorem State.latchLagRise_resetn (before : State) (n : FrameNo) :
    (s.latchLagRise before n).resetn = s.resetn := by
  unfold State.latchLagRise; split <;> simp
@[simp] theorem State.latchLagRise_boundary (before : State) (n : FrameNo) :
    (s.latchLagRise before n).boundary = s.boundary := by
  unfold State.latchLagRise; split <;> simp
@[simp] theorem State.latchLagRise_choices (before : State) (n : FrameNo) :
    (s.latchLagRise before n).choices = s.choices := by
  unfold State.latchLagRise; split <;> simp
@[simp] theorem State.latchLagRise_pending (before : State) (n : FrameNo) :
    (s.latchLagRise before n).pending = s.pending := by
  unfold State.latchLagRise; split <;> simp
@[simp] theorem State.latchLagRise_aeu.alertList (before : State) (n : FrameNo) :
    (s.latchLagRise before n).aeu.alertList = s.aeu.alertList := by
  unfold State.latchLagRise; split <;> simp
@[simp] theorem State.latchLagRise_aeu.watchList (before : State) (n : FrameNo) :
    (s.latchLagRise before n).aeu.watchList = s.aeu.watchList := by
  unfold State.latchLagRise; split <;> simp
@[simp] theorem State.latchLagRise_aeu.noticeMask (before : State) (n : FrameNo) :
    (s.latchLagRise before n).aeu.noticeMask = s.aeu.noticeMask := by
  unfold State.latchLagRise; split <;> simp
@[simp] theorem State.latchLagRise_aeu.faultRecord (before : State) (n : FrameNo) :
    (s.latchLagRise before n).aeu.faultRecord = s.aeu.faultRecord := by
  unfold State.latchLagRise; split <;> simp
@[simp] theorem State.latchLagRise_lnk.receiver (before : State) (n : FrameNo) :
    (s.latchLagRise before n).lnk.receiver = s.lnk.receiver := by
  unfold State.latchLagRise; split <;> simp
@[simp] theorem State.latchLagRise_lnk.buffers (before : State) (n : FrameNo) :
    (s.latchLagRise before n).lnk.buffers = s.lnk.buffers := by
  unfold State.latchLagRise; split <;> simp
@[simp] theorem State.latchLagRise_lnk.arrival (before : State) (n : FrameNo) :
    (s.latchLagRise before n).lnk.arrival = s.lnk.arrival := by
  unfold State.latchLagRise; split <;> simp
@[simp] theorem State.latchLagRise_lnk.replies (before : State) (n : FrameNo) :
    (s.latchLagRise before n).lnk.replies = s.lnk.replies := by
  unfold State.latchLagRise; split <;> simp
@[simp] theorem State.latchLagRise_lnk.sending (before : State) (n : FrameNo) :
    (s.latchLagRise before n).lnk.sending = s.lnk.sending := by
  unfold State.latchLagRise; split <;> simp
@[simp] theorem State.latchLagRise_lnk.rate (before : State) (n : FrameNo) :
    (s.latchLagRise before n).lnk.rate = s.lnk.rate := by
  unfold State.latchLagRise; split <;> simp
@[simp] theorem State.latchLagRise_lnk.txen (before : State) (n : FrameNo) :
    (s.latchLagRise before n).lnk.txen = s.lnk.txen := by
  unfold State.latchLagRise; split <;> simp
@[simp] theorem State.latchLagRise_lnk.rxLow (before : State) (n : FrameNo) :
    (s.latchLagRise before n).lnk.rxLow = s.lnk.rxLow := by
  unfold State.latchLagRise; split <;> simp
@[simp] theorem State.latchLagRise_lnk.cut (before : State) (n : FrameNo) :
    (s.latchLagRise before n).lnk.cut = s.lnk.cut := by
  unfold State.latchLagRise; split <;> simp
@[simp] theorem State.latch_aeu.latched (kinds : EventSet) (n : FrameNo) :
    (s.latch kinds n).aeu.latched = s.aeu.latched ||| kinds := by simp [State.latch]
@[simp] theorem State.latchOpen_fields (groups : List (List EventSet)) (n : FrameNo) :
    (s.latchOpen groups n).fields = s.fields := by
  unfold State.latchOpen; dsimp only; split <;> simp
@[simp] theorem State.latchOpen_pnt (groups : List (List EventSet)) (n : FrameNo) :
    (s.latchOpen groups n).pnt = s.pnt := by
  unfold State.latchOpen; dsimp only; split <;> simp
@[simp] theorem State.latchOpen_scr (groups : List (List EventSet)) (n : FrameNo) :
    (s.latchOpen groups n).scr = s.scr := by
  unfold State.latchOpen; dsimp only; split <;> simp
@[simp] theorem State.latchOpen_msg (groups : List (List EventSet)) (n : FrameNo) :
    (s.latchOpen groups n).msg = s.msg := by
  unfold State.latchOpen; dsimp only; split <;> simp
@[simp] theorem State.latchOpen_resetCause (groups : List (List EventSet)) (n : FrameNo) :
    (s.latchOpen groups n).resetCause = s.resetCause := by
  unfold State.latchOpen; dsimp only; split <;> simp
@[simp] theorem State.latchOpen_resetn (groups : List (List EventSet)) (n : FrameNo) :
    (s.latchOpen groups n).resetn = s.resetn := by
  unfold State.latchOpen; dsimp only; split <;> simp
@[simp] theorem State.latchOpen_boundary (groups : List (List EventSet)) (n : FrameNo) :
    (s.latchOpen groups n).boundary = s.boundary := by
  unfold State.latchOpen; dsimp only; split <;> simp
@[simp] theorem State.latchOpen_pending (groups : List (List EventSet)) (n : FrameNo) :
    (s.latchOpen groups n).pending = s.pending := by
  unfold State.latchOpen; dsimp only; split <;> simp
@[simp] theorem State.latchOpen_aeu.alertList (groups : List (List EventSet)) (n : FrameNo) :
    (s.latchOpen groups n).aeu.alertList = s.aeu.alertList := by
  unfold State.latchOpen; dsimp only; split <;> simp
@[simp] theorem State.latchOpen_aeu.watchList (groups : List (List EventSet)) (n : FrameNo) :
    (s.latchOpen groups n).aeu.watchList = s.aeu.watchList := by
  unfold State.latchOpen; dsimp only; split <;> simp
@[simp] theorem State.latchOpen_aeu.noticeMask (groups : List (List EventSet)) (n : FrameNo) :
    (s.latchOpen groups n).aeu.noticeMask = s.aeu.noticeMask := by
  unfold State.latchOpen; dsimp only; split <;> simp
@[simp] theorem State.latchOpen_aeu.faultRecord (groups : List (List EventSet)) (n : FrameNo) :
    (s.latchOpen groups n).aeu.faultRecord = s.aeu.faultRecord := by
  unfold State.latchOpen; dsimp only; split <;> simp
@[simp] theorem State.latchOpen_lnk.receiver (groups : List (List EventSet)) (n : FrameNo) :
    (s.latchOpen groups n).lnk.receiver = s.lnk.receiver := by
  unfold State.latchOpen; dsimp only; split <;> simp
@[simp] theorem State.latchOpen_lnk.buffers (groups : List (List EventSet)) (n : FrameNo) :
    (s.latchOpen groups n).lnk.buffers = s.lnk.buffers := by
  unfold State.latchOpen; dsimp only; split <;> simp
@[simp] theorem State.latchOpen_lnk.arrival (groups : List (List EventSet)) (n : FrameNo) :
    (s.latchOpen groups n).lnk.arrival = s.lnk.arrival := by
  unfold State.latchOpen; dsimp only; split <;> simp
@[simp] theorem State.latchOpen_lnk.replies (groups : List (List EventSet)) (n : FrameNo) :
    (s.latchOpen groups n).lnk.replies = s.lnk.replies := by
  unfold State.latchOpen; dsimp only; split <;> simp
@[simp] theorem State.latchOpen_lnk.sending (groups : List (List EventSet)) (n : FrameNo) :
    (s.latchOpen groups n).lnk.sending = s.lnk.sending := by
  unfold State.latchOpen; dsimp only; split <;> simp
@[simp] theorem State.latchOpen_lnk.rate (groups : List (List EventSet)) (n : FrameNo) :
    (s.latchOpen groups n).lnk.rate = s.lnk.rate := by
  unfold State.latchOpen; dsimp only; split <;> simp
@[simp] theorem State.latchOpen_lnk.txen (groups : List (List EventSet)) (n : FrameNo) :
    (s.latchOpen groups n).lnk.txen = s.lnk.txen := by
  unfold State.latchOpen; dsimp only; split <;> simp
@[simp] theorem State.latchOpen_lnk.rxLow (groups : List (List EventSet)) (n : FrameNo) :
    (s.latchOpen groups n).lnk.rxLow = s.lnk.rxLow := by
  unfold State.latchOpen; dsimp only; split <;> simp

@[simp] theorem State.latchOpen_lnk.cut (groups : List (List EventSet)) (n : FrameNo) :
    (s.latchOpen groups n).lnk.cut = s.lnk.cut := by
  unfold State.latchOpen; dsimp only; split <;> simp

/-! ### The paint queue -/

@[simp] theorem State.enqueue_fields (n : Nat) (u : Bool) :
    (s.enqueue n u).fields = s.fields := by
  unfold State.enqueue; (repeat' split) <;> rfl
@[simp] theorem State.enqueue_scr (n : Nat) (u : Bool) :
    (s.enqueue n u).scr = s.scr := by
  unfold State.enqueue; (repeat' split) <;> rfl
@[simp] theorem State.enqueue_msg (n : Nat) (u : Bool) :
    (s.enqueue n u).msg = s.msg := by
  unfold State.enqueue; (repeat' split) <;> rfl
@[simp] theorem State.enqueue_aeu (n : Nat) (u : Bool) :
    (s.enqueue n u).aeu = s.aeu := by
  unfold State.enqueue; (repeat' split) <;> rfl
@[simp] theorem State.enqueue_lnk (n : Nat) (u : Bool) :
    (s.enqueue n u).lnk = s.lnk := by
  unfold State.enqueue; (repeat' split) <;> rfl
@[simp] theorem State.enqueue_resetCause (n : Nat) (u : Bool) :
    (s.enqueue n u).resetCause = s.resetCause := by
  unfold State.enqueue; (repeat' split) <;> rfl
@[simp] theorem State.enqueue_resetn (n : Nat) (u : Bool) :
    (s.enqueue n u).resetn = s.resetn := by
  unfold State.enqueue; (repeat' split) <;> rfl
@[simp] theorem State.enqueue_boundary (n : Nat) (u : Bool) :
    (s.enqueue n u).boundary = s.boundary := by
  unfold State.enqueue; (repeat' split) <;> rfl
@[simp] theorem State.enqueue_choices (n : Nat) (u : Bool) :
    (s.enqueue n u).choices = s.choices := by
  unfold State.enqueue; (repeat' split) <;> rfl
@[simp] theorem State.enqueue_pending (n : Nat) (u : Bool) :
    (s.enqueue n u).pending = s.pending := by
  unfold State.enqueue; (repeat' split) <;> rfl
@[simp] theorem State.enqueue_pnt.slots (n : Nat) (u : Bool) :
    (s.enqueue n u).pnt.slots = s.pnt.slots := by
  unfold State.enqueue; (repeat' split) <;> rfl
@[simp] theorem State.enqueue_pnt.ageLimit (n : Nat) (u : Bool) :
    (s.enqueue n u).pnt.ageLimit = s.pnt.ageLimit := by
  unfold State.enqueue; (repeat' split) <;> rfl
@[simp] theorem State.enqueue_pnt.lagThreshold (n : Nat) (u : Bool) :
    (s.enqueue n u).pnt.lagThreshold = s.pnt.lagThreshold := by
  unfold State.enqueue; (repeat' split) <;> rfl
@[simp] theorem State.enqueueAndLatch_fields (n : Nat) (u : Bool) (at_ : FrameNo) :
    (s.enqueueAndLatch n u at_).fields = s.fields := by simp [State.enqueueAndLatch]
@[simp] theorem State.enqueueAndLatch_scr (n : Nat) (u : Bool) (at_ : FrameNo) :
    (s.enqueueAndLatch n u at_).scr = s.scr := by simp [State.enqueueAndLatch]
@[simp] theorem State.enqueueAndLatch_msg (n : Nat) (u : Bool) (at_ : FrameNo) :
    (s.enqueueAndLatch n u at_).msg = s.msg := by simp [State.enqueueAndLatch]
@[simp] theorem State.enqueueAndLatch_resetCause (n : Nat) (u : Bool) (at_ : FrameNo) :
    (s.enqueueAndLatch n u at_).resetCause = s.resetCause := by simp [State.enqueueAndLatch]
@[simp] theorem State.enqueueAndLatch_resetn (n : Nat) (u : Bool) (at_ : FrameNo) :
    (s.enqueueAndLatch n u at_).resetn = s.resetn := by simp [State.enqueueAndLatch]
@[simp] theorem State.enqueueAndLatch_boundary (n : Nat) (u : Bool) (at_ : FrameNo) :
    (s.enqueueAndLatch n u at_).boundary = s.boundary := by simp [State.enqueueAndLatch]
@[simp] theorem State.enqueueAndLatch_choices (n : Nat) (u : Bool) (at_ : FrameNo) :
    (s.enqueueAndLatch n u at_).choices = s.choices := by simp [State.enqueueAndLatch]
@[simp] theorem State.enqueueAndLatch_pending (n : Nat) (u : Bool) (at_ : FrameNo) :
    (s.enqueueAndLatch n u at_).pending = s.pending := by simp [State.enqueueAndLatch]
@[simp] theorem State.enqueueAndLatch_aeu.alertList (n : Nat) (u : Bool) (at_ : FrameNo) :
    (s.enqueueAndLatch n u at_).aeu.alertList = s.aeu.alertList := by simp [State.enqueueAndLatch]
@[simp] theorem State.enqueueAndLatch_aeu.watchList (n : Nat) (u : Bool) (at_ : FrameNo) :
    (s.enqueueAndLatch n u at_).aeu.watchList = s.aeu.watchList := by simp [State.enqueueAndLatch]
@[simp] theorem State.enqueueAndLatch_aeu.noticeMask (n : Nat) (u : Bool) (at_ : FrameNo) :
    (s.enqueueAndLatch n u at_).aeu.noticeMask = s.aeu.noticeMask := by simp [State.enqueueAndLatch]
@[simp] theorem State.enqueueAndLatch_aeu.faultRecord (n : Nat) (u : Bool) (at_ : FrameNo) :
    (s.enqueueAndLatch n u at_).aeu.faultRecord = s.aeu.faultRecord := by simp [State.enqueueAndLatch]
@[simp] theorem State.enqueueAndLatch_lnk.receiver (n : Nat) (u : Bool) (at_ : FrameNo) :
    (s.enqueueAndLatch n u at_).lnk.receiver = s.lnk.receiver := by simp [State.enqueueAndLatch]
@[simp] theorem State.enqueueAndLatch_lnk.buffers (n : Nat) (u : Bool) (at_ : FrameNo) :
    (s.enqueueAndLatch n u at_).lnk.buffers = s.lnk.buffers := by simp [State.enqueueAndLatch]
@[simp] theorem State.enqueueAndLatch_lnk.arrival (n : Nat) (u : Bool) (at_ : FrameNo) :
    (s.enqueueAndLatch n u at_).lnk.arrival = s.lnk.arrival := by simp [State.enqueueAndLatch]
@[simp] theorem State.enqueueAndLatch_lnk.replies (n : Nat) (u : Bool) (at_ : FrameNo) :
    (s.enqueueAndLatch n u at_).lnk.replies = s.lnk.replies := by simp [State.enqueueAndLatch]
@[simp] theorem State.enqueueAndLatch_lnk.sending (n : Nat) (u : Bool) (at_ : FrameNo) :
    (s.enqueueAndLatch n u at_).lnk.sending = s.lnk.sending := by simp [State.enqueueAndLatch]
@[simp] theorem State.enqueueAndLatch_lnk.rate (n : Nat) (u : Bool) (at_ : FrameNo) :
    (s.enqueueAndLatch n u at_).lnk.rate = s.lnk.rate := by simp [State.enqueueAndLatch]
@[simp] theorem State.enqueueAndLatch_lnk.txen (n : Nat) (u : Bool) (at_ : FrameNo) :
    (s.enqueueAndLatch n u at_).lnk.txen = s.lnk.txen := by simp [State.enqueueAndLatch]
@[simp] theorem State.enqueueAndLatch_lnk.rxLow (n : Nat) (u : Bool) (at_ : FrameNo) :
    (s.enqueueAndLatch n u at_).lnk.rxLow = s.lnk.rxLow := by simp [State.enqueueAndLatch]
@[simp] theorem State.enqueueAndLatch_lnk.cut (n : Nat) (u : Bool) (at_ : FrameNo) :
    (s.enqueueAndLatch n u at_).lnk.cut = s.lnk.cut := by simp [State.enqueueAndLatch]
@[simp] theorem State.enqueueAndLatch_pnt.slots (n : Nat) (u : Bool) (at_ : FrameNo) :
    (s.enqueueAndLatch n u at_).pnt.slots = s.pnt.slots := by simp [State.enqueueAndLatch]
@[simp] theorem State.enqueueAndLatch_pnt.ageLimit (n : Nat) (u : Bool) (at_ : FrameNo) :
    (s.enqueueAndLatch n u at_).pnt.ageLimit = s.pnt.ageLimit := by simp [State.enqueueAndLatch]
@[simp] theorem State.enqueueAndLatch_pnt.lagThreshold (n : Nat) (u : Bool) (at_ : FrameNo) :
    (s.enqueueAndLatch n u at_).pnt.lagThreshold = s.pnt.lagThreshold := by simp [State.enqueueAndLatch]
@[simp] theorem State.removeEntry_fields (n : Nat) (at_ : FrameNo) :
    (s.removeEntry n at_).fields = s.fields := by
  unfold State.removeEntry; split <;> simp
@[simp] theorem State.removeEntry_scr (n : Nat) (at_ : FrameNo) :
    (s.removeEntry n at_).scr = s.scr := by
  unfold State.removeEntry; split <;> simp
@[simp] theorem State.removeEntry_msg (n : Nat) (at_ : FrameNo) :
    (s.removeEntry n at_).msg = s.msg := by
  unfold State.removeEntry; split <;> simp
@[simp] theorem State.removeEntry_resetCause (n : Nat) (at_ : FrameNo) :
    (s.removeEntry n at_).resetCause = s.resetCause := by
  unfold State.removeEntry; split <;> simp
@[simp] theorem State.removeEntry_resetn (n : Nat) (at_ : FrameNo) :
    (s.removeEntry n at_).resetn = s.resetn := by
  unfold State.removeEntry; split <;> simp
@[simp] theorem State.removeEntry_boundary (n : Nat) (at_ : FrameNo) :
    (s.removeEntry n at_).boundary = s.boundary := by
  unfold State.removeEntry; split <;> simp
@[simp] theorem State.removeEntry_choices (n : Nat) (at_ : FrameNo) :
    (s.removeEntry n at_).choices = s.choices := by
  unfold State.removeEntry; split <;> simp
@[simp] theorem State.removeEntry_pending (n : Nat) (at_ : FrameNo) :
    (s.removeEntry n at_).pending = s.pending := by
  unfold State.removeEntry; split <;> simp
@[simp] theorem State.removeEntry_aeu.alertList (n : Nat) (at_ : FrameNo) :
    (s.removeEntry n at_).aeu.alertList = s.aeu.alertList := by
  unfold State.removeEntry; split <;> simp
@[simp] theorem State.removeEntry_aeu.watchList (n : Nat) (at_ : FrameNo) :
    (s.removeEntry n at_).aeu.watchList = s.aeu.watchList := by
  unfold State.removeEntry; split <;> simp
@[simp] theorem State.removeEntry_aeu.noticeMask (n : Nat) (at_ : FrameNo) :
    (s.removeEntry n at_).aeu.noticeMask = s.aeu.noticeMask := by
  unfold State.removeEntry; split <;> simp
@[simp] theorem State.removeEntry_aeu.faultRecord (n : Nat) (at_ : FrameNo) :
    (s.removeEntry n at_).aeu.faultRecord = s.aeu.faultRecord := by
  unfold State.removeEntry; split <;> simp
@[simp] theorem State.removeEntry_lnk.receiver (n : Nat) (at_ : FrameNo) :
    (s.removeEntry n at_).lnk.receiver = s.lnk.receiver := by
  unfold State.removeEntry; split <;> simp
@[simp] theorem State.removeEntry_lnk.buffers (n : Nat) (at_ : FrameNo) :
    (s.removeEntry n at_).lnk.buffers = s.lnk.buffers := by
  unfold State.removeEntry; split <;> simp
@[simp] theorem State.removeEntry_lnk.arrival (n : Nat) (at_ : FrameNo) :
    (s.removeEntry n at_).lnk.arrival = s.lnk.arrival := by
  unfold State.removeEntry; split <;> simp
@[simp] theorem State.removeEntry_lnk.replies (n : Nat) (at_ : FrameNo) :
    (s.removeEntry n at_).lnk.replies = s.lnk.replies := by
  unfold State.removeEntry; split <;> simp
@[simp] theorem State.removeEntry_lnk.sending (n : Nat) (at_ : FrameNo) :
    (s.removeEntry n at_).lnk.sending = s.lnk.sending := by
  unfold State.removeEntry; split <;> simp
@[simp] theorem State.removeEntry_lnk.rate (n : Nat) (at_ : FrameNo) :
    (s.removeEntry n at_).lnk.rate = s.lnk.rate := by
  unfold State.removeEntry; split <;> simp
@[simp] theorem State.removeEntry_lnk.txen (n : Nat) (at_ : FrameNo) :
    (s.removeEntry n at_).lnk.txen = s.lnk.txen := by
  unfold State.removeEntry; split <;> simp
@[simp] theorem State.removeEntry_lnk.rxLow (n : Nat) (at_ : FrameNo) :
    (s.removeEntry n at_).lnk.rxLow = s.lnk.rxLow := by
  unfold State.removeEntry; split <;> simp
@[simp] theorem State.removeEntry_lnk.cut (n : Nat) (at_ : FrameNo) :
    (s.removeEntry n at_).lnk.cut = s.lnk.cut := by
  unfold State.removeEntry; split <;> simp
@[simp] theorem State.removeEntry_pnt.slots (n : Nat) (at_ : FrameNo) :
    (s.removeEntry n at_).pnt.slots = s.pnt.slots := by
  unfold State.removeEntry; split <;> simp
@[simp] theorem State.removeEntry_pnt.ageLimit (n : Nat) (at_ : FrameNo) :
    (s.removeEntry n at_).pnt.ageLimit = s.pnt.ageLimit := by
  unfold State.removeEntry; split <;> simp
@[simp] theorem State.removeEntry_pnt.lagThreshold (n : Nat) (at_ : FrameNo) :
    (s.removeEntry n at_).pnt.lagThreshold = s.pnt.lagThreshold := by
  unfold State.removeEntry; split <;> simp
@[simp] theorem State.removeEntries_fields (at_ : FrameNo) (l : List Nat) :
    (s.removeEntries at_ l).fields = s.fields := by
  induction l generalizing s with
  | nil => rfl
  | cons n rest ih => simp [State.removeEntries, ih]
@[simp] theorem State.removeEntries_scr (at_ : FrameNo) (l : List Nat) :
    (s.removeEntries at_ l).scr = s.scr := by
  induction l generalizing s with
  | nil => rfl
  | cons n rest ih => simp [State.removeEntries, ih]
@[simp] theorem State.removeEntries_msg (at_ : FrameNo) (l : List Nat) :
    (s.removeEntries at_ l).msg = s.msg := by
  induction l generalizing s with
  | nil => rfl
  | cons n rest ih => simp [State.removeEntries, ih]
@[simp] theorem State.removeEntries_resetCause (at_ : FrameNo) (l : List Nat) :
    (s.removeEntries at_ l).resetCause = s.resetCause := by
  induction l generalizing s with
  | nil => rfl
  | cons n rest ih => simp [State.removeEntries, ih]
@[simp] theorem State.removeEntries_resetn (at_ : FrameNo) (l : List Nat) :
    (s.removeEntries at_ l).resetn = s.resetn := by
  induction l generalizing s with
  | nil => rfl
  | cons n rest ih => simp [State.removeEntries, ih]
@[simp] theorem State.removeEntries_boundary (at_ : FrameNo) (l : List Nat) :
    (s.removeEntries at_ l).boundary = s.boundary := by
  induction l generalizing s with
  | nil => rfl
  | cons n rest ih => simp [State.removeEntries, ih]
@[simp] theorem State.removeEntries_choices (at_ : FrameNo) (l : List Nat) :
    (s.removeEntries at_ l).choices = s.choices := by
  induction l generalizing s with
  | nil => rfl
  | cons n rest ih => simp [State.removeEntries, ih]
@[simp] theorem State.removeEntries_pending (at_ : FrameNo) (l : List Nat) :
    (s.removeEntries at_ l).pending = s.pending := by
  induction l generalizing s with
  | nil => rfl
  | cons n rest ih => simp [State.removeEntries, ih]
@[simp] theorem State.removeEntries_aeu.alertList (at_ : FrameNo) (l : List Nat) :
    (s.removeEntries at_ l).aeu.alertList = s.aeu.alertList := by
  induction l generalizing s with
  | nil => rfl
  | cons n rest ih => simp [State.removeEntries, ih]
@[simp] theorem State.removeEntries_aeu.watchList (at_ : FrameNo) (l : List Nat) :
    (s.removeEntries at_ l).aeu.watchList = s.aeu.watchList := by
  induction l generalizing s with
  | nil => rfl
  | cons n rest ih => simp [State.removeEntries, ih]
@[simp] theorem State.removeEntries_aeu.noticeMask (at_ : FrameNo) (l : List Nat) :
    (s.removeEntries at_ l).aeu.noticeMask = s.aeu.noticeMask := by
  induction l generalizing s with
  | nil => rfl
  | cons n rest ih => simp [State.removeEntries, ih]
@[simp] theorem State.removeEntries_aeu.faultRecord (at_ : FrameNo) (l : List Nat) :
    (s.removeEntries at_ l).aeu.faultRecord = s.aeu.faultRecord := by
  induction l generalizing s with
  | nil => rfl
  | cons n rest ih => simp [State.removeEntries, ih]
@[simp] theorem State.removeEntries_lnk.receiver (at_ : FrameNo) (l : List Nat) :
    (s.removeEntries at_ l).lnk.receiver = s.lnk.receiver := by
  induction l generalizing s with
  | nil => rfl
  | cons n rest ih => simp [State.removeEntries, ih]
@[simp] theorem State.removeEntries_lnk.buffers (at_ : FrameNo) (l : List Nat) :
    (s.removeEntries at_ l).lnk.buffers = s.lnk.buffers := by
  induction l generalizing s with
  | nil => rfl
  | cons n rest ih => simp [State.removeEntries, ih]
@[simp] theorem State.removeEntries_lnk.arrival (at_ : FrameNo) (l : List Nat) :
    (s.removeEntries at_ l).lnk.arrival = s.lnk.arrival := by
  induction l generalizing s with
  | nil => rfl
  | cons n rest ih => simp [State.removeEntries, ih]
@[simp] theorem State.removeEntries_lnk.replies (at_ : FrameNo) (l : List Nat) :
    (s.removeEntries at_ l).lnk.replies = s.lnk.replies := by
  induction l generalizing s with
  | nil => rfl
  | cons n rest ih => simp [State.removeEntries, ih]
@[simp] theorem State.removeEntries_lnk.sending (at_ : FrameNo) (l : List Nat) :
    (s.removeEntries at_ l).lnk.sending = s.lnk.sending := by
  induction l generalizing s with
  | nil => rfl
  | cons n rest ih => simp [State.removeEntries, ih]
@[simp] theorem State.removeEntries_lnk.rate (at_ : FrameNo) (l : List Nat) :
    (s.removeEntries at_ l).lnk.rate = s.lnk.rate := by
  induction l generalizing s with
  | nil => rfl
  | cons n rest ih => simp [State.removeEntries, ih]
@[simp] theorem State.removeEntries_lnk.txen (at_ : FrameNo) (l : List Nat) :
    (s.removeEntries at_ l).lnk.txen = s.lnk.txen := by
  induction l generalizing s with
  | nil => rfl
  | cons n rest ih => simp [State.removeEntries, ih]
@[simp] theorem State.removeEntries_lnk.rxLow (at_ : FrameNo) (l : List Nat) :
    (s.removeEntries at_ l).lnk.rxLow = s.lnk.rxLow := by
  induction l generalizing s with
  | nil => rfl
  | cons n rest ih => simp [State.removeEntries, ih]
@[simp] theorem State.removeEntries_lnk.cut (at_ : FrameNo) (l : List Nat) :
    (s.removeEntries at_ l).lnk.cut = s.lnk.cut := by
  induction l generalizing s with
  | nil => rfl
  | cons n rest ih => simp [State.removeEntries, ih]
@[simp] theorem State.removeEntries_pnt.slots (at_ : FrameNo) (l : List Nat) :
    (s.removeEntries at_ l).pnt.slots = s.pnt.slots := by
  induction l generalizing s with
  | nil => rfl
  | cons n rest ih => simp [State.removeEntries, ih]
@[simp] theorem State.removeEntries_pnt.ageLimit (at_ : FrameNo) (l : List Nat) :
    (s.removeEntries at_ l).pnt.ageLimit = s.pnt.ageLimit := by
  induction l generalizing s with
  | nil => rfl
  | cons n rest ih => simp [State.removeEntries, ih]
@[simp] theorem State.removeEntries_pnt.lagThreshold (at_ : FrameNo) (l : List Nat) :
    (s.removeEntries at_ l).pnt.lagThreshold = s.pnt.lagThreshold := by
  induction l generalizing s with
  | nil => rfl
  | cons n rest ih => simp [State.removeEntries, ih]
@[simp] theorem State.enqueueAtBoundary_fields (n : Nat) (u : Bool) :
    (s.enqueueAtBoundary n u).fields = s.fields := by
  unfold State.enqueueAtBoundary; dsimp only; split <;> simp
@[simp] theorem State.enqueueAtBoundary_scr (n : Nat) (u : Bool) :
    (s.enqueueAtBoundary n u).scr = s.scr := by
  unfold State.enqueueAtBoundary; dsimp only; split <;> simp
@[simp] theorem State.enqueueAtBoundary_msg (n : Nat) (u : Bool) :
    (s.enqueueAtBoundary n u).msg = s.msg := by
  unfold State.enqueueAtBoundary; dsimp only; split <;> simp
@[simp] theorem State.enqueueAtBoundary_resetCause (n : Nat) (u : Bool) :
    (s.enqueueAtBoundary n u).resetCause = s.resetCause := by
  unfold State.enqueueAtBoundary; dsimp only; split <;> simp
@[simp] theorem State.enqueueAtBoundary_resetn (n : Nat) (u : Bool) :
    (s.enqueueAtBoundary n u).resetn = s.resetn := by
  unfold State.enqueueAtBoundary; dsimp only; split <;> simp
@[simp] theorem State.enqueueAtBoundary_choices (n : Nat) (u : Bool) :
    (s.enqueueAtBoundary n u).choices = s.choices := by
  unfold State.enqueueAtBoundary; dsimp only; split <;> simp
@[simp] theorem State.enqueueAtBoundary_pending (n : Nat) (u : Bool) :
    (s.enqueueAtBoundary n u).pending = s.pending := by
  unfold State.enqueueAtBoundary; dsimp only; split <;> simp
@[simp] theorem State.enqueueAtBoundary_aeu.alertList (n : Nat) (u : Bool) :
    (s.enqueueAtBoundary n u).aeu.alertList = s.aeu.alertList := by
  unfold State.enqueueAtBoundary; dsimp only; split <;> simp
@[simp] theorem State.enqueueAtBoundary_aeu.watchList (n : Nat) (u : Bool) :
    (s.enqueueAtBoundary n u).aeu.watchList = s.aeu.watchList := by
  unfold State.enqueueAtBoundary; dsimp only; split <;> simp
@[simp] theorem State.enqueueAtBoundary_aeu.noticeMask (n : Nat) (u : Bool) :
    (s.enqueueAtBoundary n u).aeu.noticeMask = s.aeu.noticeMask := by
  unfold State.enqueueAtBoundary; dsimp only; split <;> simp
@[simp] theorem State.enqueueAtBoundary_aeu.faultRecord (n : Nat) (u : Bool) :
    (s.enqueueAtBoundary n u).aeu.faultRecord = s.aeu.faultRecord := by
  unfold State.enqueueAtBoundary; dsimp only; split <;> simp
@[simp] theorem State.enqueueAtBoundary_lnk.receiver (n : Nat) (u : Bool) :
    (s.enqueueAtBoundary n u).lnk.receiver = s.lnk.receiver := by
  unfold State.enqueueAtBoundary; dsimp only; split <;> simp
@[simp] theorem State.enqueueAtBoundary_lnk.buffers (n : Nat) (u : Bool) :
    (s.enqueueAtBoundary n u).lnk.buffers = s.lnk.buffers := by
  unfold State.enqueueAtBoundary; dsimp only; split <;> simp
@[simp] theorem State.enqueueAtBoundary_lnk.arrival (n : Nat) (u : Bool) :
    (s.enqueueAtBoundary n u).lnk.arrival = s.lnk.arrival := by
  unfold State.enqueueAtBoundary; dsimp only; split <;> simp
@[simp] theorem State.enqueueAtBoundary_lnk.replies (n : Nat) (u : Bool) :
    (s.enqueueAtBoundary n u).lnk.replies = s.lnk.replies := by
  unfold State.enqueueAtBoundary; dsimp only; split <;> simp
@[simp] theorem State.enqueueAtBoundary_lnk.sending (n : Nat) (u : Bool) :
    (s.enqueueAtBoundary n u).lnk.sending = s.lnk.sending := by
  unfold State.enqueueAtBoundary; dsimp only; split <;> simp
@[simp] theorem State.enqueueAtBoundary_lnk.rate (n : Nat) (u : Bool) :
    (s.enqueueAtBoundary n u).lnk.rate = s.lnk.rate := by
  unfold State.enqueueAtBoundary; dsimp only; split <;> simp
@[simp] theorem State.enqueueAtBoundary_lnk.txen (n : Nat) (u : Bool) :
    (s.enqueueAtBoundary n u).lnk.txen = s.lnk.txen := by
  unfold State.enqueueAtBoundary; dsimp only; split <;> simp
@[simp] theorem State.enqueueAtBoundary_lnk.rxLow (n : Nat) (u : Bool) :
    (s.enqueueAtBoundary n u).lnk.rxLow = s.lnk.rxLow := by
  unfold State.enqueueAtBoundary; dsimp only; split <;> simp
@[simp] theorem State.enqueueAtBoundary_lnk.cut (n : Nat) (u : Bool) :
    (s.enqueueAtBoundary n u).lnk.cut = s.lnk.cut := by
  unfold State.enqueueAtBoundary; dsimp only; split <;> simp
@[simp] theorem State.enqueueAtBoundary_pnt.slots (n : Nat) (u : Bool) :
    (s.enqueueAtBoundary n u).pnt.slots = s.pnt.slots := by
  unfold State.enqueueAtBoundary; dsimp only; split <;> simp
@[simp] theorem State.enqueueAtBoundary_pnt.ageLimit (n : Nat) (u : Bool) :
    (s.enqueueAtBoundary n u).pnt.ageLimit = s.pnt.ageLimit := by
  unfold State.enqueueAtBoundary; dsimp only; split <;> simp
@[simp] theorem State.enqueueAtBoundary_pnt.lagThreshold (n : Nat) (u : Bool) :
    (s.enqueueAtBoundary n u).pnt.lagThreshold = s.pnt.lagThreshold := by
  unfold State.enqueueAtBoundary; dsimp only; split <;> simp
@[simp] theorem State.enqueueAtBoundary_aeu (n : Nat) (u : Bool) :
    (s.enqueueAtBoundary n u).aeu = s.aeu := by
  unfold State.enqueueAtBoundary; dsimp only; split <;> simp
@[simp] theorem State.enqueueAtBoundary_lnk (n : Nat) (u : Bool) :
    (s.enqueueAtBoundary n u).lnk = s.lnk := by
  unfold State.enqueueAtBoundary; dsimp only; split <;> simp
@[simp] theorem State.enqueueAllAtBoundary_fields (at_ : FrameNo) (l : List Nat) :
    (s.enqueueAllAtBoundary at_ l).fields = s.fields := by
  induction l generalizing s with
  | nil => rfl
  | cons n rest ih => simp [State.enqueueAllAtBoundary, ih]
@[simp] theorem State.enqueueAllAtBoundary_scr (at_ : FrameNo) (l : List Nat) :
    (s.enqueueAllAtBoundary at_ l).scr = s.scr := by
  induction l generalizing s with
  | nil => rfl
  | cons n rest ih => simp [State.enqueueAllAtBoundary, ih]
@[simp] theorem State.enqueueAllAtBoundary_msg (at_ : FrameNo) (l : List Nat) :
    (s.enqueueAllAtBoundary at_ l).msg = s.msg := by
  induction l generalizing s with
  | nil => rfl
  | cons n rest ih => simp [State.enqueueAllAtBoundary, ih]
@[simp] theorem State.enqueueAllAtBoundary_resetCause (at_ : FrameNo) (l : List Nat) :
    (s.enqueueAllAtBoundary at_ l).resetCause = s.resetCause := by
  induction l generalizing s with
  | nil => rfl
  | cons n rest ih => simp [State.enqueueAllAtBoundary, ih]
@[simp] theorem State.enqueueAllAtBoundary_resetn (at_ : FrameNo) (l : List Nat) :
    (s.enqueueAllAtBoundary at_ l).resetn = s.resetn := by
  induction l generalizing s with
  | nil => rfl
  | cons n rest ih => simp [State.enqueueAllAtBoundary, ih]
@[simp] theorem State.enqueueAllAtBoundary_choices (at_ : FrameNo) (l : List Nat) :
    (s.enqueueAllAtBoundary at_ l).choices = s.choices := by
  induction l generalizing s with
  | nil => rfl
  | cons n rest ih => simp [State.enqueueAllAtBoundary, ih]
@[simp] theorem State.enqueueAllAtBoundary_pending (at_ : FrameNo) (l : List Nat) :
    (s.enqueueAllAtBoundary at_ l).pending = s.pending := by
  induction l generalizing s with
  | nil => rfl
  | cons n rest ih => simp [State.enqueueAllAtBoundary, ih]
@[simp] theorem State.enqueueAllAtBoundary_aeu.alertList (at_ : FrameNo) (l : List Nat) :
    (s.enqueueAllAtBoundary at_ l).aeu.alertList = s.aeu.alertList := by
  induction l generalizing s with
  | nil => rfl
  | cons n rest ih => simp [State.enqueueAllAtBoundary, ih]
@[simp] theorem State.enqueueAllAtBoundary_aeu.watchList (at_ : FrameNo) (l : List Nat) :
    (s.enqueueAllAtBoundary at_ l).aeu.watchList = s.aeu.watchList := by
  induction l generalizing s with
  | nil => rfl
  | cons n rest ih => simp [State.enqueueAllAtBoundary, ih]
@[simp] theorem State.enqueueAllAtBoundary_aeu.noticeMask (at_ : FrameNo) (l : List Nat) :
    (s.enqueueAllAtBoundary at_ l).aeu.noticeMask = s.aeu.noticeMask := by
  induction l generalizing s with
  | nil => rfl
  | cons n rest ih => simp [State.enqueueAllAtBoundary, ih]
@[simp] theorem State.enqueueAllAtBoundary_aeu.faultRecord (at_ : FrameNo) (l : List Nat) :
    (s.enqueueAllAtBoundary at_ l).aeu.faultRecord = s.aeu.faultRecord := by
  induction l generalizing s with
  | nil => rfl
  | cons n rest ih => simp [State.enqueueAllAtBoundary, ih]
@[simp] theorem State.enqueueAllAtBoundary_lnk.receiver (at_ : FrameNo) (l : List Nat) :
    (s.enqueueAllAtBoundary at_ l).lnk.receiver = s.lnk.receiver := by
  induction l generalizing s with
  | nil => rfl
  | cons n rest ih => simp [State.enqueueAllAtBoundary, ih]
@[simp] theorem State.enqueueAllAtBoundary_lnk.buffers (at_ : FrameNo) (l : List Nat) :
    (s.enqueueAllAtBoundary at_ l).lnk.buffers = s.lnk.buffers := by
  induction l generalizing s with
  | nil => rfl
  | cons n rest ih => simp [State.enqueueAllAtBoundary, ih]
@[simp] theorem State.enqueueAllAtBoundary_lnk.arrival (at_ : FrameNo) (l : List Nat) :
    (s.enqueueAllAtBoundary at_ l).lnk.arrival = s.lnk.arrival := by
  induction l generalizing s with
  | nil => rfl
  | cons n rest ih => simp [State.enqueueAllAtBoundary, ih]
@[simp] theorem State.enqueueAllAtBoundary_lnk.replies (at_ : FrameNo) (l : List Nat) :
    (s.enqueueAllAtBoundary at_ l).lnk.replies = s.lnk.replies := by
  induction l generalizing s with
  | nil => rfl
  | cons n rest ih => simp [State.enqueueAllAtBoundary, ih]
@[simp] theorem State.enqueueAllAtBoundary_lnk.sending (at_ : FrameNo) (l : List Nat) :
    (s.enqueueAllAtBoundary at_ l).lnk.sending = s.lnk.sending := by
  induction l generalizing s with
  | nil => rfl
  | cons n rest ih => simp [State.enqueueAllAtBoundary, ih]
@[simp] theorem State.enqueueAllAtBoundary_lnk.rate (at_ : FrameNo) (l : List Nat) :
    (s.enqueueAllAtBoundary at_ l).lnk.rate = s.lnk.rate := by
  induction l generalizing s with
  | nil => rfl
  | cons n rest ih => simp [State.enqueueAllAtBoundary, ih]
@[simp] theorem State.enqueueAllAtBoundary_lnk.txen (at_ : FrameNo) (l : List Nat) :
    (s.enqueueAllAtBoundary at_ l).lnk.txen = s.lnk.txen := by
  induction l generalizing s with
  | nil => rfl
  | cons n rest ih => simp [State.enqueueAllAtBoundary, ih]
@[simp] theorem State.enqueueAllAtBoundary_lnk.rxLow (at_ : FrameNo) (l : List Nat) :
    (s.enqueueAllAtBoundary at_ l).lnk.rxLow = s.lnk.rxLow := by
  induction l generalizing s with
  | nil => rfl
  | cons n rest ih => simp [State.enqueueAllAtBoundary, ih]
@[simp] theorem State.enqueueAllAtBoundary_lnk.cut (at_ : FrameNo) (l : List Nat) :
    (s.enqueueAllAtBoundary at_ l).lnk.cut = s.lnk.cut := by
  induction l generalizing s with
  | nil => rfl
  | cons n rest ih => simp [State.enqueueAllAtBoundary, ih]
@[simp] theorem State.enqueueAllAtBoundary_pnt.slots (at_ : FrameNo) (l : List Nat) :
    (s.enqueueAllAtBoundary at_ l).pnt.slots = s.pnt.slots := by
  induction l generalizing s with
  | nil => rfl
  | cons n rest ih => simp [State.enqueueAllAtBoundary, ih]
@[simp] theorem State.enqueueAllAtBoundary_pnt.ageLimit (at_ : FrameNo) (l : List Nat) :
    (s.enqueueAllAtBoundary at_ l).pnt.ageLimit = s.pnt.ageLimit := by
  induction l generalizing s with
  | nil => rfl
  | cons n rest ih => simp [State.enqueueAllAtBoundary, ih]
@[simp] theorem State.enqueueAllAtBoundary_pnt.lagThreshold (at_ : FrameNo) (l : List Nat) :
    (s.enqueueAllAtBoundary at_ l).pnt.lagThreshold = s.pnt.lagThreshold := by
  induction l generalizing s with
  | nil => rfl
  | cons n rest ih => simp [State.enqueueAllAtBoundary, ih]

/-! ### Opening a boundary -/

@[simp] theorem State.openBoundary_fields :
    (s.openBoundary).fields = s.fields := by
  unfold State.openBoundary; split <;> rfl
@[simp] theorem State.openBoundary_pnt :
    (s.openBoundary).pnt = s.pnt := by
  unfold State.openBoundary; split <;> rfl
@[simp] theorem State.openBoundary_scr :
    (s.openBoundary).scr = s.scr := by
  unfold State.openBoundary; split <;> rfl
@[simp] theorem State.openBoundary_msg :
    (s.openBoundary).msg = s.msg := by
  unfold State.openBoundary; split <;> rfl
@[simp] theorem State.openBoundary_aeu :
    (s.openBoundary).aeu = s.aeu := by
  unfold State.openBoundary; split <;> rfl
@[simp] theorem State.openBoundary_lnk :
    (s.openBoundary).lnk = s.lnk := by
  unfold State.openBoundary; split <;> rfl
@[simp] theorem State.openBoundary_resetCause :
    (s.openBoundary).resetCause = s.resetCause := by
  unfold State.openBoundary; split <;> rfl
@[simp] theorem State.openBoundary_resetn :
    (s.openBoundary).resetn = s.resetn := by
  unfold State.openBoundary; split <;> rfl
@[simp] theorem State.openBoundary_choices :
    (s.openBoundary).choices = s.choices := by
  unfold State.openBoundary; split <;> rfl
@[simp] theorem State.openBoundary_pending :
    (s.openBoundary).pending = s.pending := by
  unfold State.openBoundary; split <;> rfl

end Sys2Proof.Machine
end

