-- ==== Sys2Proof/Laws/Ops.lean ====
section
/-! SUPPORT. One lemma per shared operation that says everything it can do: the take, the reply, the refusal, the latch, the
enqueue. -/

namespace Sys2Proof.Machine

variable {s : State}

/-! ### The take (R168) -/

theorem State.settle_of_none (h : s.boundary = none) : s.settle = s := by
  unfold State.settle; rw [h]

/-- A request that is ready is taken, and acts on the state after the take. -/
theorem State.takeThen_of_ready {c : Instr} {f : Frame} (act : State → State) (h : s.ready c = true)
    (hf : c.frame? = some f) : s.takeThen c act = .next (act (s.take f)) := by
  simp only [State.ready, hf, Bool.and_eq_true, Option.isNone_iff_eq_none] at h
  simp [State.takeThen, hf, State.settle_of_none h.1, h.2]

/-- Whatever a request does, it answers a next state: the act on the state after the take, or the state itself. -/
theorem State.takeThen_cases (s : State) (c : Instr) (act : State → State) :
    s.takeThen c act = .next s ∨
      ∃ f, c.frame? = some f ∧ s.settle.canTake f = true ∧ s.takeThen c act = .next (act (s.settle.take f)) := by
  unfold State.takeThen
  cases hf : c.frame? with
  | none => exact .inl rfl
  | some f =>
    by_cases hc : s.settle.canTake f = true
    · exact .inr ⟨f, rfl, hc, by simp [hc]⟩
    · exact .inl (by simp [hc])

/-! ### What arrives on RXD (R162, R164) -/

/-- A byte's character carries that byte, whatever its stop bit. -/
@[simp] theorem characterOf_data (b : Byte) (stop : Bool) : (characterOf b stop).data = b := by
  have h : ∀ b : Byte, (characterOf b false).data = b := by decide +kernel
  exact h b

@[simp] theorem State.receiveByte_rxLow (s : State) (b : Byte) : (s.receiveByte b).lnk.rxLow = s.lnk.rxLow := by
  have store : ∀ (l : Link) buffer, (l.storeByte buffer b).rxLow = l.rxLow := by
    intro l buffer; unfold Link.storeByte; split <;> try rfl
    split <;> rfl
  have drop : ∀ (l : Link) buffer, (l.dropBuffer buffer).rxLow = l.rxLow := by
    intro l buffer; unfold Link.dropBuffer; split <;> rfl
  have hold : ∀ (l : Link) buffer, (l.holdFrame buffer).rxLow = l.rxLow := by
    intro l buffer; unfold Link.holdFrame; split <;> try rfl
    split <;> try rfl
    split <;> rfl
  unfold State.receiveByte
  split
  · split
    · split <;> simp [State.latchLine]
    · rfl
  · split <;> simp [State.latchLine, store, drop]
  · split <;> simp [store, hold]

/-- While no break holds RXD low, a run of characters is received as its bytes, whatever the stop bits. -/
theorem State.receiveSignals_characters (s : State) (h : s.lnk.rxLow = false) (run : List (Byte × Bool)) :
    s.receiveSignals (run.map fun p => .character (characterOf p.1 p.2)) = run.foldl (fun t p => t.receiveByte p.1) s := by
  induction run generalizing s with
  | nil => rfl
  | cons p rest ih =>
    have k : s.receiveSignal (.character (characterOf p.1 p.2)) = s.receiveByte p.1 := by
      simp [State.receiveSignal, h]
    simp only [List.map_cons, List.foldl_cons, State.receiveSignals, k]
    exact ih _ (by simpa using h)

/-- While a break holds RXD low, no character and no second break is taken. -/
theorem State.receiveSignal_low (s : State) (h : s.lnk.rxLow = true) (c : Character) :
    s.receiveSignal (.character c) = s ∧ s.receiveSignal .heldLow = s := by
  simp [State.receiveSignal, h]

/-- What R168 asks of the state. -/
theorem State.canTake_iff (s : State) (f : Frame) :
    s.canTake f = true ↔ s.resetCause = none ∧ s.msg.inHand = none ∧ s.entriesUsed < 8 ∧
      (match s.lnk.arrival with
        | [] => s.lnk.receiver = .hunting ∧ s.lnk.rxLow = false
        | k :: _ => Store.find? k s.lnk.buffers = some (.held f)) := by
  unfold State.canTake
  have h : replyCapacity = 8 := rfl
  cases s.lnk.arrival <;> simp [and_assoc, h]

theorem State.ready_iff {c : Instr} {f : Frame} (hf : c.frame? = some f) :
    s.ready c = true ↔ s.boundary = none ∧ s.canTake f = true := by
  simp [State.ready, hf]

theorem State.ready_inHand {c : Instr} (h : s.ready c = true) : s.msg.inHand = none := by
  unfold State.ready at h
  split at h
  · simp only [Bool.and_eq_true] at h; exact ((State.canTake_iff _ _).1 h.2).2.1
  · simp at h

@[simp] theorem State.take_receiver (f : Frame) : (s.take f).lnk.receiver = s.lnk.receiver := by
  unfold State.take; dsimp only; split <;> rfl

@[simp] theorem State.take_replies (f : Frame) : (s.take f).lnk.replies = s.lnk.replies := by
  unfold State.take; dsimp only; split <;> rfl

@[simp] theorem State.take_notice (f : Frame) : (s.take f).lnk.notice = s.lnk.notice := by
  unfold State.take; dsimp only; split <;> rfl

/-- The take leaves the line as `lineAfterTake` says. -/
theorem State.take_line (f : Frame) : s.lineAfterTake (s.take f) := by
  unfold State.lineAfterTake State.take
  cases h : s.lnk.arrival <;> simp [h]

theorem State.take_outside (f : Frame) : s.outsideBlocks (s.take f) := ⟨rfl, rfl, rfl, rfl⟩

@[simp] theorem State.take_now (f : Frame) : (s.take f).now = s.now := rfl

@[simp] theorem State.take_field? (f : Frame) (n : Nat) : (s.take f).field? n = s.field? n := rfl

@[simp] theorem State.take_shows (f : Frame) (g : Field) : (s.take f).shows g = s.shows g := rfl

/-! ### The reply -/

theorem State.answer_of_inHand {f : Frame} (payload : List Byte) (h : s.msg.inHand = some f) :
    s.answer payload =
      { s with
        msg := { s.msg with inHand := none }
        lnk := { s.lnk with replies := s.lnk.replies ++ [⟨f.type + 0x80, f.tag, payload, s.lnk.placings⟩],
                            placings := s.lnk.placings + 1 } } := by
  simp [State.answer, h, State.fillReply]

/-- From a take to an immediate reply: where the act between leaves MSG, the line and the model's queue as the take left them,
the whole is `answered`. -/
theorem State.answered_of {t : State} {c : Instr} {f : Frame} (payload : List Byte) (h : s.ready c = true)
    (hm : t.msg = (s.take f).msg) (hr : t.lnk.replies = s.lnk.replies) (hl : s.lineAfterTake t)
    (ho : s.outsideBlocks t) : s.answered (t.answer payload) (f.type + 0x80) f.tag payload := by
  have hi : t.msg.inHand = some f := by rw [hm]; rfl
  have hn := State.ready_inHand h
  rw [State.answer_of_inHand payload hi]
  refine ⟨⟨t.lnk.placings, by simp [hr]⟩, ?_, hl, ho⟩
  rw [hm]
  cases hs : s.msg with
  | mk a b d => simp_all

/-! ### The latch (R152, R153) -/

/-- One change of the latched set, with nothing else of AEU or the notice slot touched. -/
theorem State.latchChanges_once (kinds : EventSet) (n : FrameNo) (placed : Nat) :
    s.latchedOnce (s.latchChanges kinds [kinds] n placed) kinds n := by
  refine ⟨by simp, by simp, ?_⟩
  by_cases hdue : s.aeu.noticeOutstanding = false ∧ kinds &&& ~~~s.aeu.latched &&& s.aeu.noticeMask ≠ 0
  · rw [if_pos hdue]
    have : s.noticeDue kinds = true := by simpa [State.noticeDue] using hdue
    have hs : noticeSnapshot s.aeu.noticeMask s.aeu.latched [kinds] = s.aeu.latched ||| kinds := by
      simp only [noticeSnapshot]; split <;> rfl
    simp [State.latchChanges, this, hs]
  · rw [if_neg hdue]
    have : s.noticeDue kinds = false := by simpa [State.noticeDue] using hdue
    simp [State.latchChanges, this]

@[simp] theorem State.standingFrame_of_none (h : s.boundary = none) : s.standingFrame = s.scr.frameCounter := by
  simp [State.standingFrame, h, State.now]

@[simp] theorem State.standingFrame_of_some {b : Boundary} (h : s.boundary = some b) :
    s.standingFrame = s.scr.frameCounter + 1 := by
  simp [State.standingFrame, h, State.boundaryNumber]

theorem State.latch_once (kinds : EventSet) (n : FrameNo) : s.latchedOnce (s.latch kinds n) kinds n :=
  State.latchChanges_once kinds n s.lnk.placings

/-- A line event is one change of the latched set, at the number that the counter stands at. -/
theorem State.latchLine_once (kinds : EventSet) : s.latchedOnce (s.latchLine kinds) kinds s.standingFrame :=
  s.latch_once kinds s.standingFrame

/-! ### The enqueue rule (R66) -/

@[simp] theorem State.mem_urgent_iff (n : Nat) : s.inUrgent n = true ↔ n ∈ s.pnt.urgent := by
  simp [State.inUrgent]

@[simp] theorem State.mem_routine_iff (n : Nat) :
    s.inRoutine n = true ↔ n ∈ s.pnt.routine.map RoutineEntry.field := by
  simp only [State.inRoutine, List.any_eq_true, List.mem_map, beq_iff_eq]

/-- LAGGING judged on the total as it stands (R71). -/
theorem State.judgeLagging_lagging (s : State) :
    s.judgeLagging.pnt.lagging = lagAfter s.pnt.lagging s.pnt.lagThreshold s.queuedTotal := by
  simp only [State.judgeLagging_pnt, State.lagRises, State.lagFalls, lagAfter]
  cases s.pnt.lagging <;> simp

/-- The table of R66, with R71. -/
theorem State.enqueue_enqueued {n : Nat} {f : Field} (u : Bool) (h : s.field? n = some f) :
    s.enqueued (s.enqueue n u) n (s.shows f) (u || f.options.urgent) := by
  refine ⟨by simp, by simp, by simp, ?_⟩
  unfold State.enqueue
  rw [h]
  cases hv : s.shows f
  · simp [hv]
  · by_cases hu : n ∈ s.pnt.urgent
    · simp [hv, hu]
    · by_cases hr : n ∈ s.pnt.routine.map RoutineEntry.field
      · by_cases hc : (u || f.options.urgent) = true
        · simp only [Bool.or_eq_true] at hc; simp [hv, hu, hr, hc]
        · simp only [Bool.or_eq_true, not_or] at hc; simp [hv, hu, hr, hc]
      · by_cases hc : (u || f.options.urgent) = true
        · simp only [Bool.or_eq_true] at hc
          simp only [hv, Bool.not_true, Bool.false_eq_true, mem_urgent_iff, hu, mem_routine_iff, hr, hc,
            if_true, if_false, Bool.or_eq_true, State.judgeLagging_lagging]
          exact ⟨⟨rfl, rfl⟩, congrArg _ (by simp [State.queuedTotal]; omega)⟩
        · simp only [Bool.or_eq_true] at hc
          simp only [hv, Bool.not_true, Bool.false_eq_true, mem_urgent_iff, hu, mem_routine_iff, hr, hc,
            if_false, Bool.or_eq_true, State.judgeLagging_lagging]
          exact ⟨⟨rfl, rfl⟩, congrArg _ (by simp [State.queuedTotal]; omega)⟩

theorem State.enqueue_of_free {n : Nat} (u : Bool) (h : s.field? n = none) : s.enqueue n u = s := by
  simp [State.enqueue, h]

@[simp] theorem State.latchLagRise_pnt_lagging (before : State) (n : FrameNo) :
    (s.latchLagRise before n).pnt.lagging = s.pnt.lagging := by simp

/-- An enqueue and the report of its rise of LAGGING (R71). -/
theorem State.enqueueAndLatch_reported (n : Nat) (u : Bool) (at_ : FrameNo) :
    s.lagReported (s.enqueueAndLatch n u at_) at_ := by
  unfold State.lagReported State.enqueueAndLatch
  refine ⟨?_, by simp⟩
  simp only [State.latchLagRise_pnt]
  unfold State.latchLagRise
  by_cases h : s.pnt.lagging = false ∧ (s.enqueue n u).pnt.lagging = true
  · have := State.latch_once (s := s.enqueue n u) evPaintLag at_
    simpa [h, State.latchedOnce, evPaintLag] using this
  · rw [if_neg h]
    have : (!s.pnt.lagging && (s.enqueue n u).pnt.lagging) = false := by
      cases h1 : s.pnt.lagging <;> cases h2 : (s.enqueue n u).pnt.lagging <;> simp_all
    simp [this]

/-! ### The refusal (R158, R169) -/

theorem State.refuse_inHand_none (code : RefusalCode) (field : Option Half) (h : s.msg.inHand = none) :
    s.refuse code field = s := by simp [State.refuse, h]

/-- Everything that a refused take does. -/
theorem State.refuse_refusedAs {c : Instr} {f : Frame} (code : RefusalCode) (field : Option Half) (h : s.ready c = true) :
    s.refusedAs ((s.take f).refuse code field) f.type f.tag code field := by
  have hn := State.ready_inHand h
  have hi : (s.take f).msg.inHand = some f := rfl
  have hk : RefusalCode.kinds code = if code = .badCheck then 0x0012 else 0x0010 := by cases code <;> decide
  have hl := State.take_line (s := s) f
  simp only [State.refuse, hi]
  generalize hp : (s.take f).lnk.placings + _ = p1
  generalize (s.take f).lnk.placings + _ = p2
  generalize hch : (s.take f).choices + _ = ch
  let u : State := { s.take f with msg := { (s.take f).msg with inHand := none }, choices := ch }
  have hlo := State.latchChanges_once (s := u.recordFault f code field none) code.kinds s.now p1
  have hmsg : { s.msg with inHand := none } = s.msg := by cases hs : s.msg; simp_all
  refine ⟨⟨⟨p2, ?_⟩, ?_, ?_, ?_⟩, ?_, ?_, ?_, ?_⟩
  · simp
  · simp [hmsg]
  · obtain ⟨h1, h2, h3, h4, h5, h6⟩ := hl
    refine ⟨?_, ?_, ?_, ?_, ?_, ?_⟩ <;> simp [*]
  · exact ⟨by simp, by simp, by simp, by simp⟩
  · exact ⟨by simp, by simp, by simp⟩
  · exact ⟨by simp, by simp⟩
  · simp [State.now]
  · rw [← hk]
    obtain ⟨_, _, d⟩ := hlo
    refine ⟨by simp, by simp, ?_⟩
    simpa [u, State.now] using d

/-! ### The cut-off of a frame being sent (R173) -/

/-- However many bit times have passed, the bytes begun are what a reset leaves of the frame being sent. -/
theorem Link.bytesBegun_cutOff (s : State) (bitTimes : Nat) : s.cutOff (s.lnk.bytesBegun bitTimes) := by
  unfold State.cutOff Link.bytesBegun
  refine ⟨fun h => by simp [h], ?_⟩
  rintro bytes (h | h) <;> exact ⟨bitTimes / 10, by simp [h, Link.bytesSent]⟩

/-! ### LAGGING (R71) -/

/-- With a threshold of at least 1, judging LAGGING again on the same total changes nothing. -/
theorem lagAfter_again (lagging : Bool) (threshold total : Nat) (h : 1 ≤ threshold) :
    lagAfter (lagAfter lagging threshold total) threshold total = lagAfter lagging threshold total := by
  have hlow : threshold / 2 < threshold := by omega
  cases lagging <;> by_cases hrise : threshold ≤ total <;> by_cases hfall : total < threshold / 2 <;>
    simp [lagAfter, hrise, hfall] <;> omega

end Sys2Proof.Machine
end

