-- ==== Sys2Proof/Laws/Boundary.lean ====
section
/-! SUPPORT. What no part of a frame boundary and no render touches: the line, the message in hand, reset and the queue of
commands. -/

namespace Sys2Proof.Machine

/-- What stands outside a frame boundary is as before. -/
def State.lineKept (s t : State) : Prop :=
  t.resetCause = s.resetCause ∧ t.resetn = s.resetn ∧ t.pending = s.pending ∧ t.msg.inHand = s.msg.inHand ∧
    t.lnk.receiver = s.lnk.receiver ∧ t.lnk.buffers = s.lnk.buffers ∧ t.lnk.arrival = s.lnk.arrival ∧
    t.lnk.sending = s.lnk.sending ∧ t.lnk.rate = s.lnk.rate ∧ t.lnk.txen = s.lnk.txen ∧
    t.lnk.rxLow = s.lnk.rxLow ∧ t.lnk.cut = s.lnk.cut

theorem State.lineKept_refl (s : State) : s.lineKept s := 
  ⟨rfl, rfl, rfl, rfl, rfl, rfl, rfl, rfl, rfl, rfl, rfl, rfl⟩

theorem State.lineKept_trans {s t u : State} (h : s.lineKept t) (k : t.lineKept u) : s.lineKept u := by
  obtain ⟨h1, h2, h3, h4, h5, h6, h7, h8, h9, h10, h11, h12⟩ := h
  obtain ⟨k1, k2, k3, k4, k5, k6, k7, k8, k9, k10, k11, k12⟩ := k
  exact ⟨k1.trans h1, k2.trans h2, k3.trans h3, k4.trans h4, k5.trans h5, k6.trans h6, k7.trans h7, k8.trans h8,
    k9.trans h9, k10.trans h10, k11.trans h11, k12.trans h12⟩

variable (s : State)

theorem State.latch_line (kinds : EventSet) (n : FrameNo) : s.lineKept (s.latch kinds n) := by simp [State.lineKept]

theorem State.latchOpen_line (groups : List (List EventSet)) (n : FrameNo) : s.lineKept (s.latchOpen groups n) := by
  simp [State.lineKept]

theorem State.latchLagRise_line (before : State) (n : FrameNo) : s.lineKept (s.latchLagRise before n) := by
  simp [State.lineKept]

theorem State.fillReply_line (type tag : Byte) (payload : List Byte) (p : Nat) :
    s.lineKept (s.fillReply type tag payload p) := by simp [State.lineKept]

theorem State.enqueueAndLatch_line (n : Nat) (u : Bool) (at_ : FrameNo) : s.lineKept (s.enqueueAndLatch n u at_) := by
  simp [State.lineKept]

theorem State.removeEntry_line (n : Nat) (at_ : FrameNo) : s.lineKept (s.removeEntry n at_) := by simp [State.lineKept]

theorem State.removeEntries_line (at_ : FrameNo) (l : List Nat) : s.lineKept (s.removeEntries at_ l) := by
  simp [State.lineKept]

theorem State.enqueueAtBoundary_line (n : Nat) (u : Bool) : s.lineKept (s.enqueueAtBoundary n u) := by
  simp [State.lineKept]

theorem State.enqueueAllAtBoundary_line (at_ : FrameNo) (l : List Nat) : s.lineKept (s.enqueueAllAtBoundary at_ l) := by
  simp [State.lineKept]

theorem State.openBoundary_line : s.lineKept s.openBoundary := by simp [State.lineKept]

theorem State.release_line (n : Nat) (at_ : FrameNo) : s.lineKept (s.release n at_) := by
  simp [State.lineKept, State.release]

theorem State.releaseAll_line (at_ : FrameNo) (l : List Nat) : s.lineKept (s.releaseAll at_ l) := by
  induction l generalizing s with
  | nil => exact s.lineKept_refl
  | cons n rest ih => exact State.lineKept_trans (s.release_line n at_) (ih _)

theorem State.expireField_line (m : Nat) (f : Field) (n : FrameNo) : s.lineKept (s.expireField m f n) := by
  unfold State.expireField
  dsimp only
  split <;> simp [State.lineKept]

theorem State.examine_line (n : FrameNo) (m : Nat) : s.lineKept (s.examine n m) := by
  unfold State.examine
  split
  · split
    · exact s.expireField_line _ _ _
    · exact s.lineKept_refl
  · exact s.lineKept_refl

theorem State.examineAll_line (n : FrameNo) (l : List Nat) : s.lineKept (s.examineAll n l) := by
  induction l generalizing s with
  | nil => exact s.lineKept_refl
  | cons m rest ih => exact State.lineKept_trans (s.examine_line n m) (ih _)

theorem State.markExamined_line (n : Nat) : s.lineKept (s.markExamined n) := by simp [State.lineKept]

theorem State.takeExpiries_line (n : FrameNo) : s.lineKept (s.takeExpiries n) := by
  unfold State.takeExpiries
  split
  · exact s.lineKept_refl
  · split
    · exact s.markExamined_line _
    · exact State.lineKept_trans (s.examineAll_line _ _) (State.markExamined_line _ _)

theorem State.applyMode_line : s.lineKept s.applyMode := by
  unfold State.applyMode; split <;> exact s.lineKept_refl

theorem State.startBoundary_line (n : FrameNo) : s.lineKept (s.startBoundary n) := by
  unfold State.startBoundary
  exact State.lineKept_trans (t := ({ s with scr := { s.scr with frameCounter := n } } : State).applyPalette)
    (by simp [State.lineKept]) (State.applyMode_line _)

theorem State.expireFreeze_line (n : FrameNo) : s.lineKept (s.expireFreeze n) := by
  unfold State.expireFreeze
  split
  · simp [State.lineKept]
  · exact s.lineKept_refl

theorem State.changePage_line (r : PendingPage) (n : FrameNo) : s.lineKept (s.changePage r n) := by
  have h := State.releaseAll_line (s.clearPage s.scr.page) n (s.retiringOfPage s.scr.page)
  unfold State.lineKept at h
  unfold State.changePage
  dsimp only
  split <;> simpa [State.lineKept] using h

theorem State.applyPendingPage_line (n : FrameNo) : s.lineKept (s.applyPendingPage n) := by
  unfold State.applyPendingPage
  split
  · split
    · exact s.lineKept_refl
    · exact s.changePage_line _ _
  · exact s.lineKept_refl

theorem State.takeParameters_line (c : PendingConfigure) (n : FrameNo) : s.lineKept (s.takeParameters c n) := by
  simp [State.lineKept, State.takeParameters]

theorem State.changeGeometry_line (g : Geometry) (n : FrameNo) : s.lineKept (s.changeGeometry g n) := by
  have h := State.releaseAll_line (s.clearForGeometry g) n (s.releasedBy g)
  unfold State.lineKept at h
  simpa [State.lineKept, State.changeGeometry] using h

theorem State.applyConfigure_line (c : PendingConfigure) (n : FrameNo) : s.lineKept (s.applyConfigure c n) := by
  have h := s.takeParameters_line c n
  have k := State.lineKept_trans h (State.changeGeometry_line (s.takeParameters c n) c.geometry n)
  unfold State.lineKept at h k
  unfold State.applyConfigure
  dsimp only
  split
  · simpa [State.lineKept] using h
  · simpa [State.lineKept] using k

theorem State.applyPendingConfigure_line (n : FrameNo) : s.lineKept (s.applyPendingConfigure n) := by
  unfold State.applyPendingConfigure
  split
  · split
    · exact s.lineKept_refl
    · exact s.applyConfigure_line _ _
  · exact s.lineKept_refl

theorem State.age_line : s.lineKept s.age := by
  unfold State.age
  split
  · exact s.lineKept_refl
  · split
    · exact s.lineKept_refl
    · simp [State.lineKept]

theorem State.judgeBlink_line (n : FrameNo) : s.lineKept (s.judgeBlink n) := by
  unfold State.judgeBlink; split <;> simp [State.lineKept]

theorem State.commitSlot_line (n : FrameNo) (k : Nat) : s.lineKept (s.commitSlot n k) := by
  unfold State.commitSlot
  split
  · split
    · dsimp only
      split
      · simp [State.lineKept]
      · exact State.lineKept_trans (by simp [State.lineKept]) (State.release_line _ _ _)
    · exact s.lineKept_refl
  · exact s.lineKept_refl

theorem State.commitSlots_line (n : FrameNo) (l : List Nat) : s.lineKept (s.commitSlots n l) := by
  induction l generalizing s with
  | nil => exact s.lineKept_refl
  | cons k rest ih => exact State.lineKept_trans (s.commitSlot_line n k) (ih _)

theorem State.commitAll_line (n : FrameNo) : s.lineKept (s.commitAll n) := by
  unfold State.commitAll
  split
  · exact s.lineKept_refl
  · exact s.commitSlots_line _ _

theorem State.screenWork_line (first : Bool) (n : FrameNo) : s.lineKept (s.screenWork first n) := by
  unfold State.screenWork
  have h : s.lineKept (if first then s.age else s) := by
    split
    · exact s.age_line
    · exact s.lineKept_refl
  exact State.lineKept_trans h <| State.lineKept_trans (State.expireFreeze_line _ _) <|
    State.lineKept_trans (State.applyPendingPage_line _ _) <|
    State.lineKept_trans (State.applyPendingConfigure_line _ _) <| State.lineKept_trans (State.age_line _) <|
    State.lineKept_trans (State.judgeBlink_line _ _) (State.commitAll_line _ _)

theorem State.latchFrameIf_line (now : Bool) (n : FrameNo) : s.lineKept (s.latchFrameIf now n) := by
  unfold State.latchFrameIf
  split
  · exact s.latch_line _ _
  · exact s.lineKept_refl

/-- No part of a boundary touches the line, the message in hand, reset or the queue of commands. -/
theorem State.takeBoundary_line (order : BoundaryOrder) : s.lineKept (s.takeBoundary order) := by
  unfold State.takeBoundary
  dsimp only
  have h := State.lineKept_trans s.openBoundary_line <|
    State.lineKept_trans (State.startBoundary_line s.openBoundary s.boundaryNumber)
      (State.latchFrameIf_line _ order.frameFirst s.boundaryNumber)
  generalize ((s.openBoundary.startBoundary s.boundaryNumber).latchFrameIf order.frameFirst s.boundaryNumber) = u at h ⊢
  have k : s.lineKept (if order.ftuFirst then u.takeExpiries s.boundaryNumber else u) := by
    split
    · exact State.lineKept_trans h (State.takeExpiries_line _ _)
    · exact h
  exact State.lineKept_trans k <| State.lineKept_trans (State.screenWork_line _ _ _) <|
    State.lineKept_trans (State.takeExpiries_line _ _) (State.latchFrameIf_line _ _ _)

theorem State.settle_line : s.lineKept s.settle := by
  unfold State.settle
  split
  · exact s.lineKept_refl
  · exact s.takeBoundary_line _

@[simp] theorem State.takeBoundary_boundary (order : BoundaryOrder) : (s.takeBoundary order).boundary = none := rfl

@[simp] theorem State.settle_boundary : s.settle.boundary = none := by
  unfold State.settle; split <;> simp [*]

/-! ### The painter -/

theorem State.paintNext_line : s.lineKept s.paintNext := by
  unfold State.paintNext
  split
  · exact s.lineKept_refl
  · split
    · exact s.lineKept_refl
    · split
      · simp [State.lineKept, State.beginRender]
      · exact s.lineKept_refl

theorem State.finishRender_line : s.lineKept s.finishRender := by
  unfold State.finishRender
  split
  · dsimp only
    split <;> simp [State.lineKept]
  · simp [State.lineKept]
  · exact s.lineKept_refl

end Sys2Proof.Machine
end

