-- ==== Sys2Proof/Laws/Exec.lean ====
section
/-! SUPPORT. Every request as a take and what it does, by definition: the provers cite these and unfold no meaning; and the span
of the substitute box. -/

namespace Sys2Proof.Machine

theorem exec_identify (tag : Byte) (p : Carried Unit) (s : State) :
    exec (.identify tag p) s = s.takeThen (.identify tag p) fun t => t.checkLength p fun _ u => u.answer identity := rfl

theorem exec_readStatus (tag : Byte) (p : Carried Unit) (s : State) :
    exec (.readStatus tag p) s = s.takeThen (.readStatus tag p) fun t =>
      t.checkLength p fun _ u => u.answer u.statusReport := rfl

theorem exec_configureDisplay (tag : Byte) (p : Carried ConfigureFields) (s : State) :
    exec (.configureDisplay tag p) s = s.takeThen (.configureDisplay tag p) fun t =>
      t.checkLength p fun r u => u.configure r := rfl

theorem exec_setPalette (tag : Byte) (p : Carried PaletteFields) (s : State) :
    exec (.setPalette tag p) s = s.takeThen (.setPalette tag p) fun t => t.checkLength p fun r u => u.setPalette r := rfl

theorem exec_displayMode (tag : Byte) (p : Carried ModeFields) (s : State) :
    exec (.displayMode tag p) s = s.takeThen (.displayMode tag p) fun t => t.checkLength p fun r u => u.stageMode r := rfl

theorem exec_selectPage (tag : Byte) (p : Carried Byte) (s : State) :
    exec (.selectPage tag p) s = s.takeThen (.selectPage tag p) fun t =>
      t.checkLength p fun page u => u.selectPage page := rfl

theorem exec_freeze (tag : Byte) (p : Carried FreezeFields) (s : State) :
    exec (.freeze tag p) s = s.takeThen (.freeze tag p) fun t => t.checkLength p fun r u => u.freeze r := rfl

theorem exec_thaw (tag : Byte) (p : Carried Unit) (s : State) :
    exec (.thaw tag p) s = s.takeThen (.thaw tag p) fun t => t.checkLength p fun _ u => u.thaw := rfl

theorem exec_reset (tag : Byte) (p : Carried Unit) (straps : Straps) (s : State) :
    exec (.reset tag p straps) s = s.takeThen (.reset tag p straps) fun t =>
      t.checkLength p fun _ u => u.beginReset (.request tag) true straps := rfl

theorem exec_defineField (tag : Byte) (p : Carried DefineFields) (s : State) :
    exec (.defineField tag p) s = s.takeThen (.defineField tag p) fun t => t.checkLength p fun r u => u.define r := rfl

theorem exec_restyleField (tag : Byte) (p : Carried RestyleFields) (s : State) :
    exec (.restyleField tag p) s = s.takeThen (.restyleField tag p) fun t => t.checkLength p fun r u => u.restyle r := rfl

theorem exec_setLimits (tag : Byte) (p : Carried LimitFields) (s : State) :
    exec (.setLimits tag p) s = s.takeThen (.setLimits tag p) fun t => t.checkLength p fun r u => u.setLimits r := rfl

theorem exec_deleteField (tag : Byte) (p : Carried Half) (s : State) :
    exec (.deleteField tag p) s = s.takeThen (.deleteField tag p) fun t =>
      t.checkLength p fun number u => u.delete number := rfl

theorem exec_readField (tag : Byte) (p : Carried Half) (s : State) :
    exec (.readField tag p) s = s.takeThen (.readField tag p) fun t =>
      t.checkLength p fun number u => u.readField number := rfl

theorem exec_post (tag : Byte) (p : Carried PostFields) (s : State) :
    exec (.post tag p) s = s.takeThen (.post tag p) fun t => t.checkLength p fun r u => u.post r := rfl

theorem exec_postBatch (tag : Byte) (p : Carried (List PostFields)) (s : State) :
    exec (.postBatch tag p) s = s.takeThen (.postBatch tag p) fun t =>
      t.checkLength p fun entries u => u.postBatch entries := rfl

theorem exec_postText (tag : Byte) (p : Carried TextFields) (s : State) :
    exec (.postText tag p) s = s.takeThen (.postText tag p) fun t => t.checkLength p fun r u => u.postText r := rfl

theorem exec_unhold (tag : Byte) (p : Carried Half) (s : State) :
    exec (.unhold tag p) s = s.takeThen (.unhold tag p) fun t => t.checkLength p fun number u => u.unhold number := rfl

theorem exec_ackAlert (tag : Byte) (p : Carried Half) (s : State) :
    exec (.ackAlert tag p) s = s.takeThen (.ackAlert tag p) fun t => t.checkLength p fun number u => u.ack number := rfl

theorem exec_ackAlertAll (tag : Byte) (s : State) :
    exec (.ackAlertAll tag) s = s.takeThen (.ackAlertAll tag) fun t => t.ackAll := rfl

theorem exec_readAlerts (tag : Byte) (p : Carried Unit) (s : State) :
    exec (.readAlerts tag p) s = s.takeThen (.readAlerts tag p) fun t =>
      t.checkLength p fun _ u => u.answer u.alertReport := rfl

theorem exec_readWatch (tag : Byte) (p : Carried Unit) (s : State) :
    exec (.readWatch tag p) s = s.takeThen (.readWatch tag p) fun t => t.checkLength p fun _ u => u.readWatch := rfl

theorem exec_clearEvents (tag : Byte) (p : Carried Half) (s : State) :
    exec (.clearEvents tag p) s = s.takeThen (.clearEvents tag p) fun t =>
      t.checkLength p fun kinds u => u.clearEvents kinds := rfl

theorem exec_setNoticeMask (tag : Byte) (p : Carried Half) (s : State) :
    exec (.setNoticeMask tag p) s = s.takeThen (.setNoticeMask tag p) fun t =>
      t.checkLength p fun kinds u => u.setNoticeMask kinds := rfl

theorem exec_readFault (tag : Byte) (p : Carried Unit) (s : State) :
    exec (.readFault tag p) s = s.takeThen (.readFault tag p) fun t =>
      t.checkLength p fun _ u => u.answer u.faultReport := rfl

theorem exec_readCells (tag : Byte) (p : Carried CellFields) (s : State) :
    exec (.readCells tag p) s = s.takeThen (.readCells tag p) fun t => t.checkLength p fun r u => u.readCells r := rfl

theorem exec_unknownType (type tag : Byte) (payload : List Byte) (s : State) :
    exec (.unknownType type tag payload) s = s.takeThen (.unknownType type tag payload) fun t =>
      t.refuse .unknownType none := rfl

theorem exec_badCheck (type tag : Byte) (payload : List Byte) (s : State) :
    exec (.badCheck type tag payload) s = s.takeThen (.badCheck type tag payload) fun t => t.refuse .badCheck none := rfl

/-- Every command that stands for a frame is that frame's take and an act on the state after it. -/
theorem exec_takes {c : Instr} {f : Frame} (hf : c.frame? = some f) : ∃ act, ∀ s, exec c s = s.takeThen c act := by
  cases c <;> first
    | (simp [Instr.frame?] at hf; done)
    | (simp only [exec_identify, exec_readStatus, exec_configureDisplay, exec_setPalette, exec_displayMode,
         exec_selectPage, exec_freeze, exec_thaw, exec_reset, exec_defineField,
         exec_restyleField, exec_setLimits, exec_deleteField, exec_readField, exec_post,
         exec_postBatch, exec_postText, exec_unhold, exec_ackAlert, exec_ackAlertAll,
         exec_readAlerts, exec_readWatch, exec_clearEvents, exec_setNoticeMask, exec_readFault,
         exec_readCells, exec_unknownType, exec_badCheck]
       exact ⟨_, fun _ => rfl⟩)

/-- A take answers a next state. -/
theorem State.takeThen_next (s : State) (c : Instr) (act : State → State) : ∃ t, s.takeThen c act = .next t := by
  rcases s.takeThen_cases c act with h | ⟨f, _, _, h⟩ <;> exact ⟨_, h⟩

/-! ### Scan-out (R91) -/

/-- A span has an edge on both sides of its hollow and lies below `size`. -/
theorem spanOf_edges (size a b c d : Nat) (h : 3 ≤ size) :
    (spanOf size a b c d).outerLow < (spanOf size a b c d).hollowLow ∧
      (spanOf size a b c d).hollowLow ≤ (spanOf size a b c d).hollowHigh ∧
      (spanOf size a b c d).hollowHigh < (spanOf size a b c d).outerHigh ∧
      (spanOf size a b c d).outerHigh < size := by
  simp only [spanOf]
  have hlow := Nat.mod_lt a (show 0 < size - 2 by omega)
  generalize a % (size - 2) = low at *
  have hhigh := Nat.mod_lt b (show 0 < size - 2 - low by omega)
  generalize b % (size - 2 - low) = more at *
  have hhollow := Nat.mod_lt c (show 0 < low + 2 + more - low - 1 by omega)
  generalize c % (low + 2 + more - low - 1) = skip at *
  have hend := Nat.mod_lt d (show 0 < low + 2 + more - (low + 1 + skip) by omega)
  generalize d % (low + 2 + more - (low + 1 + skip)) = rest at *
  omega

end Sys2Proof.Machine
end

