-- ==== Sys2Proof/Laws/PerInstr.lean ====
section
/-! SUPPORT. Statements made per command: the frame that a well-formed request stands for fits the line (R163). -/

namespace Sys2Proof.Laws

/-- The payload of the frame that a well-formed command stands for is at most 240 bytes long. -/
def FrameFits.Statement (c : Instr) : Prop :=
  c.wellFormed = true → ∀ f, c.frame? = some f → f.payload.length ≤ 240

/-- A carried payload fits where the layout of its fields does. -/
theorem carried_fits {α : Type} {agrees : List Byte → Bool} {admits : α → Bool} {layout : α → List Byte} {p : Carried α}
    (h : p.wellFormed agrees admits = true) (hl : ∀ a, admits a = true → (layout a).length ≤ 240) :
    (p.payload layout).length ≤ 240 := by
  cases p with
  | fields a => exact hl a h
  | wrongLength bytes =>
    simp only [Carried.wellFormed, Bool.and_eq_true, decide_eq_true_eq] at h
    exact h.1

/-- A carried payload whose layout has one length fits. -/
theorem carried_fits_fixed {α : Type} {agrees : List Byte → Bool} {admits : α → Bool} {layout : α → List Byte}
    {p : Carried α} (n : Nat) (hl : ∀ a, (layout a).length = n) (hn : n ≤ 240) (h : p.wellFormed agrees admits = true) :
    (p.payload layout).length ≤ 240 :=
  carried_fits h fun a _ => hl a ▸ hn

theorem flatMap_length {α β : Type} (k : Nat) (g : α → List β) (hg : ∀ a, (g a).length = k) (l : List α) :
    (l.flatMap g).length = k * l.length := by
  induction l with
  | nil => simp
  | cons a rest ih => simp [ih, hg a, Nat.mul_add, Nat.add_comm]

theorem FrameFits.identify (tag : Byte) (p : Carried Unit) : FrameFits.Statement (.identify tag p) := by
  intro h f hf
  obtain rfl := Option.some.inj hf
  exact carried_fits_fixed 0 (fun _ => rfl) (by decide) h

theorem FrameFits.readStatus (tag : Byte) (p : Carried Unit) : FrameFits.Statement (.readStatus tag p) := by
  intro h f hf
  obtain rfl := Option.some.inj hf
  exact carried_fits_fixed 0 (fun _ => rfl) (by decide) h

theorem FrameFits.configureDisplay (tag : Byte) (p : Carried ConfigureFields) : FrameFits.Statement (.configureDisplay tag p) := by
  intro h f hf
  obtain rfl := Option.some.inj hf
  exact carried_fits_fixed 6 (fun _ => rfl) (by decide) h

theorem FrameFits.setPalette (tag : Byte) (p : Carried PaletteFields) : FrameFits.Statement (.setPalette tag p) := by
  intro h f hf
  obtain rfl := Option.some.inj hf
  exact carried_fits h fun a ha => by
    simp only [PaletteFields.bytes, List.length_cons, flatMap_length 3 Colour.bytes fun _ => rfl]
    simp only [Bool.and_eq_true, decide_eq_true_eq] at ha
    omega

theorem FrameFits.displayMode (tag : Byte) (p : Carried ModeFields) : FrameFits.Statement (.displayMode tag p) := by
  intro h f hf
  obtain rfl := Option.some.inj hf
  exact carried_fits_fixed 2 (fun _ => rfl) (by decide) h

theorem FrameFits.selectPage (tag : Byte) (p : Carried Byte) : FrameFits.Statement (.selectPage tag p) := by
  intro h f hf
  obtain rfl := Option.some.inj hf
  exact carried_fits_fixed 1 (fun _ => rfl) (by decide) h

theorem FrameFits.freeze (tag : Byte) (p : Carried FreezeFields) : FrameFits.Statement (.freeze tag p) := by
  intro h f hf
  obtain rfl := Option.some.inj hf
  exact carried_fits_fixed 2 (fun _ => rfl) (by decide) h

theorem FrameFits.thaw (tag : Byte) (p : Carried Unit) : FrameFits.Statement (.thaw tag p) := by
  intro h f hf
  obtain rfl := Option.some.inj hf
  exact carried_fits_fixed 0 (fun _ => rfl) (by decide) h

theorem FrameFits.reset (tag : Byte) (p : Carried Unit) (straps : Straps) : FrameFits.Statement (.reset tag p straps) := by
  intro h f hf
  obtain rfl := Option.some.inj hf
  exact carried_fits_fixed 0 (fun _ => rfl) (by decide) h

theorem FrameFits.defineField (tag : Byte) (p : Carried DefineFields) : FrameFits.Statement (.defineField tag p) := by
  intro h f hf
  obtain rfl := Option.some.inj hf
  exact carried_fits_fixed 14 (fun _ => rfl) (by decide) h

theorem FrameFits.restyleField (tag : Byte) (p : Carried RestyleFields) : FrameFits.Statement (.restyleField tag p) := by
  intro h f hf
  obtain rfl := Option.some.inj hf
  exact carried_fits_fixed 8 (fun _ => rfl) (by decide) h

theorem FrameFits.setLimits (tag : Byte) (p : Carried LimitFields) : FrameFits.Statement (.setLimits tag p) := by
  intro h f hf
  obtain rfl := Option.some.inj hf
  exact carried_fits_fixed 11 (fun _ => rfl) (by decide) h

theorem FrameFits.deleteField (tag : Byte) (p : Carried Half) : FrameFits.Statement (.deleteField tag p) := by
  intro h f hf
  obtain rfl := Option.some.inj hf
  exact carried_fits_fixed 2 (fun _ => rfl) (by decide) h

theorem FrameFits.readField (tag : Byte) (p : Carried Half) : FrameFits.Statement (.readField tag p) := by
  intro h f hf
  obtain rfl := Option.some.inj hf
  exact carried_fits_fixed 2 (fun _ => rfl) (by decide) h

theorem FrameFits.post (tag : Byte) (p : Carried PostFields) : FrameFits.Statement (.post tag p) := by
  intro h f hf
  obtain rfl := Option.some.inj hf
  exact carried_fits_fixed 6 (fun _ => rfl) (by decide) h

theorem FrameFits.postBatch (tag : Byte) (p : Carried (List PostFields)) : FrameFits.Statement (.postBatch tag p) := by
  intro h f hf
  obtain rfl := Option.some.inj hf
  exact carried_fits h fun a ha => by
    simp only [batchBytes, List.length_cons, flatMap_length 6 PostFields.bytes fun _ => rfl]
    simp only [Bool.and_eq_true, decide_eq_true_eq] at ha
    omega

theorem FrameFits.postText (tag : Byte) (p : Carried TextFields) : FrameFits.Statement (.postText tag p) := by
  intro h f hf
  obtain rfl := Option.some.inj hf
  exact carried_fits h fun a ha => by
    simp only [List.length_append, bytesOfHalf, List.length_cons, List.length_nil]
    simp only [decide_eq_true_eq] at ha
    omega

theorem FrameFits.unhold (tag : Byte) (p : Carried Half) : FrameFits.Statement (.unhold tag p) := by
  intro h f hf
  obtain rfl := Option.some.inj hf
  exact carried_fits_fixed 2 (fun _ => rfl) (by decide) h

theorem FrameFits.ackAlert (tag : Byte) (p : Carried Half) : FrameFits.Statement (.ackAlert tag p) := by
  intro h f hf
  obtain rfl := Option.some.inj hf
  exact carried_fits_fixed 2 (fun _ => rfl) (by decide) h

theorem FrameFits.ackAlertAll (tag : Byte) : FrameFits.Statement (.ackAlertAll tag) := by
  intro _ f hf
  obtain rfl := Option.some.inj hf
  exact (by decide : 2 ≤ 240)

theorem FrameFits.readAlerts (tag : Byte) (p : Carried Unit) : FrameFits.Statement (.readAlerts tag p) := by
  intro h f hf
  obtain rfl := Option.some.inj hf
  exact carried_fits_fixed 0 (fun _ => rfl) (by decide) h

theorem FrameFits.readWatch (tag : Byte) (p : Carried Unit) : FrameFits.Statement (.readWatch tag p) := by
  intro h f hf
  obtain rfl := Option.some.inj hf
  exact carried_fits_fixed 0 (fun _ => rfl) (by decide) h

theorem FrameFits.clearEvents (tag : Byte) (p : Carried Half) : FrameFits.Statement (.clearEvents tag p) := by
  intro h f hf
  obtain rfl := Option.some.inj hf
  exact carried_fits_fixed 2 (fun _ => rfl) (by decide) h

theorem FrameFits.setNoticeMask (tag : Byte) (p : Carried Half) : FrameFits.Statement (.setNoticeMask tag p) := by
  intro h f hf
  obtain rfl := Option.some.inj hf
  exact carried_fits_fixed 2 (fun _ => rfl) (by decide) h

theorem FrameFits.readFault (tag : Byte) (p : Carried Unit) : FrameFits.Statement (.readFault tag p) := by
  intro h f hf
  obtain rfl := Option.some.inj hf
  exact carried_fits_fixed 0 (fun _ => rfl) (by decide) h

theorem FrameFits.readCells (tag : Byte) (p : Carried CellFields) : FrameFits.Statement (.readCells tag p) := by
  intro h f hf
  obtain rfl := Option.some.inj hf
  exact carried_fits_fixed 3 (fun _ => rfl) (by decide) h

theorem FrameFits.unknownType (type tag : Byte) (payload : List Byte) : FrameFits.Statement (.unknownType type tag payload) := by
  intro h f hf
  obtain rfl := Option.some.inj hf
  simp only [Instr.wellFormed, Bool.and_eq_true, decide_eq_true_eq] at h
  exact h.2

theorem FrameFits.badCheck (type tag : Byte) (payload : List Byte) : FrameFits.Statement (.badCheck type tag payload) := by
  intro h f hf
  obtain rfl := Option.some.inj hf
  simp only [Instr.wellFormed, decide_eq_true_eq] at h
  exact h

theorem FrameFits.frameReceived (signals : List LineSignal) : FrameFits.Statement (.frameReceived signals) :=
  fun _ _ hf => nomatch hf

theorem FrameFits.gapTimeout : FrameFits.Statement .gapTimeout :=
  fun _ _ hf => nomatch hf

theorem FrameFits.transmitBegin (txen : Bool) : FrameFits.Statement (.transmitBegin txen) :=
  fun _ _ hf => nomatch hf

theorem FrameFits.transmitComplete : FrameFits.Statement .transmitComplete :=
  fun _ _ hf => nomatch hf

theorem FrameFits.resetn (straps : Straps) : FrameFits.Statement (.resetn straps) :=
  fun _ _ hf => nomatch hf

theorem FrameFits.resetDone : FrameFits.Statement .resetDone :=
  fun _ _ hf => nomatch hf

theorem FrameFits.frameBoundary (order : BoundaryOrder) : FrameFits.Statement (.frameBoundary order) :=
  fun _ _ hf => nomatch hf

theorem FrameFits.blinkToggle : FrameFits.Statement .blinkToggle :=
  fun _ _ hf => nomatch hf

theorem FrameFits.freezeExpired : FrameFits.Statement .freezeExpired :=
  fun _ _ hf => nomatch hf

theorem FrameFits.staleExpiry (field : Nat) : FrameFits.Statement (.staleExpiry field) :=
  fun _ _ hf => nomatch hf

theorem FrameFits.flashExpiry (field : Nat) : FrameFits.Statement (.flashExpiry field) :=
  fun _ _ hf => nomatch hf

theorem FrameFits.aging : FrameFits.Statement .aging :=
  fun _ _ hf => nomatch hf

theorem FrameFits.pageChange : FrameFits.Statement .pageChange :=
  fun _ _ hf => nomatch hf

theorem FrameFits.configurationApply : FrameFits.Statement .configurationApply :=
  fun _ _ hf => nomatch hf

theorem FrameFits.renderBegin : FrameFits.Statement .renderBegin :=
  fun _ _ hf => nomatch hf

theorem FrameFits.renderComplete : FrameFits.Statement .renderComplete :=
  fun _ _ hf => nomatch hf

end Sys2Proof.Laws
end

