-- ==== Sys2Proof/Tests/Slice0.lean ====
section
/-! SUPPORT. Tests of the model's own, each from a rule or a worked example of the spec, and a witness for the hypotheses of
every statement that has some. -/

namespace Sys2Proof.Tests

open Sys2Proof Sys2Proof.Machine

/-! ### Small states -/

/-- Reset processing is over, with nothing placed. -/
def running : State := { State.reset with resetCause := none, resetn := true }

/-- A LIVE DECIMAL field of scale 2 and width 7 on page 0, row 1, column 2, with style F 7, B 0, Up 10, Down 9, Stale 8,
Alert 11 (the style of the colour cases of chapter 4). -/
def quote : Field :=
  { state := .live, page := .numbered 0, row := 1, column := 2, width := 7, format := .decimal, scale := 2,
    options := ⟨false, false, false, false, false, false⟩, style := ⟨7, 0, 10, 9, 8, 11⟩, flashLength := 12,
    staleInterval := 4, value := none, lastPost := none, shown := none, shownFrame := none, direction := .none,
    flashDeadline := none, staleDeadline := none, upper := none, lower := none, zone := .inside, alertLatched := false,
    overflow := false }

def atFrame (s : State) (n : FrameNo) : State := { s with scr := { s.scr with frameCounter := n } }

/-- The next state of a command; no command answers anything else. -/
def after (c : Instr) (s : State) : State :=
  match exec c s with
  | .next t => t
  | _ => s

/-- TYPE and payload of the reply filled last. -/
def lastReply (s : State) : Option (Byte × List Byte) := s.lnk.replies.getLast?.map fun r => (r.type, r.payload)

/-- With one quote field, number 20. -/
def quoted : State := running.putField 20 quote

/-- Field 20 posted in frame 503 and its render READY in slot 0. -/
def rendered : State :=
  after .renderComplete (after .renderBegin (after (.post 1 (.fields ⟨20, 10100⟩)) (atFrame quoted 503)))

/-! ### Well-formedness: each check refuses an ill-formed command (R58, R61, R95, R144, R163, R175) -/

/-- A payload of zeros. -/
def zeros (n : Nat) : List Byte := List.replicate n 0

theorem test_wellFormed_refuses_agreeing_lengths :
    ([.identify 0 (.wrongLength []), .readStatus 0 (.wrongLength []), .configureDisplay 0 (.wrongLength (zeros 6)),
      .setPalette 0 (.wrongLength [0, 1, 2, 3, 4]), .displayMode 0 (.wrongLength (zeros 2)),
      .selectPage 0 (.wrongLength (zeros 1)), .freeze 0 (.wrongLength (zeros 2)), .thaw 0 (.wrongLength []),
      .reset 0 (.wrongLength []) ⟨true, true⟩, .defineField 0 (.wrongLength (zeros 14)),
      .restyleField 0 (.wrongLength (zeros 8)), .setLimits 0 (.wrongLength (zeros 11)),
      .deleteField 0 (.wrongLength (zeros 2)), .readField 0 (.wrongLength (zeros 2)), .post 0 (.wrongLength (zeros 6)),
      .postBatch 0 (.wrongLength (1 :: zeros 6)), .postText 0 (.wrongLength (zeros 2)), .unhold 0 (.wrongLength (zeros 2)),
      .ackAlert 0 (.wrongLength (zeros 2)), .readAlerts 0 (.wrongLength []), .readWatch 0 (.wrongLength []),
      .clearEvents 0 (.wrongLength (zeros 2)), .setNoticeMask 0 (.wrongLength (zeros 2)),
      .readFault 0 (.wrongLength []), .readCells 0 (.wrongLength (zeros 3))] : List Instr).all
        (fun c => !c.wellFormed) = true := by decide

theorem test_wellFormed_refuses_long_payloads :
    ([.post 0 (.wrongLength (zeros 241)), .unknownType 0x7F 0 (zeros 241), .badCheck 0x18 0 (zeros 241)] : List Instr).all
      (fun c => !c.wellFormed) = true := by decide +kernel

theorem test_wellFormed_refuses_palette_counts :
    (Instr.setPalette 0 (.fields ⟨0, []⟩)).wellFormed = false ∧
      (Instr.setPalette 0 (.fields ⟨0, List.replicate 80 ⟨0, 0, 0⟩⟩)).wellFormed = false := by decide

theorem test_wellFormed_refuses_batch_counts :
    (Instr.postBatch 0 (.fields [])).wellFormed = false ∧
      (Instr.postBatch 0 (.fields (List.replicate 40 ⟨0, 0⟩))).wellFormed = false := by decide

theorem test_wellFormed_refuses_long_text :
    (Instr.postText 0 (.fields ⟨0, zeros 239⟩)).wellFormed = false := by decide +kernel

theorem test_wellFormed_refuses_all_as_a_number : (Instr.ackAlert 0 (.fields 0xFFFF)).wellFormed = false := by decide

theorem test_wellFormed_refuses_known_type : (Instr.unknownType 0x18 0 []).wellFormed = false := by decide

theorem test_wellFormed_refuses_no_bytes : (Instr.frameReceived []).wellFormed = false := by decide

theorem test_wellFormed_refuses_field_512 :
    (Instr.staleExpiry 512).wellFormed = false ∧ (Instr.flashExpiry 512).wellFormed = false := by decide

/-! ### Frames and layouts (R163, R175), written out byte by byte from the tables -/

/-- R163: over the nine ASCII bytes of "123456789" the CRC is 0x29B1. -/
theorem test_crc_check_value : crc16 [0x31, 0x32, 0x33, 0x34, 0x35, 0x36, 0x37, 0x38, 0x39] = 0x29B1 := by decide +kernel

theorem test_reads_configureDisplay :
    commandOfFrame ⟨false, false⟩ ⟨0x03, 0x11, [0x01, 0x72, 0x05, 0x14, 0x01, 0x00], true⟩ =
      .configureDisplay 0x11 (.fields ⟨1, 7, 2, 5, 20, 256⟩) := by decide

theorem test_reads_setPalette :
    commandOfFrame ⟨false, false⟩ ⟨0x04, 0x12, [0x09, 0x02, 0xE0, 0x00, 0x10, 0x01, 0x02, 0x03], true⟩ =
      .setPalette 0x12 (.fields ⟨9, [⟨0xE0, 0x00, 0x10⟩, ⟨1, 2, 3⟩]⟩) := by decide

theorem test_reads_setPalette_count_disagrees :
    commandOfFrame ⟨false, false⟩ ⟨0x04, 0x12, [0x09, 0x02, 0xE0, 0x00, 0x10], true⟩ =
      .setPalette 0x12 (.wrongLength [0x09, 0x02, 0xE0, 0x00, 0x10]) := by decide

theorem test_reads_defineField :
    commandOfFrame ⟨false, false⟩
        ⟨0x10, 0x13, [0x01, 0x0A, 0xFF, 0x02, 0x4B, 0x09, 0x03, 0x06, 0x26, 0x70, 0xA9, 0x8B, 0x0C, 0x04], true⟩ =
      .defineField 0x13 (.fields
        { number := 266, page := 0xFF, row := 2, column := 75, width := 9, format := 3, scale := 6, options := 0x26,
          style := ⟨7, 0, 10, 9, 8, 11⟩, flashLength := 12, staleInterval := 4 }) := by decide

theorem test_reads_restyleField :
    commandOfFrame ⟨false, false⟩ ⟨0x11, 0x14, [0x00, 0x0A, 0x3F, 0x12, 0x34, 0x56, 0x07, 0x08], true⟩ =
      .restyleField 0x14 (.fields
        { number := 10, options := 0x3F, style := ⟨1, 2, 3, 4, 5, 6⟩, flashLength := 7, staleInterval := 8 }) := by decide

theorem test_reads_setLimits :
    commandOfFrame ⟨false, false⟩
        ⟨0x12, 0x15, [0x00, 0x5A, 0x03, 0x00, 0x00, 0x27, 0x74, 0xFF, 0xFF, 0xFF, 0xFE], true⟩ =
      .setLimits 0x15 (.fields ⟨90, 3, 10100, -2⟩) := by decide

theorem test_reads_postBatch :
    commandOfFrame ⟨false, false⟩ ⟨0x19, 0x41, [0x01, 0x00, 0x64, 0x00, 0x00, 0x13, 0x92], true⟩ =
      .postBatch 0x41 (.fields [⟨100, 5010⟩]) := by decide

theorem test_reads_ackAlertAll :
    commandOfFrame ⟨false, false⟩ ⟨0x20, 0x16, [0xFF, 0xFF], true⟩ = .ackAlertAll 0x16 := by decide

theorem test_reads_unknown_and_bad_check :
    commandOfFrame ⟨false, false⟩ ⟨0x98, 0x17, [1], true⟩ = .unknownType 0x98 0x17 [1] ∧
      commandOfFrame ⟨false, false⟩ ⟨0x18, 0x17, [1], false⟩ = .badCheck 0x18 0x17 [1] := by decide

/-- The opcode table gives no row any bits. -/
theorem test_no_word_spells_a_command :
    decodeTableWord 16 0x1234 = none ∧ (State.reset.withFetchWord 16 0x1234).pending = [] := by decide

/-! ### The formatter: the worked cases of section 2.10 -/

theorem test_format_case1 :
    formatValue { quote with width := 7, scale := 3, format := .decimal, options := ⟨true, false, false, false, false, false⟩ }
        (some (.number 1234567)) = ⟨[0x31, 0x32, 0x33, 0x34, 0x2E, 0x35, 0x37], true⟩ ∧
    formatValue { quote with width := 9, scale := 3, format := .decimal, options := ⟨true, false, false, false, false, false⟩ }
        (some (.number 1234567)) = ⟨[0x31, 0x2C, 0x32, 0x33, 0x34, 0x2E, 0x35, 0x36, 0x37], true⟩ := by decide

theorem test_format_case2 :
    formatValue { quote with width := 6, scale := 3, format := .decimal, options := ⟨true, false, false, false, false, false⟩ }
        (some (.number (-999996))) = ⟨[0x2D, 0x31, 0x2C, 0x30, 0x30, 0x30], true⟩ := by decide

theorem test_format_case3 :
    formatValue { quote with width := 2, scale := 3, format := .decimal, options := ⟨false, false, false, false, false, false⟩ }
        (some (.number (-4))) = ⟨[0x20, 0x30], true⟩ := by decide

theorem test_format_case4 :
    formatValue { quote with width := 8, scale := 6, format := .decimal, options := ⟨true, false, false, false, false, false⟩ }
        (some (.number 2147483647)) = ⟨[0x32, 0x31, 0x34, 0x37, 0x2E, 0x34, 0x38, 0x34], true⟩ := by decide

theorem test_format_case5 :
    formatValue { quote with width := 13, scale := 0, format := .decimal, options := ⟨true, false, false, false, false, false⟩ }
        (some (.number (-2147483648))) = ⟨[0x20, 0x20, 0x2D, 0x32, 0x31, 0x34, 0x37, 0x34, 0x38, 0x33, 0x36, 0x34, 0x38], true⟩ ∧
    formatValue { quote with width := 10, scale := 0, format := .decimal, options := ⟨true, false, false, false, false, false⟩ }
        (some (.number (-2147483648))) = ⟨[0x2A, 0x2A, 0x2A, 0x2A, 0x2A, 0x2A, 0x2A, 0x2A, 0x2A, 0x2A], false⟩ := by decide

theorem test_format_case6 :
    formatValue { quote with width := 4, scale := 2, format := .change, options := ⟨false, false, false, false, false, false⟩ }
        (some (.number 250)) = ⟨[0x2B, 0x32, 0x2E, 0x35], true⟩ ∧
    formatValue { quote with width := 3, scale := 2, format := .change, options := ⟨false, false, false, false, false, false⟩ }
        (some (.number 5)) = ⟨[0x20, 0x20, 0x30], true⟩ := by decide

theorem test_format_case7 :
    formatValue { quote with width := 9, scale := 8, format := .fraction, options := ⟨true, false, false, false, false, false⟩ }
        (some (.number (-1000000))) = ⟨[0x2D, 0x33, 0x39, 0x30, 0x36, 0x27, 0x30, 0x36, 0x34], true⟩ ∧
    formatValue { quote with width := 8, scale := 8, format := .fraction, options := ⟨true, false, false, false, false, false⟩ }
        (some (.number (-1000000))) = ⟨[0x2A, 0x2A, 0x2A, 0x2A, 0x2A, 0x2A, 0x2A, 0x2A], false⟩ := by decide

theorem test_format_case8 :
    formatValue { quote with width := 4, scale := 0, format := .volume, options := ⟨true, false, false, false, false, false⟩ }
        (some (.number 1250000)) = ⟨[0x31, 0x2E, 0x33, 0x4D], true⟩ ∧
    formatValue { quote with width := 1, scale := 0, format := .volume, options := ⟨true, false, false, false, false, false⟩ }
        (some (.number 1250000)) = ⟨[0x2A], false⟩ := by decide

theorem test_format_case9 :
    formatValue { quote with width := 5, scale := 0, format := .volume, options := ⟨true, false, false, false, false, false⟩ }
        (some (.number (-12345))) = ⟨[0x20, 0x2D, 0x31, 0x32, 0x4B], true⟩ ∧
    formatValue { quote with width := 3, scale := 0, format := .volume, options := ⟨true, false, false, false, false, false⟩ }
        (some (.number (-2147483648))) = ⟨[0x2D, 0x32, 0x42], true⟩ := by decide

/-- R43, R44, R45: a text is cut from its end, padded on the side away from its alignment, and a control code shows as the
box. -/
theorem test_format_text :
    (formatValue { quote with width := 3, format := .text } (some (.text [0x41, 0x07, 0x42, 0x43]))).glyphs =
        [0x41, 0x7F, 0x42] ∧
      (formatValue { quote with width := 3, format := .text, options := ⟨false, false, false, false, false, true⟩ }
        (some (.text [0x41]))).glyphs = [0x20, 0x20, 0x41] := by decide

/-! ### One step of each command -/

theorem test_identify : lastReply (after (.identify 5 (.fields ())) running) =
    some (0x81, [0x5A, 0x63, 0x01, 0x02, 0x00, 0x20, 0x02]) := by decide

/-- R160, R175, with the reset values of R105 and R161; bit 7 of byte 4 by assumption log 26. -/
theorem test_readStatus : lastReply (after (.readStatus 5 (.fields ())) running) =
    some (0x82, [0, 0, 2, 8, 0, 0, 0, 0, 0, 0, 0, 0, 0, 0, 0, 0, 0, 0x07, 0xFE, 0, 0, 0, 0]) := by decide

/-- R114: blink period 5 is stored as 8, age limit 0 as 1, lag threshold 513 as 512. -/
theorem test_configureDisplay :
    (after (.configureDisplay 9 (.fields ⟨1, 3, 4, 5, 0, 513⟩)) running).msg.pendingConfigure =
      some { geometry := .g100x36, fg := 3, bg := 4, blinkPeriod := 8, ageLimit := 1, lagThreshold := 512, tag := 9 } := by
  decide

/-- Section 5.11: first 14, count 4 stages entries 14 and 15. -/
theorem test_setPalette :
    let t := after (.setPalette 1 (.fields ⟨14, [⟨0x20, 0x20, 0x20⟩, ⟨0x30, 0x30, 0x30⟩, ⟨0x40, 0x40, 0x40⟩,
      ⟨0x50, 0x50, 0x50⟩]⟩)) running
    lastReply t = some (0x84, [2]) ∧ t.scr.stagedPalette[14]? = some (some ⟨0x20, 0x20, 0x20⟩) ∧
      t.scr.stagedPalette[15]? = some (some ⟨0x30, 0x30, 0x30⟩) := by decide

/-- Section 5.11: NORMAL, level 20 is staged as NORMAL, 15. -/
theorem test_displayMode : lastReply (after (.displayMode 1 (.fields ⟨0, 20⟩)) running) = some (0x85, [0, 15]) := by decide

/-- R111: a second SELECT PAGE is refused with BUSY while the first is pending. -/
theorem test_selectPage :
    lastReply (after (.selectPage 2 (.fields 1)) (after (.selectPage 1 (.fields 3)) running)) = some (0xFF, [10, 6]) := by
  decide

/-- Section 6.7: FREEZE with limit 2 in frame 5,000. -/
theorem test_freeze :
    let t := after (.freeze 1 (.fields ⟨2, 0⟩)) (atFrame running 5000)
    t.scr.freezeDeadline = some 5128 ∧ lastReply t = some (0x87, [2, 0, 0]) := by decide

/-- R121: NOT_FROZEN, and the READY slots counted. -/
theorem test_thaw :
    lastReply (after (.thaw 1 (.fields ())) running) = some (0xFF, [12, 8]) ∧
      lastReply (after (.thaw 1 (.fields ())) (after (.freeze 1 (.fields ⟨0, 0⟩)) rendered)) = some (0x88, [1]) := by decide

/-- R174: RESET DONE carries the tag of the RESET. -/
theorem test_reset :
    (after .resetDone (after (.reset 0x2A (.fields ()) ⟨true, false⟩) rendered)).lnk.replies =
      [⟨0x8F, 0x2A, [1], 0⟩] := by decide

/-- The requests of section 1.13, steps 3 and 5. -/
def define (number : Half) (row column width format scale options : Byte) : Instr :=
  .defineField 1 (.fields
    { number := number, page := 0, row := row, column := column, width := width, format := format, scale := scale,
      options := options, style := ⟨7, 0, 10, 9, 8, 11⟩, flashLength := 0, staleInterval := 0 })

theorem test_defineField_stores_scale_and_enqueues :
    let t := after (define 11 2 0 9 0 9 2) running
    ((t.field? 11).map Field.scale) = some 6 ∧ t.pnt.urgent = [11] ∧ lastReply t = some (0x90, [0, 11, 1, 1]) := by decide

theorem test_defineField_out_of_bounds :
    lastReply (after (define 13 2 75 6 2 0 0) running) = some (0xFF, [7, 0x10]) := by decide

/-- R16: the deadline counts from the last post frame. -/
theorem test_restyleField :
    let t := after (.restyleField 1 (.fields
      { number := 20, options := 0, style := ⟨1, 2, 3, 4, 5, 6⟩, flashLength := 1, staleInterval := 1 })) rendered
    ((t.field? 20).bind Field.staleDeadline) = some 567 := by decide

/-- Section 8.8: limits 10,100 and 9,900 around 10,000; and R18 check 4. -/
theorem test_setLimits :
    let s := after (.post 1 (.fields ⟨20, 10000⟩)) quoted
    lastReply (after (.setLimits 1 (.fields ⟨20, 3, 10100, 9900⟩)) s) = some (0x92, [0, 20, 0]) ∧
      lastReply (after (.setLimits 1 (.fields ⟨20, 3, 9900, 9900⟩)) s) = some (0xFF, [9, 0x12]) := by decide

/-- R20, R22: a visible field retires, an invisible one goes FREE. -/
theorem test_deleteField :
    lastReply (after (.deleteField 1 (.fields 20)) quoted) = some (0x93, [0, 20, 4]) ∧
      (after (.deleteField 1 (.fields 20)) (running.putField 20 { quote with page := .numbered 3 })).fields = [] := by decide

/-- R175: a numeric field's reply is 54 bytes. -/
theorem test_readField :
    ((lastReply (after (.readField 1 (.fields 20)) rendered)).map fun r => r.2.length) = some 54 := by decide

/-- Section 3.10: deadline 759, one ROUTINE entry; and section 8.8: a post that meets the upper limit raises. -/
theorem test_post :
    let t := after (.post 1 (.fields ⟨20, 10100⟩)) (atFrame quoted 503)
    ((t.field? 20).bind Field.staleDeadline) = some 759 ∧ t.pnt.routine = [⟨20, 0⟩] ∧
      lastReply t = some (0x98, [0, 20, 1, 0]) := by decide

theorem test_post_raises_alert :
    let t := after (.post 1 (.fields ⟨20, 10100⟩)) (running.putField 20 { quote with upper := some 10100 })
    t.aeu.alertList = [20] ∧ t.aeu.latched = 0x0080 ∧ t.pnt.urgent = [20] := by decide

/-- Section 3.13. -/
theorem test_postBatch :
    let s := ((running.putField 100 quote).putField 101 { quote with row := 2 }).putField 104
      { quote with row := 3, format := .text }
    let t := after (.postBatch 0x41 (.fields [⟨100, 5010⟩, ⟨103, 7000⟩, ⟨101, 4990⟩, ⟨104, 1⟩, ⟨100, 5020⟩])) s
    lastReply t = some (0x99, [3, 1, 5]) ∧ ((t.field? 100).bind Field.value) = some (.number 5020) ∧
      t.aeu.faultRecord = some ⟨0x19, 0x41, .wrongFormat, some 104, some 3, 0⟩ := by decide

/-- R61: the first 40 glyphs are stored. -/
theorem test_postText :
    (((after (.postText 1 (.fields ⟨20, List.replicate 41 0x41⟩)) (running.putField 20 { quote with format := .text })).field?
      20).bind Field.value) = some (.text (List.replicate 40 0x41)) := by decide

/-- Section 3.12: UNHOLD in frame 1,150 with stale interval 1. -/
theorem test_unhold :
    let t := after (.unhold 1 (.fields 31)) (atFrame (running.putField 31
      { quote with state := .held, staleInterval := 1, value := some (.number 265), lastPost := some 1130 }) 1150)
    ((t.field? 31).map fun f => (f.state, f.staleDeadline)) = some (.live, some 1214) ∧
      lastReply t = some (0x9B, [0, 31, 1]) := by decide

/-- Two latched fields, both listed. -/
def alerted : State :=
  let s := (running.putField 90 { quote with alertLatched := true, zone := .above }).putField 91
    { quote with row := 2, alertLatched := true, zone := .below }
  { s with aeu := { s.aeu with alertList := [91, 90] } }

theorem test_ackAlert :
    let t := after (.ackAlert 1 (.fields 91)) alerted
    t.aeu.alertList = [90] ∧ lastReply t = some (0xA0, [0, 91, 0, 1, 2]) ∧ t.pnt.routine = [⟨91, 0⟩] := by decide

theorem test_ackAlertAll :
    let t := after (.ackAlertAll 1) alerted
    t.aeu.alertList = [] ∧ lastReply t = some (0xA0, [0xFF, 0xFF, 0, 2, 0]) ∧ t.pnt.routine = [⟨90, 0⟩, ⟨91, 0⟩] := by decide

theorem test_readAlerts :
    lastReply (after (.readAlerts 1 (.fields ())) alerted) = some (0xA1, [2, 0, 91, 2, 0, 90, 1, 0, 0]) := by decide

theorem test_readWatch :
    let t := after (.readWatch 1 (.fields ()))
      { running with aeu := { running.aeu with watchList := [⟨26, .revive, 9011⟩] } }
    t.aeu.watchList = [] ∧ lastReply t = some (0xA2, [1, 0, 26, 1, 0, 0, 0x23, 0x33]) := by decide

/-- Section 9.7, frame 2: FRAME, REFUSAL, ALERT and WATCH latched. -/
def busyStretch : State :=
  { atFrame running 2 with aeu := { running.aeu with latched := 0x00B1, noticeOutstanding := true } }

theorem test_clearEvents :
    let t := after (.clearEvents 1 (.fields 0x0090)) busyStretch
    t.aeu.latched = 0x0021 ∧ lastReply t = some (0xA8, [0, 0x21, 1]) ∧
      (t.lnk.notice.map fun x => (x.latched, x.frame)) = some (0x0021, 2) := by decide

theorem test_setNoticeMask :
    let t := after (.setNoticeMask 1 (.fields 0xF880)) { busyStretch with aeu := { busyStretch.aeu with latched := 0x21 } }
    t.aeu.noticeMask = 0x0080 ∧ t.attn = false ∧ lastReply t = some (0xA9, [0, 0x80, 0, 0x21]) := by decide

/-- R159, R175; bits 2 to 7 of the parts byte by assumption log 26. -/
theorem test_readFault :
    lastReply (after (.readFault 1 (.fields ())) running) = some (0xAA, [0]) ∧
      lastReply (after (.readFault 1 (.fields ()))
        { running with aeu := { running.aeu with faultRecord := some ⟨0x18, 7, .notDefined, some 0x0103, none, 9⟩ } }) =
        some (0xAA, [1, 0x18, 7, 5, 1, 1, 3, 0, 0, 0, 0, 9]) := by decide

/-- Section 5.13: row 24, column 70: 10 cells are read, 11 are out of bounds. -/
theorem test_readCells :
    ((lastReply (after (.readCells 1 (.fields ⟨24, 70, 10⟩)) running)).map fun r => (r.1, r.2.length)) = some (0xB0, 26) ∧
      lastReply (after (.readCells 1 (.fields ⟨24, 70, 11⟩)) running) = some (0xFF, [7, 0x30]) := by decide

theorem test_unknownType : lastReply (after (.unknownType 0x98 1 []) running) = some (0xFF, [2, 0x98]) := by decide

/-- R152: CHECK_ERROR and REFUSAL latch together. -/
theorem test_badCheck :
    lastReply (after (.badCheck 0x18 1 []) running) = some (0xFF, [3, 0x18]) ∧
      (after (.badCheck 0x18 1 []) running).aeu.latched = 0x0012 := by decide

/-- R164: a whole frame is held in buffer 0; its CRC bytes are wrong. -/
theorem test_frameReceived :
    let t := after (.frameReceived (signalsOf [0x00, 0xC3, 0x01, 0x06, 0x09, 0x02, 0x00, 0x00])) running
    t.lnk.buffers = [(0, .held ⟨0x06, 0x09, [0x02], false⟩)] ∧ t.lnk.arrival = [0] := by decide +kernel

/-- R162: 0xC3 is taken least significant bit first with a low stop bit, a break is the LEN 0, and nothing more is taken until
the line returns high. -/
theorem test_break_is_one_zero_byte :
    let start : LineSignal := .character ⟨true, true, false, false, false, false, true, true, false⟩
    let t := after (.frameReceived [start, .heldLow, start, .heldLow]) running
    t.lnk.receiver = .inFrame (some 0) 4 ∧
      (after (.frameReceived [.returnsHigh, start]) t).lnk.receiver = .inFrame (some 0) 3 := by decide

theorem test_gapTimeout :
    let t := after .gapTimeout (after (.frameReceived (signalsOf [0xC3, 0x01, 0x06])) running)
    t.aeu.latched = 0x0004 ∧ t.lnk.buffers = [] ∧ t.lnk.receiver = .hunting := by decide

/-- R153, R106: after FREEZE_EXPIRED of boundary 5,128 a gap timeout's NOTICE carries 5,128. -/
theorem test_line_event_of_a_begun_boundary :
    let frozen := after (.freeze 1 (.fields ⟨2, 0⟩)) (atFrame running 5000)
    let s := after .freezeExpired (atFrame { frozen with aeu := { frozen.aeu with noticeMask := 0x0004 } } 5127)
    let t := after .gapTimeout (after (.frameReceived (signalsOf [0xC3])) s)
    t.lnk.notice.map (fun x => (x.latched, x.frame)) = some (0x0404, 5128) := by decide

/-- A part with RESET DONE waiting, TAG 0 and cause POWER (R174). -/
def waiting : State := after .resetDone State.reset

theorem test_transmitBegin :
    (after (.transmitBegin false) waiting).lnk.sending = none ∧
      (after (.transmitBegin true) waiting).lnk.sending =
        some (.reply [0xC3, 0x01, 0x8F, 0x00, 0x00, 0xE5, 0x1F]) := by decide +kernel

/-- R162: TXD sends 0xC3 as a low start bit, 1, 1, 0, 0, 0, 0, 1, 1 and a high stop bit, and is high before and after. -/
theorem test_txd :
    (List.range 11).map (after (.transmitBegin true) waiting).txd =
        [false, true, true, false, false, false, false, true, true, true, false] ∧
      waiting.txd 0 = true ∧ (after (.transmitBegin true) waiting).txd 70 = true := by decide +kernel

theorem test_transmitComplete :
    (after .transmitComplete (after (.transmitBegin true) waiting)).lnk.replies = [] := by decide +kernel

theorem test_resetn :
    let t := after (.resetn ⟨false, true⟩) rendered
    t.fields = [] ∧ t.resetCause = some .power ∧ Straps.baud t.lnk.rate = 460800 ∧ t.rdy = false := by decide

/-- R173: of a frame cut off after its first byte TXD completes that byte, 0xC3, and is then high. -/
theorem test_txd_completes_the_byte_being_sent :
    (List.range 12).map { State.reset with lnk := { State.reset.lnk with cut := [0xC3] } }.txd =
      [false, true, true, false, false, false, false, true, true, true, true, true] ∧
    (after .resetDone { State.reset with lnk := { State.reset.lnk with cut := [0xC3] } }).lnk.cut = [] := by decide

theorem test_resetDone : lastReply waiting = some (0x8F, [0]) ∧ waiting.rdy = true := by decide

/-- Sections 3.10, 3.11: the READY slot is committed, the shown value becomes 10,100, the deadline of its flash N + 12. -/
theorem test_frameBoundary :
    let t := after (.frameBoundary ⟨false, false, false⟩) { rendered with fields := [(20, { quote with
      value := some (.number 10100), lastPost := some 503, shown := some (.number 10000), shownFrame := some 500 })] }
    ((t.field? 20).bind Field.shown) = some (.number 10100) ∧ ((t.field? 20).bind Field.shownFrame) = some 504 ∧
      t.pnt.slots = [] ∧ (Memory.read t.scr.plane 83).glyph = 0x31 := by decide +kernel

/-- Section 5.12: the first toggle is at boundary 32. -/
theorem test_blinkToggle :
    (after .blinkToggle (atFrame running 31)).scr.blinkOn = false ∧
      (after .blinkToggle (atFrame running 32)).scr.blinkOn = true := by decide

/-- Section 6.7, case B. -/
theorem test_freezeExpired :
    let s := after (.freeze 1 (.fields ⟨2, 0⟩)) (atFrame running 5000)
    (after .freezeExpired (atFrame s 5127)).scr.frozen = false ∧
      (after .freezeExpired (atFrame s 5127)).aeu.latched = 0x0400 ∧
      (after .freezeExpired (atFrame s 5126)).scr.frozen = true := by decide

/-- Section 7.9: the stale expiry at boundary 3,228 and the flash expiry at boundary 3,012. -/
def quiet : Field :=
  { quote with
    options := ⟨false, false, false, true, true, false⟩, value := some (.number 5), lastPost := some 3100,
    staleDeadline := some 3228, flashDeadline := some 3012, staleInterval := 2 }

theorem test_staleExpiry :
    let t := after (.staleExpiry 50) (atFrame (running.putField 50 { quiet with flashDeadline := none }) 3227)
    ((t.field? 50).map Field.state) = some .stale ∧ t.aeu.watchList = [⟨50, .stale, 3228⟩] ∧
      t.pnt.routine = [⟨50, 0⟩] := by decide

theorem test_flashExpiry :
    let t := after (.flashExpiry 50) (atFrame (running.putField 50 quiet) 3011)
    ((t.field? 50).map fun f => (f.state, f.flashDeadline)) = some (.live, none) ∧ t.pnt.routine = [⟨50, 0⟩] := by decide

/-- Section 4.12: age limit 3, wait counts 2. -/
theorem test_aging :
    let t := after .aging { running with pnt := { running.pnt with routine := [⟨60, 2⟩, ⟨61, 2⟩], ageLimit := 3 } }
    t.pnt.urgent = [60, 61] ∧ t.pnt.routine = [] := by decide

/-- Section 6.6 in small: field 33 of page 0 is queued, fields 40 and 42 stand on page 1. -/
theorem test_pageChange :
    let urgent : Options := ⟨false, true, false, false, false, false⟩
    let s := ((running.putField 33 { quote with shown := some (.number 1), shownFrame := some 1 }).putField 40
      { quote with page := .numbered 1 }).putField 42 { quote with page := .numbered 1, row := 2, options := urgent }
    let t := after .pageChange { s with
      pnt := { s.pnt with routine := [⟨33, 4⟩] }, msg := { s.msg with pendingPage := some ⟨1, 0x22⟩ } }
    t.scr.page = 1 ∧ t.pnt.urgent = [42] ∧ t.pnt.routine = [⟨40, 0⟩] ∧ lastReply t = some (0x86, [1, 0, 2]) ∧
      ((t.field? 33).bind Field.shown) = none := by decide

/-- R116, R117: field 21 of row 30 does not fit 80 by 25 and goes FREE. -/
theorem test_configurationApply :
    let s := quoted.putField 21 { quote with row := 30 }
    let t := after .configurationApply { s with
      scr := { s.scr with geometry := .g100x36 }
      msg := { s.msg with pendingConfigure := some ⟨.g80x25, 7, 0, 32, 20, 256, 0x33⟩ } }
    t.scr.geometry = .g80x25 ∧ t.numbers = [20] ∧ t.pnt.routine = [⟨20, 0⟩] ∧ lastReply t = some (0x83, [0, 0, 1]) := by
  decide

theorem test_renderBegin :
    let t := after .renderBegin (after (.post 1 (.fields ⟨20, 10100⟩)) quoted)
    t.pnt.routine = [] ∧ t.rendering = true ∧ t.slotFor 20 = some 0 := by decide

/-- Section 3.10: the text of 10,100 at scale 2 in width 7. -/
theorem test_renderComplete :
    (rendered.pnt.slots.map fun e => match e.2.content with
      | .ready r => r.cells.map Cell.glyph
      | .filling _ _ => []) = [[0x20, 0x31, 0x30, 0x31, 0x2E, 0x30, 0x30]] := by decide

/-- The colour cases of chapter 4: a tick UP marked flash start, and the same with the alert latched. -/
theorem test_colours :
    let f := { quote with value := some (.number 2), shown := some (.number 1), shownFrame := some 1, lastPost := some 1 }
    (f.cellStyle 5).fg = 0 ∧ (f.cellStyle 5).bg = 10 ∧
      ({ f with alertLatched := true }.cellStyle 5).bg = 11 ∧ ({ f with alertLatched := true }.cellStyle 5).blink = true := by
  decide

/-- Section 7.11: deadlines across the wrap. -/
theorem test_deadlines_across_the_wrap :
    reached 344 343 = false ∧ reached 344 344 = true ∧ reached 4294967290 0 = true ∧
      reached 4294967290 2147483641 = true ∧ reached 4294967290 2147483642 = false := by decide

/-! ### Witnesses: a state and operands that meet the hypotheses of each statement, clause by clause -/

/-- Every request can be taken while the part runs and nothing waits. -/
theorem running_ready (c : Instr) (h : c.frame?.isSome = true) : running.ready c = true := by
  unfold State.ready
  cases hf : c.frame? with
  | none => simp [hf] at h
  | some f => rfl

theorem witness_StepRunsFrontCommand :
    { running with pending := [.aging, .pageChange] }.pending = .aging :: [.pageChange] ∧ State.reset.pending = [] := by
  decide

/-- A break holds RXD low. -/
def broken : State := after (.frameReceived [.heldLow]) running

/-- One state for each reason to wait. -/
theorem witness_RequestWaitsForMessageUnit :
    (Instr.identify 1 (.fields ())).frame? = some (goodFrame 0x01 1 []) ∧ running.boundary = none ∧
      State.reset.resetCause ≠ none ∧
      { running with msg := { running.msg with inHand := some (goodFrame 0x01 2 []) } }.msg.inHand ≠ none ∧
      8 ≤ { running with lnk := { running.lnk with replies := List.replicate 8 ⟨0x81, 0, [], 0⟩ } }.entriesUsed ∧
      (after (.frameReceived (signalsOf [0xC3])) running).lnk.receiver ≠ .hunting ∧
      (after (.frameReceived (signalsOf [0xC3])) running).lnk.arrival = [] ∧
      broken.lnk.arrival = [] ∧ broken.lnk.rxLow = true ∧ broken.boundary = none ∧
      Store.find? 0 [(0, Buffer.held (goodFrame 0x02 9 []))] ≠ some (.held (goodFrame 0x01 1 [])) := by decide

theorem witness_RequestFindsBoundaryOver :
    (Instr.identify 1 (.fields ())).frame? = some (goodFrame 0x01 1 []) ∧ (after .aging running).boundary ≠ none ∧
      (after .aging running).resetCause = none := by decide

/-- The longest payloads, and a RESET. -/
theorem witness_FrameOfRequestReadsBack :
    (Instr.postText 1 (.fields ⟨511, zeros 238⟩)).wellFormed = true ∧
      (Instr.setPalette 1 (.fields ⟨15, List.replicate 79 ⟨0, 0, 0⟩⟩)).wellFormed = true ∧
      (Instr.postBatch 1 (.fields (List.replicate 39 ⟨0, 0⟩))).wellFormed = true ∧
      (Instr.reset 1 (.fields ()) ⟨true, false⟩).wellFormed = true ∧
      (Instr.post 1 (.wrongLength (zeros 240))).wellFormed = true := by decide +kernel

/-- Buffers 0 to 4 in use. -/
def fiveHeld : List (Nat × Buffer) := (List.range 5).map fun k => (k, .held (goodFrame 0x01 0 []))

def nearlyFull : State := { running with lnk := { running.lnk with buffers := fiveHeld, arrival := List.range 5 } }

/-- Bytes whose stop bits have one level. -/
def charactersOf (stop : Bool) (bytes : List Byte) : List LineSignal := bytes.map fun b => .character (characterOf b stop)

theorem charactersOf_carries (stop : Bool) (bytes : List Byte) (i : Nat) (b : Byte) (h : bytes[i]? = some b) :
    ∃ level, (charactersOf stop bytes)[i]? = some (LineSignal.character ⟨b.getLsbD 0, b.getLsbD 1, b.getLsbD 2,
      b.getLsbD 3, b.getLsbD 4, b.getLsbD 5, b.getLsbD 6, b.getLsbD 7, level⟩) :=
  ⟨stop, by simp [charactersOf, h, characterOf]⟩

/-- The first and the last buffer, an empty payload with low stop bits and the longest one with high ones; and a part whose RXD is
high, and one whose RXD a break holds low. -/
theorem witness_ReceivedFrameIsHeld :
    ((running.resetCause = none ∧ running.lnk.rxLow = false ∧ running.lnk.receiver = .hunting ∧
        Store.find? 0 running.lnk.buffers = none) ∧
      (nearlyFull.resetCause = none ∧ nearlyFull.lnk.rxLow = false ∧ nearlyFull.lnk.receiver = .hunting ∧
        (zeros 240).length ≤ 240 ∧ Store.find? 5 nearlyFull.lnk.buffers = none ∧
        ∀ j < 5, Store.find? j nearlyFull.lnk.buffers ≠ none) ∧
      broken.resetCause = none ∧ broken.lnk.rxLow = true) ∧
    ∀ stop, ∀ payload ∈ [[], zeros 240],
      let bytes : List Byte := 0xC3 :: byteOfNat payload.length :: 0x18 :: 0x01 :: payload ++ [0, 0]
      (charactersOf stop bytes).length = bytes.length ∧
        ∀ (i : Nat) (b : Byte), bytes[i]? = some b → ∃ level, (charactersOf stop bytes)[i]? = some (LineSignal.character
          ⟨b.getLsbD 0, b.getLsbD 1, b.getLsbD 2, b.getLsbD 3, b.getLsbD 4, b.getLsbD 5, b.getLsbD 6, b.getLsbD 7, level⟩) :=
  ⟨by decide +kernel, fun stop _ _ => ⟨by simp [charactersOf], charactersOf_carries stop _⟩⟩

theorem witness_FrameWithoutBufferIsDiscarded :
    let s := { nearlyFull with lnk := { nearlyFull.lnk with buffers := fiveHeld ++ [(5, Buffer.filling [])] } }
    s.resetCause = none ∧ s.lnk.rxLow = false ∧ s.lnk.receiver = .hunting ∧ (∀ j < 6, Store.find? j s.lnk.buffers ≠ none) ∧
      (zeros 240).length ≤ 240 ∧ 240 < (241 : Byte).toNat := by decide +kernel

/-- Between boundaries, and with a boundary begun. -/
theorem witness_FramingEndsFrame :
    running.resetCause = none ∧ running.lnk.receiver = .hunting ∧ (0xC2 : Byte) ≠ 0xC3 ∧ 240 < (241 : Byte).toNat ∧
      running.lnk.rxLow = false ∧
      Store.find? 0 running.lnk.buffers = none ∧ (after (.frameReceived (signalsOf [0xC3])) running).lnk.receiver ≠ .hunting ∧
      (after (.frameReceived (signalsOf [0xC3, 240])) running).lnk.receiver ≠ .hunting ∧ running.boundary = none ∧
      (after .aging (after (.frameReceived (signalsOf [0xC3])) running)).boundary ≠ none ∧
      (after .aging (after (.frameReceived (signalsOf [0xC3])) running)).lnk.receiver ≠ .hunting := by decide

/-- A reply alone, a NOTICE before a reply, and a reply before a NOTICE. -/
theorem witness_TransmitterBeginsEarliestFrame :
    let r : Reply := ⟨0x81, 1, [], 4⟩
    let x : Notice := ⟨0x10, 7, 3⟩
    let s := { running with lnk := { running.lnk with replies := [r], notice := some x } }
    running.resetCause = none ∧ running.lnk.sending = none ∧ running.lnk.replies = [] ∧ running.lnk.notice = none ∧
      s.lnk.sending = none ∧ s.lnk.notice = some x ∧ s.lnk.replies = r :: [] ∧ x.placed < r.placed ∧
      waiting.lnk.notice = none ∧ waiting.lnk.replies ≠ [] := by decide

theorem witness_TransmitterCompletesFrame :
    running.lnk.sending = none ∧ running.resetCause = none ∧ State.reset.resetCause ≠ none ∧ State.reset.lnk.cut = [] ∧
      { running with lnk := { running.lnk with sending := some (.reply [0xC3]) } }.lnk.sending = some (.reply [0xC3]) ∧
      { running with lnk := { running.lnk with sending := some (.notice [0xC3]) } }.lnk.sending =
        some (.notice [0xC3]) := by decide

/-- An idle transmitter, and one that is sending. -/
theorem witness_ResetRequestBeginsReset :
    running.ready (.reset 0xFF (.fields ()) ⟨true, true⟩) = true ∧ running.lnk.sending = none ∧
      (after (.transmitBegin true) waiting).ready (.reset 0xFF (.fields ()) ⟨true, true⟩) = true ∧
      (after (.transmitBegin true) waiting).lnk.sending ≠ none := by decide +kernel

/-- A frame that is being sent is cut off after a byte of it, whichever the free value names (R173). -/
theorem witness_ResetPinBeginsReset :
    let sending := { running with lnk := { running.lnk with sending := some (.reply [0xC3, 0x01]) } }
    (∀ k, sending.cutOff (sending.lnk.bytesBegun k)) ∧ (sending.lnk.bytesBegun 0 = [0xC3]) ∧
      sending.lnk.bytesBegun 19 = [0xC3, 0x01] :=
  ⟨fun k => Link.bytesBegun_cutOff _ k, rfl, rfl⟩

theorem witness_ResetCompletionPlacesResetDone :
    running.resetCause = none ∧ State.reset.resetCause = some .power ∧
      (after (.reset 7 (.fields ()) ⟨true, true⟩) running).resetCause = some (.request 7) := by decide

theorem witness_ResetProcessingTakesNothing :
    State.reset.resetCause ≠ none ∧ State.reset.lnk.sending = none ∧ Instr.aging ≠ .resetDone ∧
      ∀ straps, Instr.aging ≠ .resetn straps := by
  exact ⟨by decide, rfl, by decide, fun _ h => nomatch h⟩

theorem witness_FrameChecksRefuse :
    running.ready (.badCheck 0x18 1 []) = true ∧ running.ready (.unknownType 0x00 1 []) = true ∧
      running.ready (.identify 1 (.wrongLength [0])) = true ∧ running.ready (.postText 1 (.wrongLength [0])) = true := by
  decide

/-- The numbers 512 and 511, and a RETIRING field. -/
theorem witness_FieldNumberChecks :
    let retiring := running.putField 511 { quote with state := .retiring }
    512 ≤ (512 : Half).toNat ∧ running.ready (.deleteField 1 (.fields 512)) = true ∧ (511 : Half).toNat < 512 ∧
      (∀ f, retiring.field? 511 = some f → f.state = .retiring) ∧ retiring.ready (.unhold 1 (.fields 511)) = true ∧
      running.field? 511 = none ∧ running.ready (.readField 1 (.fields 511)) = true := by
  refine ⟨by decide, by decide, by decide, ?_, by decide, by decide, by decide⟩
  intro f hf
  obtain rfl := Option.some.inj hf
  rfl

/-- A request for each check: in use, a width of 41, pending, out of bounds, overlap. -/
theorem witness_DefineFieldChecks :
    (20 : Half).toNat < 512 ∧ quoted.ready (define 20 1 2 7 0 0 0) = true ∧ quoted.field? 20 ≠ none ∧
      quoted.field? 21 = none ∧ quoted.ready (define 21 1 2 41 0 0 0) = true ∧ 40 < (41 : Byte).toNat ∧
      { quoted with msg := { quoted.msg with pendingConfigure := some ⟨.g80x25, 7, 0, 32, 20, 256, 1⟩ } }.ready
        (define 21 5 0 7 0 0 0) = true ∧
      quoted.ready (define 21 25 0 7 0 0 0) = true ∧ quoted.ready (define 21 1 8 7 0 0 0) = true := by decide

theorem witness_FormatAndStateChecks :
    let text := running.putField 20 { quote with format := .text }
    (20 : Half).toNat < 512 ∧ text.ready (.setLimits 1 (.fields ⟨20, 3, 5, 5⟩)) = true ∧
      quoted.ready (.setLimits 1 (.fields ⟨20, 3, 5, 5⟩)) = true ∧ (5 : Word).toInt ≤ (5 : Word).toInt ∧
      text.ready (.post 1 (.fields ⟨20, 1⟩)) = true ∧ quoted.ready (.postText 1 (.fields ⟨20, []⟩)) = true ∧
      quoted.ready (.unhold 1 (.fields 20)) = true ∧ quote.format ≠ .text ∧ quote.state ≠ .held := by decide

/-- A part frozen, and one with an operation pending. -/
def frozen : State := { running with scr := { running.scr with frozen := true } }

def pagePends : State := { running with msg := { running.msg with pendingPage := some ⟨1, 0x22⟩ } }

theorem witness_ScreenRequestChecks :
    running.ready (.setPalette 1 (.fields ⟨16, [⟨0, 0, 0⟩]⟩)) = true ∧ 15 < (16 : Byte).toNat ∧
      (Instr.setPalette 1 (.fields ⟨16, [⟨0, 0, 0⟩]⟩)).wellFormed = true ∧
      running.ready (.displayMode 1 (.fields ⟨4, 0⟩)) = true ∧ 3 < (4 : Byte).toNat ∧
      running.ready (.selectPage 1 (.fields 4)) = true ∧ frozen.ready (.selectPage 1 (.fields 3)) = true ∧
      pagePends.ready (.selectPage 1 (.fields 3)) = true ∧ pagePends.msg.pendingPage ≠ none ∧
      running.ready (.configureDisplay 1 (.fields ⟨3, 0, 0, 0, 0, 0⟩)) = true ∧
      frozen.ready (.configureDisplay 1 (.fields ⟨2, 0, 0, 0, 0, 0⟩)) = true ∧
      pagePends.ready (.configureDisplay 1 (.fields ⟨2, 0, 0, 0, 0, 0⟩)) = true ∧
      running.ready (.thaw 1 (.fields ())) = true ∧ running.ready (.readCells 1 (.fields ⟨0, 0, 81⟩)) = true ∧
      running.ready (.readCells 1 (.fields ⟨24, 70, 11⟩)) = true := by decide

theorem witness_IdentifyReportsPart :
    running.ready (.identify 1 (.fields ())) = true ∧ running.ready (.identify 1 (.wrongLength [0])) = true := by decide

theorem witness_ReadStatusReportsState :
    running.ready (.readStatus 1 (.fields ())) = true ∧ running.ready (.readStatus 1 (.wrongLength [0])) = true := by decide

/-- A field with a READY slot, and one with none. -/
theorem witness_ReadFieldReportsRecord :
    (20 : Half).toNat < 512 ∧ quoted.field? 20 = some quote ∧ quoted.ready (.readField 1 (.fields 20)) = true ∧
      (∀ e ∈ quoted.pnt.slots, e.2.field ≠ some 20) ∧ rendered.ready (.readField 1 (.fields 20)) = true ∧
      (rendered.field? 20).isSome = true ∧ ∃ e ∈ rendered.pnt.slots, e.2.field = some 20 := by decide

theorem witness_ReadAlertsReportsList :
    alerted.ready (.readAlerts 1 (.fields ())) = true ∧ alerted.ready (.readAlerts 1 (.wrongLength [0])) = true ∧
      (alerted.field? 90).map Field.zone = some .above ∧ (alerted.field? 91).map Field.zone = some .below := by decide

theorem witness_ReadFaultReportsRecord :
    let s := after (.post 1 (.fields ⟨600, 1⟩)) running
    running.ready (.readFault 1 (.fields ())) = true ∧ running.aeu.faultRecord = none ∧ s.aeu.faultRecord ≠ none ∧
      s.ready (.readFault 1 (.fields ())) = true ∧ running.ready (.readFault 1 (.wrongLength [0])) = true := by decide

/-- The last ten cells of the plane (section 5.13). -/
theorem witness_ReadCellsReportsPlane :
    24 < running.scr.geometry.rows ∧ 70 < running.scr.geometry.columns ∧
      24 * running.scr.geometry.columns + 70 + 10 ≤ running.scr.geometry.cells ∧
      running.ready (.readCells 1 (.fields ⟨24, 70, 10⟩)) = true ∧ running.ready (.readCells 1 (.fields ⟨0, 0, 80⟩)) = true := by
  decide

theorem witness_ReadWatchDrainsList :
    running.ready (.readWatch 1 (.fields ())) = true ∧ running.ready (.readWatch 1 (.wrongLength [0])) = true := by decide

/-- COMMON and page 3, width 40 up to the last column, row 24. -/
theorem witness_DefineFieldWritesRecord :
    (511 : Half).toNat < 512 ∧ running.field? 511 = none ∧ (3 : Byte) = (3 : BitVec 2).zeroExtend 8 ∧
      (4 : Byte) = Format.text.code ∧ 1 ≤ (40 : Byte).toNat ∧ (40 : Byte).toNat ≤ 40 ∧
      running.msg.pendingConfigure = none ∧ (24 : Byte).toNat < running.scr.geometry.rows ∧
      (40 : Byte).toNat + (40 : Byte).toNat ≤ running.scr.geometry.columns ∧ running.fields = [] ∧
      running.ready (define 511 24 40 40 4 0 0) = true := by decide

theorem witness_RestyleFieldReplacesStyle :
    (20 : Half).toNat < 512 ∧ quoted.field? 20 = some quote ∧ quote.state ≠ .retiring ∧
      quoted.ready (.restyleField 1 (.fields ⟨20, 0, ⟨0, 0, 0, 0, 0, 0⟩, 0, 0⟩)) = true := by decide

theorem witness_SetLimitsReplacesLimits :
    (20 : Half).toNat < 512 ∧ quoted.field? 20 = some quote ∧ quote.state ≠ .retiring ∧ quote.format ≠ .text ∧
      (5 : Word).toInt < (6 : Word).toInt ∧ quoted.ready (.setLimits 1 (.fields ⟨20, 3, 6, 5⟩)) = true := by decide

/-- A visible field, and one of a page not selected. -/
theorem witness_DeleteFieldRetiresOrFrees :
    let hidden := running.putField 20 { quote with page := .numbered 3 }
    (20 : Half).toNat < 512 ∧ quoted.field? 20 = some quote ∧ quote.state ≠ .retiring ∧ quoted.tableLaw ∧
      quoted.shows quote = true ∧ quoted.ready (.deleteField 1 (.fields 20)) = true ∧ hidden.tableLaw ∧
      hidden.shows { quote with page := .numbered 3 } = false ∧ hidden.ready (.deleteField 1 (.fields 20)) = true := by
  unfold State.tableLaw
  decide

theorem witness_PostStoresValue :
    (20 : Half).toNat < 512 ∧ quoted.field? 20 = some quote ∧ quote.state ≠ .retiring ∧ quote.format ≠ .text ∧
      quoted.ready (.post 1 (.fields ⟨20, 10100⟩)) = true := by decide

theorem witness_PostTextStoresGlyphs :
    let s := running.putField 20 { quote with format := .text }
    (20 : Half).toNat < 512 ∧ s.field? 20 = some { quote with format := .text } ∧
      s.ready (.postText 1 (.fields ⟨20, [0x41]⟩)) = true := by decide

/-- An accepted entry, then a refused one, then an accepted one of the same field. -/
theorem witness_PostBatchAppliesEntries :
    quoted.ready (.postBatch 1 (.fields [⟨20, 1⟩, ⟨21, 2⟩, ⟨20, 3⟩])) = true ∧ quoted.field? 20 = some quote ∧
      (Instr.postBatch 1 (.fields [⟨20, 1⟩, ⟨21, 2⟩, ⟨20, 3⟩])).wellFormed = true ∧
      quoted.field? 21 = none ∧ quoted.ready (.postBatch 1 (.fields [⟨20, 1⟩])) = true ∧
      (Instr.postBatch 1 (.fields [⟨20, 1⟩])).wellFormed = true := by decide

theorem witness_UnholdReleasesField :
    let s := running.putField 20 { quote with state := .held }
    (20 : Half).toNat < 512 ∧ s.field? 20 = some { quote with state := .held } ∧
      s.ready (.unhold 1 (.fields 20)) = true := by decide

theorem witness_AckAlertClearsLatch :
    (91 : Half).toNat < 512 ∧ ((alerted.field? 91).map fun f => (f.state, f.alertLatched)) = some (.live, true) ∧
      alerted.ready (.ackAlert 1 (.fields 91)) = true ∧ quote.alertLatched = false ∧ quoted.field? 20 = some quote ∧
      quoted.ready (.ackAlert 1 (.fields 20)) = true := by decide

theorem witness_AckAlertAllClearsLatches :
    alerted.tableLaw ∧ alerted.alertLaw ∧ alerted.ready (.ackAlertAll 1) = true ∧
      ((alerted.fields.filter fun e => e.2.alertLatched && e.2.state != .retiring).map Prod.fst) = [90, 91] := by
  refine ⟨⟨rfl, by decide⟩, ⟨by decide, by decide, ?_⟩, by decide, by decide⟩
  intro n hn
  rcases List.mem_cons.1 hn with rfl | hn
  · exact ⟨_, rfl, rfl⟩
  · obtain rfl := List.mem_singleton.1 hn
    exact ⟨_, rfl, rfl⟩

/-- One mask under which a NOTICE is due, and one under which none is. -/
theorem witness_ClearEventsClearsLatches :
    busyStretch.ready (.clearEvents 1 (.fields 0x0090)) = true ∧
      busyStretch.aeu.latched &&& ~~~(0x0090 : Half) &&& busyStretch.aeu.noticeMask ≠ 0 ∧
      busyStretch.aeu.latched &&& ~~~(0x00B0 : Half) &&& busyStretch.aeu.noticeMask = 0 ∧
      busyStretch.ready (.clearEvents 1 (.wrongLength [0])) = true := by decide

theorem witness_SetNoticeMaskReplacesMask :
    let s := after (.frameBoundary ⟨false, false, false⟩) running
    s.ready (.setNoticeMask 1 (.fields 0x0001)) = true ∧ s.aeu.noticeOutstanding = false ∧
      s.aeu.latched &&& (0x0001 &&& 0x07FF) ≠ 0 ∧ s.aeu.latched &&& (0x0002 &&& 0x07FF) = 0 ∧
      s.ready (.setNoticeMask 1 (.wrongLength [0])) = true := by decide +kernel

/-- The laws of the screen hold of a part that runs. -/
theorem running_screenLaw : running.screenLaw := by
  refine ⟨rfl, rfl, by decide, ?_, by decide, by decide, by decide, by decide, by decide, by decide, ?_,
    fun _ => ⟨rfl, rfl⟩⟩
  · intro _ _ h
    exact absurd h (by simp [running, State.reset, Screen.reset, Message.reset])
  · intro _ h
    exact absurd h (by simp [running, State.reset, Screen.reset, Message.reset])

/-- The first index 15, and brightness levels 15 and 16. -/
theorem witness_PaletteAndModeAreStaged :
    running.screenLaw ∧ (15 : Byte).toNat ≤ 15 ∧ (Instr.setPalette 1 (.fields ⟨15, [⟨0, 0, 0⟩]⟩)).wellFormed = true ∧
      running.ready (.setPalette 1 (.fields ⟨15, [⟨0, 0, 0⟩]⟩)) = true ∧
      running.ready (.displayMode 1 (.fields ⟨DisplayMode.flood.code, 15⟩)) = true ∧
      running.ready (.displayMode 1 (.fields ⟨DisplayMode.flood.code, 16⟩)) = true :=
  ⟨running_screenLaw, by decide, by decide, by decide, by decide, by decide⟩

theorem witness_PageAndConfigurationWait :
    running.scr.frozen = false ∧ running.msg.pendingPage = none ∧ running.msg.pendingConfigure = none ∧
      running.ready (.selectPage 1 (.fields ((3 : BitVec 2).zeroExtend 8))) = true ∧
      running.ready (.configureDisplay 1 (.fields ⟨Geometry.g132x48.code, 15, 0, 255, 255, 0xFFFF⟩)) = true := by decide

theorem witness_FreezeAndThaw :
    running.ready (.freeze 1 (.fields ⟨255, 1⟩)) = true ∧ frozen.ready (.freeze 1 (.fields ⟨0, 0⟩)) = true ∧
      frozen.scr.frozen = true ∧ frozen.ready (.thaw 1 (.fields ())) = true := by decide

/-! The paint statements: a field in the queue, a render in flight, a READY slot, a slot marked discard. -/

def queued : State := after (.post 1 (.fields ⟨20, 10100⟩)) quoted

def rendering : State := after .renderBegin queued

def discarding : State := { running with
  pnt := { running.pnt with slots := [(31, ⟨none, .filling (running.renderInputs quote) true⟩)] } }

theorem slotLaw_of_empty {s : State} (h : s.pnt.slots = []) : s.slotLaw := by
  unfold State.slotLaw
  rw [h]
  refine ⟨rfl, ?_, by decide, by decide, ?_⟩ <;> intro _ he <;> exact absurd he List.not_mem_nil

theorem slotLaw_of_one {s : State} {k n : Nat} {content : SlotContent} (h : s.pnt.slots = [(k, ⟨some n, content⟩)])
    (hk : k < 32) (hb : Slot.belongs ⟨some n, content⟩) (hn : s.onScreen n) : s.slotLaw := by
  unfold State.slotLaw
  rw [h]
  refine ⟨rfl, ?_, ?_, by simp, ?_⟩
  · intro e he
    obtain rfl := List.mem_singleton.1 he
    exact ⟨hk, hb⟩
  · simp only [List.filter_cons, List.filter_nil]
    split <;> simp
  · intro e he m hm
    obtain rfl := List.mem_singleton.1 he
    obtain rfl := Option.some.inj hm
    exact hn

/-- An entry served from the FREE slot 0; one served in its own READY slot; a frozen part; a render in flight; an empty queue. -/
theorem witness_RenderBeginsFirstServable :
    (queued.resetCause = none ∧ queued.boundary = none ∧ queued.slotLaw ∧ queued.scr.frozen = false ∧
      queued.scanOrder = [] ++ 20 :: [] ∧ (queued.field? 20).isSome = true ∧ Store.find? 0 queued.pnt.slots = none) ∧
      (let s := after (.post 1 (.fields ⟨20, 10200⟩)) rendered;
        s.boundary = none ∧ s.slotLaw ∧ s.scanOrder = [] ++ 20 :: [] ∧
          (∃ e ∈ s.pnt.slots, e.1 = 0 ∧ e.2.field = some 20)) ∧
      frozen.slotLaw ∧ frozen.scr.frozen = true ∧ running.slotLaw ∧ running.scanOrder = [] ∧
      ∃ e ∈ rendering.pnt.slots, e.2.content.isFilling = true := by
  refine ⟨⟨rfl, rfl, slotLaw_of_empty rfl, rfl, by decide, by decide, by decide⟩, ⟨rfl, ?_, by decide, by decide⟩,
    slotLaw_of_empty rfl, rfl, slotLaw_of_empty rfl, by decide, by decide⟩
  exact slotLaw_of_one (k := 0) (n := 20) rfl (by decide) rfl ⟨_, rfl, rfl⟩

theorem witness_RenderCompletes :
    (∀ e ∈ running.pnt.slots, e.2.content.isFilling = false) ∧ running.slotLaw ∧
      (rendering.resetCause = none ∧ rendering.boundary = none ∧ rendering.slotLaw ∧ (rendering.field? 20).isSome = true ∧
        ∃ i, (0, ⟨some 20, .filling i false⟩) ∈ rendering.pnt.slots ∧ i.kind = .value) ∧
      (let s := after .renderBegin (after (.deleteField 1 (.fields 20)) quoted);
        s.slotLaw ∧ s.boundary = none ∧ ∃ i, (0, ⟨some 20, .filling i false⟩) ∈ s.pnt.slots ∧ i.kind = .blank) ∧
      discarding.slotLaw ∧ (31, ⟨none, .filling (running.renderInputs quote) true⟩) ∈ discarding.pnt.slots := by
  refine ⟨by decide, slotLaw_of_empty rfl, ⟨rfl, rfl, ?_, by decide, _, List.mem_singleton.2 rfl, rfl⟩,
    ⟨?_, rfl, _, List.mem_singleton.2 rfl, rfl⟩, ?_, List.mem_singleton.2 rfl⟩
  · exact slotLaw_of_one (k := 0) (n := 20) rfl (by decide) rfl ⟨_, rfl, rfl⟩
  · exact slotLaw_of_one (k := 0) (n := 20) rfl (by decide) rfl ⟨_, rfl, rfl⟩
  · refine ⟨rfl, ?_, by decide, by decide, ?_⟩
    · intro e he
      obtain rfl := List.mem_singleton.1 he
      exact ⟨by decide, rfl⟩
    · intro e he n hn
      obtain rfl := List.mem_singleton.1 he
      exact nomatch hn

/-- No candidate fits a width of 1; the fourth candidate is the first to fit a width of 7 (worked cases 1 and 8); a text longer and
one shorter than its field; the scale 0 and the ends of FRACTION's range. -/
theorem witness_FormatterText :
    (∀ text ∈ numericCandidates { quote with width := 1 } 1234567, 1 < text.length) ∧
      ((numericCandidates { quote with scale := 3, options := ⟨true, false, false, false, false, false⟩ } 1234567).map
        List.length).take 4 = [9, 8, 8, 7] ∧
      { quote with width := 3, format := .text }.width ≤ [(0x41 : Byte), 0x07, 0x42, 0x43].length ∧
      [(0x41 : Byte)].length ≤ { quote with width := 3, format := .text }.width ∧
      { quote with scale := 0 }.scale ≤ 8 ∧ { quote with scale := 0 }.format ≠ .fraction ∧
      (∀ k ∈ [1, 8], { quote with format := .fraction, scale := k }.scale ≤ 8 ∧
        1 ≤ { quote with format := .fraction, scale := k }.scale) ∧ quote.format ≠ .text := by decide

/-- A steady, a flashing, a STALE, a HELD and a latched field, each meeting the condition of one clause. -/
theorem witness_RenderShowsStateAndColours :
    ({ quote with value := some (.number 2), shown := some (.number 1) }.flashStarts = true) ∧
      quote.flashDeadline = none ∧ { quote with state := .stale }.state = .stale ∧
      { quote with state := .held, alertLatched := true }.alertLatched = true ∧
      { quote with format := .change, value := some (.number 0xFFFFFFFF) }.renderDirection = .none := by
  decide

/-- R94: entry 1 of the reset palette is red on PNL's upper eight bits, and entry 4 blue on its lower eight. -/
theorem test_pnl :
    let s := { running with scr := { running.scr with mode := .flood, plane := [(0, ⟨0x20, 7, 1, false, false⟩),
      (1, ⟨0x20, 7, 4, false, false⟩)] } }
    s.pnl 0 0 = 0xC00000 ∧ s.pnl 0 8 = 0x0000C0 := by decide

/-- Each mode, with a cell whose row 15 is lit by its underline and one, blinking in the off phase, whose row 15 is hidden; and a
cell of the substitute box. -/
theorem witness_PixelsShowMode :
    let lined : Cell := ⟨0x20, 7, 1, true, true⟩
    let shown (m : DisplayMode) : State :=
      { running with scr := { running.scr with mode := m, plane := [(0, lined)] } }
    (∀ m ∈ [DisplayMode.normal, .reverse, .blank, .flood], (shown m).resetCause = none ∧ (shown m).scr.mode = m) ∧
      Memory.read (shown .normal).scr.plane 0 = lined ∧ (shown .normal).scr.blinkOn = true ∧
      (shown .normal).pixel 15 0 = ⟨0xC0, 0xC0, 0xC0⟩ ∧
      { shown .normal with scr := { (shown .normal).scr with blinkOn := false } }.pixel 15 0 = ⟨0xC0, 0x00, 0x00⟩ ∧
      (Memory.read [(1, (⟨0x7F, 7, 1, false, false⟩ : Cell))] 1).glyph = 0x7F := by
  decide

/-- A part with a change of geometry pending. -/
def conf : PendingConfigure := ⟨.g132x48, 15, 1, 8, 255, 512, 0x33⟩

def configurationPends : State := { running with msg := { running.msg with pendingConfigure := some conf } }

/-- Frozen with a limit that boundary 1 reaches. -/
def limited : State :=
  { running with scr := { running.scr with frozen := true, freezeDeadline := some 1, timerHold := true } }

/-- Before boundary 3,012: field 40 and 50 due, their aging and, of field 40, the expiries taken, and 61 newly entered. -/
def partTaken : State :=
  let s := (atFrame running 3011).putField 40 { quiet with row := 3 } |>.putField 50 quiet
  { s with pnt := { s.pnt with routine := [⟨60, 18⟩, ⟨61, 0⟩] }
           boundary := some { held := false, aged := true, toggled := true, examined := 41, fresh := [61] } }

/-- The same before any part of the boundary is taken, 60 about to reach the age limit and 61 one short of it. -/
def nothingTaken : State :=
  { partTaken with pnt := { partTaken.pnt with routine := [⟨60, 19⟩, ⟨61, 18⟩] }, boundary := none }

theorem screenLaw_of_ranges {s : State} (hpalette : s.scr.palette.length = 16) (hstaged : s.scr.stagedPalette.length = 16)
    (hscr : s.scr.brightness = 8 ∧ s.scr.stagedMode = none ∧ s.scr.blinkPeriod = 32)
    (hpnt : s.pnt.ageLimit = 20 ∧ s.pnt.lagThreshold = 256)
    (hmsg : ∀ c, s.msg.pendingConfigure = some c → s.msg.pendingPage = none ∧ c = conf)
    (hfrozen : s.scr.frozen = false → s.scr.freezeDeadline = none ∧ s.scr.timerHold = false) : s.screenLaw := by
  obtain ⟨h1, h2, h3⟩ := hscr
  refine ⟨hpalette, hstaged, by omega, ?_, by omega, by omega, by omega, by omega, by omega, by omega, ?_, hfrozen⟩
  · simp [h2]
  · intro c hc
    obtain ⟨h, rfl⟩ := hmsg c hc
    exact ⟨h, by decide⟩

/-- Nothing due; the freeze limit reached; a page and a configuration pending; parts of the boundary taken ahead, and the same
parts not taken. -/
theorem witness_BoundaryAdvancesFrame :
    (running.resetCause = none ∧ running.boundary = none ∧ running.screenLaw ∧ running.scr.stagedMode = none) ∧
      (limited.resetCause = none ∧ limited.screenLaw ∧ limited.scr.frozen = true ∧
        deadlineReached limited.scr.freezeDeadline (limited.scr.frameCounter + 1)) ∧
      (pagePends.resetCause = none ∧ pagePends.screenLaw ∧ pagePends.msg.pendingPage = some ⟨1, 0x22⟩ ∧
        ¬pagePends.heldFrozen 1) ∧
      (configurationPends.resetCause = none ∧ configurationPends.screenLaw ∧
        configurationPends.msg.pendingConfigure = some conf ∧ ¬configurationPends.heldFrozen 1) ∧
      (∀ s ∈ [partTaken, nothingTaken], s.resetCause = none ∧ s.screenLaw ∧ s.tableLaw ∧ s.pnt.slots = [] ∧
        s.msg.pendingPage = none ∧ s.msg.pendingConfigure = none ∧ s.field? 50 = some quiet ∧
        s.field? 40 = some { quiet with row := 3 } ∧ deadlineReached quiet.flashDeadline (s.scr.frameCounter + 1) ∧
        s.shows quiet = true ∧ s.field? 60 = none ∧ s.routineLaw) ∧
      ((partTaken.boundary.map fun b => (b.held, b.aged, b.toggled, b.examined, b.fresh)) =
        some (false, true, true, 41, [61]) ∧ nothingTaken.boundary = none) ∧
      ⟨60, 19⟩ ∈ nothingTaken.pnt.routine ∧ nothingTaken.pnt.ageLimit = 19 + 1 ∧ ⟨61, 18⟩ ∈ nothingTaken.pnt.routine := by
  refine ⟨⟨rfl, rfl, running_screenLaw, rfl⟩, ⟨rfl, ?_, rfl, 1, rfl, by decide⟩, ⟨rfl, ?_, rfl, ?_⟩,
    ⟨rfl, ?_, rfl, ?_⟩, ?_, ⟨rfl, rfl⟩, by decide, rfl, by decide⟩
  · exact screenLaw_of_ranges rfl rfl ⟨rfl, rfl, rfl⟩ ⟨rfl, rfl⟩ (fun _ h => nomatch h) (fun h => nomatch h)
  · exact screenLaw_of_ranges rfl rfl ⟨rfl, rfl, rfl⟩ ⟨rfl, rfl⟩ (fun _ h => nomatch h) (fun _ => ⟨rfl, rfl⟩)
  · exact fun h => nomatch h.1
  · exact screenLaw_of_ranges rfl rfl ⟨rfl, rfl, rfl⟩ ⟨rfl, rfl⟩ (fun _ h => ⟨rfl, (Option.some.inj h).symm⟩)
      (fun _ => ⟨rfl, rfl⟩)
  · exact fun h => nomatch h.1
  · intro s hs
    simp only [List.mem_cons, List.not_mem_nil, or_false] at hs
    obtain rfl | rfl := hs <;>
      exact ⟨rfl, screenLaw_of_ranges rfl rfl ⟨rfl, rfl, rfl⟩ ⟨rfl, rfl⟩ (fun _ h => nomatch h) (fun _ => ⟨rfl, rfl⟩),
        ⟨rfl, by decide⟩, rfl, rfl, rfl, by decide, by decide, ⟨3012, rfl, by decide⟩, by decide, by decide, by unfold State.routineLaw; decide⟩

/-- The READY slot of field 20. -/
theorem witness_BoundaryCommitsReadySlots :
    rendered.resetCause = none ∧ rendered.boundary = none ∧ rendered.scr.frozen = false ∧
      rendered.msg.pendingPage = none ∧ rendered.msg.pendingConfigure = none ∧ rendered.tableLaw ∧ rendered.placementLaw ∧
      rendered.slotLaw ∧ rendered.cellsLaw ∧ rendered.planeCanonical ∧
      (∀ e ∈ rendered.fields, e.2.coherent ∧ e.2.inRange) ∧
      ∃ r, (0, ⟨some 20, .ready r⟩) ∈ rendered.pnt.slots ∧ r.kind = .value := by
  refine ⟨rfl, rfl, rfl, rfl, rfl, ⟨rfl, by decide⟩, ⟨?_, by decide⟩, ?_, ?_, rfl, ?_, _, List.mem_singleton.2 rfl,
    rfl⟩
  · intro e he d hd hne
    obtain rfl := List.mem_singleton.1 he
    obtain rfl := List.mem_singleton.1 hd
    exact absurd rfl hne
  · exact slotLaw_of_one (k := 0) (n := 20) rfl (by decide) rfl ⟨_, rfl, rfl⟩
  · intro e he n f hn hf
    obtain rfl := List.mem_singleton.1 he
    obtain rfl := Option.some.inj hn
    obtain rfl := Option.some.inj hf
    decide
  · intro e he
    obtain rfl := List.mem_singleton.1 he
    refine ⟨⟨rfl, rfl, fun _ => ⟨rfl, by decide, rfl⟩, fun h => rfl, fun h => nomatch h⟩, by decide, by decide,
      by decide, by decide, by decide, ?_⟩
    intro v hv
    obtain rfl := Option.some.inj hv
    exact fun h => nomatch h

/-- Field 20 deleted, its BLANK render READY in slot 0. -/
def blanked : State :=
  after .renderComplete (after .renderBegin (after (.deleteField 1 (.fields 20)) quoted))

/-- A BLANK commit. -/
theorem witness_BoundaryCommitsBlankSlot :
    blanked.resetCause = none ∧ blanked.boundary = none ∧ blanked.scr.frozen = false ∧
      blanked.msg.pendingPage = none ∧ blanked.msg.pendingConfigure = none ∧ blanked.tableLaw ∧ blanked.placementLaw ∧
      blanked.slotLaw ∧ blanked.cellsLaw ∧ blanked.planeCanonical ∧
      (∀ e ∈ blanked.fields, e.2.coherent ∧ e.2.inRange) ∧
      ∃ r, (0, ⟨some 20, .ready r⟩) ∈ blanked.pnt.slots ∧ r.kind = .blank := by
  refine ⟨rfl, rfl, rfl, rfl, rfl, ⟨rfl, by decide⟩, ⟨?_, by decide⟩, ?_, ?_, rfl, ?_, _, List.mem_singleton.2 rfl,
    rfl⟩
  · intro e he d hd hne
    obtain rfl := List.mem_singleton.1 he
    obtain rfl := List.mem_singleton.1 hd
    exact absurd rfl hne
  · exact slotLaw_of_one (k := 0) (n := 20) rfl (by decide) rfl ⟨_, rfl, rfl⟩
  · intro e he n f hn hf
    obtain rfl := List.mem_singleton.1 he
    obtain rfl := Option.some.inj hn
    obtain rfl := Option.some.inj hf
    decide
  · intro e he
    obtain rfl := List.mem_singleton.1 he
    refine ⟨⟨rfl, rfl, fun h => (nomatch h), fun h => (h.elim (fun h => nomatch h) fun h => nomatch h), fun _ => rfl⟩,
      by decide, by decide, by decide, by decide, by decide, fun _ hv => nomatch hv⟩

/-- Between boundaries, and at a boundary of a part frozen with no limit. -/
theorem witness_PlaneChangesOnlyAtBoundary :
    exec .aging running = .next (after .aging running) ∧ running.boundary = none ∧
      exec (.frameBoundary ⟨false, false, false⟩) frozen = .next (after (.frameBoundary ⟨false, false, false⟩) frozen) ∧
      frozen.heldFrozen (frozen.scr.frameCounter + 1) :=
  ⟨rfl, rfl, rfl, rfl, fun ⟨_, h, _⟩ => nomatch h⟩

/-- A boundary not begun, one that has not aged and has a fresh entry, and one that has aged. -/
theorem witness_AgingPromotesEntries :
    let begun : Boundary := { held := false, aged := false, toggled := false, examined := 0, fresh := [61] }
    let s := { running with pnt := { running.pnt with routine := [⟨60, 19⟩, ⟨61, 19⟩] }, boundary := some begun }
    running.resetCause = none ∧ running.boundary = none ∧ s.boundary = some begun ∧ begun.aged = false ∧
      s.pnt.ageLimit ≤ 19 + 1 ∧ 60 ∉ begun.fresh ∧ 61 ∈ begun.fresh ∧
      ((after .aging running).boundary.map fun b => b.aged) = some true := by decide

theorem witness_BlinkAndFreezeLimit :
    running.resetCause = none ∧ running.boundary = none ∧
      (atFrame running 31).periodFrom 32 32 ∧ ((31 : FrameNo) + 1).toNat % 32 = 0 ∧ ((32 : FrameNo) + 1).toNat % 32 ≠ 0 ∧
      (after .blinkToggle (atFrame running 31)).boundary.any (fun b => b.toggled) = true ∧
      (after .aging (atFrame running 31)).boundary.any (fun b => !b.toggled) = true ∧
      ¬(running.scr.frozen = true ∧ deadlineReached running.scr.freezeDeadline 1) ∧
      deadlineReached (after (.freeze 1 (.fields ⟨2, 0⟩)) (atFrame running 5000)).scr.freezeDeadline 5128 := by
  refine ⟨rfl, rfl, ⟨?_, fun _ => rfl⟩, by decide, by decide, by decide, by decide, ?_, 5128, rfl, by decide⟩
  · intro _ h
    exact absurd h (by simp [atFrame, running, State.reset, Message.reset])
  · exact fun h => absurd h.1 (by decide)

/-- Field 50 with a flash expiry due at 3,012 and a stale expiry due at 3,228; and field 60 while field 50 is due. -/
theorem witness_ExpiriesTakeDeadlines :
    let s := running.putField 50 quiet
    s.resetCause = none ∧ s.boundary = none ∧ s.tableLaw ∧ s.field? 50 = some quiet ∧
      (∀ k g, k < 50 → s.field? k = some g → ¬g.dueBy 3012) ∧ deadlineReached quiet.flashDeadline 3012 ∧
      ¬deadlineReached quiet.staleDeadline 3012 ∧ deadlineReached quiet.staleDeadline 3228 ∧ s.scr.frozen = false ∧
      ¬quote.dueBy 3228 ∧ quoted.field? 20 = some quote ∧
      (let lower := s.putField 60 { quiet with row := 3 }
       lower.tableLaw ∧ lower.field? 60 = some { quiet with row := 3 } ∧
         ∃ k g, k < 60 ∧ lower.begun.examined ≤ k ∧ lower.field? k = some g ∧ g.dueBy 3012) ∧
      s.begun.held = false ∧ s.begun.examined ≤ 50 ∧
      (partTaken.boundary ≠ none ∧ partTaken.begun.held = false ∧ partTaken.begun.examined ≤ 50 ∧
        ¬partTaken.begun.examined ≤ 40) ∧ limited.begun.held = true := by
  refine ⟨rfl, rfl, ⟨rfl, by decide⟩, by decide, ?_, ⟨3012, rfl, by decide⟩, ?_, ⟨3228, rfl, by decide⟩, rfl, ?_, by decide,
    ⟨⟨rfl, by decide⟩, by decide, 50, quiet, by decide, by decide, by decide, .inr ⟨3012, rfl, by decide⟩⟩, rfl, by decide,
    by decide, rfl⟩
  · intro k g hk hg
    have : Store.find? k [(50, quiet)] = some g := hg
    simp only [Store.find?] at this
    split at this
    · omega
    · exact nomatch this
  · rintro ⟨d, hd, h⟩
    obtain rfl := Option.some.inj hd
    exact absurd h (by decide)
  · rintro (⟨d, hd, _⟩ | ⟨d, hd, _⟩) <;> exact nomatch hd

/-- Field 20 of page 0 with a READY slot, and page 3 pending; and with an entry in the queue, and page 0 pending again. -/
theorem witness_PageChangeSwapsPage :
    let s := { rendered with msg := { rendered.msg with pendingPage := some ⟨3, 0x22⟩ } }
    s.resetCause = none ∧ s.boundary = none ∧ s.scr.frozen = false ∧ s.msg.pendingPage = some ⟨3, 0x22⟩ ∧ s.tableLaw ∧
      s.queueLaw ∧ s.slotLaw ∧ s.lagLaw ∧ (3 : BitVec 2) ≠ s.scr.page ∧
      (let again := { queued with msg := { queued.msg with pendingPage := some ⟨0, 0x23⟩ } }
       again.resetCause = none ∧ again.boundary = none ∧ again.scr.frozen = false ∧ again.tableLaw ∧ again.queueLaw ∧
         again.slotLaw ∧ again.lagLaw ∧ again.scr.page = 0 ∧ again.pnt.routine = [⟨20, 0⟩]) := by
  refine ⟨rfl, rfl, rfl, rfl, ⟨rfl, by decide⟩, ⟨by decide, fun n hn => ?_⟩, ?_, by unfold State.lagLaw; decide, by decide,
    rfl, rfl, rfl, ⟨rfl, by decide⟩, ⟨by decide, fun n hn => ?_⟩, slotLaw_of_empty rfl, by unfold State.lagLaw; decide, rfl,
    by decide⟩
  · exact absurd hn List.not_mem_nil
  · exact slotLaw_of_one (k := 0) (n := 20) rfl (by decide) rfl ⟨_, rfl, rfl⟩
  · obtain rfl := List.mem_singleton.1 hn
    exact ⟨_, rfl, rfl⟩

/-- With the geometry in effect pending, and with another pending. -/
theorem witness_ConfigurationTakesEffect :
    let same : PendingConfigure := ⟨.g80x25, 7, 0, 8, 1, 1, 0x33⟩
    let s := { rendered with msg := { rendered.msg with pendingConfigure := some same } }
    let changed := { rendered with msg := { rendered.msg with pendingConfigure := some conf } }
    (s.resetCause = none ∧ s.boundary = none ∧ s.scr.frozen = false ∧ s.msg.pendingConfigure = some same ∧ s.tableLaw ∧
      same.geometry = s.scr.geometry) ∧ 1 ≤ conf.lagThreshold ∧
      changed.resetCause = none ∧ changed.boundary = none ∧ changed.scr.frozen = false ∧
        changed.msg.pendingConfigure = some conf ∧ changed.tableLaw ∧ conf.geometry ≠ changed.scr.geometry := by
  unfold State.tableLaw
  decide

/-- The laws hold of the part after its first step from reset, so a step from the reset state meets their hypotheses. -/
theorem witness_EveryStepKeepsScreenLaws :
    running.planeCanonical ∧ running.screenLaw ∧
      step { running with pending := [.aging] } = .next (after .aging running) :=
  ⟨rfl, running_screenLaw, rfl⟩

theorem witness_EveryStepKeepsReplyAndNoticeLaws :
    running.replyLaw ∧ running.noticeLaw ∧ step running = .next running :=
  ⟨⟨by decide, fun h => absurd h (by decide), fun _ => rfl⟩, ⟨fun h => absurd rfl h, rfl, rfl⟩, rfl⟩

/-- An invisible TEXT field, number 21, of page 3. -/
def hiddenText : State := running.putField 21 { quote with page := .numbered 3, format := .text, scale := 0 }

theorem witness_EveryStepKeepsFieldLaws :
    (rendered.tableLaw ∧ rendered.placementLaw ∧ (∀ e ∈ rendered.fields, e.2.coherent ∧ e.2.inRange) ∧
      step rendered = .next rendered) ∧
      hiddenText.tableLaw ∧ hiddenText.placementLaw ∧ (∀ e ∈ hiddenText.fields, e.2.coherent ∧ e.2.inRange) ∧
      step hiddenText = .next hiddenText ∧ (∀ e ∈ hiddenText.fields, e.2.format = .text ∧ e.2.textPlain) ∧
      hiddenText.slotLaw ∧ hiddenText.hiddenLaw ∧ ∀ e ∈ hiddenText.fields, hiddenText.shows e.2 = false := by
  have h := witness_BoundaryCommitsReadySlots
  refine ⟨⟨h.2.2.2.2.2.1, h.2.2.2.2.2.2.1, h.2.2.2.2.2.2.2.2.2.2.1, rfl⟩, ⟨rfl, by decide⟩, ⟨?_, by decide⟩, ?_, rfl, ?_,
    slotLaw_of_empty rfl, ?_, by decide⟩
  · intro e he d hd hne
    obtain rfl := List.mem_singleton.1 he
    obtain rfl := List.mem_singleton.1 hd
    exact absurd rfl hne
  · intro e he
    obtain rfl := List.mem_singleton.1 he
    exact ⟨⟨rfl, rfl, fun h => (nomatch h), fun h => (h.elim (fun h => nomatch h) fun h => nomatch h), fun _ => rfl⟩,
      by decide, by decide, by decide, by decide, by decide, fun _ hv => nomatch hv⟩
  · intro e he
    obtain rfl := List.mem_singleton.1 he
    exact ⟨rfl, fun _ => ⟨rfl, rfl, rfl, rfl⟩⟩
  · intro e he _
    obtain rfl := List.mem_singleton.1 he
    exact ⟨rfl, rfl, rfl⟩

theorem witness_EveryStepKeepsPaintLaws :
    (rendered.tableLaw ∧ rendered.queueLaw ∧ rendered.slotLaw ∧ rendered.cellsLaw ∧ step rendered = .next rendered) ∧
      rendered.screenLaw ∧ rendered.lagLaw ∧ queued.routineLaw ∧ queued.pnt.routine = [⟨20, 0⟩] :=
  let h := witness_BoundaryCommitsReadySlots
  ⟨⟨h.2.2.2.2.2.1, ⟨by decide, fun _ hn => nomatch hn⟩, h.2.2.2.2.2.2.2.1, h.2.2.2.2.2.2.2.2.1, rfl⟩,
    screenLaw_of_ranges rfl rfl ⟨rfl, rfl, rfl⟩ ⟨rfl, rfl⟩ (fun _ h => nomatch h) (fun _ => ⟨rfl, rfl⟩),
    by unfold State.lagLaw; decide, by unfold State.routineLaw; decide, by decide⟩

theorem witness_EveryStepKeepsAttentionLaws :
    alerted.tableLaw ∧ alerted.alertLaw ∧ alerted.watchLaw ∧ step alerted = .next alerted :=
  ⟨witness_AckAlertAllClearsLatches.1, witness_AckAlertAllClearsLatches.2.1,
    ⟨by decide, by decide, fun _ h => nomatch h⟩, rfl⟩

end Sys2Proof.Tests
end

section
/-! The field table (chapter 1): what a record may become, and what each operation on the table keeps of the laws of R1, R2,
R3, R7 and R9. -/

namespace Sys2Proof.Machine

/-! ### What a record may become -/

/-- A record without the parts that only the panel gives: shown value, shown frame and flash deadline (R3, R7). -/
def Field.hidden (f : Field) : Prop := f.shown = none ∧ f.shownFrame = none ∧ f.flashDeadline = none

/-- A record `g` that may stand in place of `f`: the field stays where R9 judged it, and the laws of one record (R2, R3) are
kept. -/
structure Field.mayBecome (f g : Field) : Prop where
  page : g.page = f.page
  row : g.row = f.row
  column : g.column = f.column
  width : g.width = f.width
  coherent : f.coherent → g.coherent
  inRange : f.inRange → g.inRange
  textPlain : f.textPlain → g.textPlain

theorem Field.mayBecome_refl (f : Field) : f.mayBecome f := ⟨rfl, rfl, rfl, rfl, id, id, id⟩

theorem Field.mayBecome.inBounds_eq {f g : Field} (h : f.mayBecome g) (x : Geometry) : g.inBounds x = f.inBounds x := by
  simp [Field.inBounds, h.row, h.column, h.width]

theorem Field.mayBecome.conflicts_eq {f f' g g' : Field} (h : f.mayBecome g) (h' : f'.mayBecome g') :
    g.conflicts g' = f.conflicts f' := by
  simp [Field.conflicts, Field.overlaps, h.page, h.row, h.column, h.width, h'.page, h'.row, h'.column, h'.width]

theorem Page.meets_comm (p q : Page) : p.meets q = q.meets p := by
  cases p <;> cases q <;> simp [Page.meets, Bool.beq_comm]

theorem Field.conflicts_comm (f g : Field) : f.conflicts g = g.conflicts f := by
  simp only [Field.conflicts, Field.overlaps, Page.meets_comm f.page g.page, Bool.beq_comm (a := f.row), Bool.and_assoc,
    Bool.and_comm (decide (f.column < g.column + g.width))]

theorem afterTicks_isSome {start : FrameNo} {ticks : Nat} (h : (afterTicks start ticks).isSome = true) : ticks ≠ 0 := by
  rintro rfl
  simp [afterTicks] at h

theorem Field.unshown_mayBecome (f : Field) : f.mayBecome f.unshown where
  page := rfl
  row := rfl
  column := rfl
  width := rfl
  coherent := fun ⟨hv, _, hd, hp, _⟩ => ⟨hv, rfl, hd, hp, fun _ => rfl⟩
  inRange := id
  textPlain := id

theorem Field.unshown_hidden (f : Field) : f.unshown.hidden := ⟨rfl, rfl, rfl⟩

/-- R16: a field that is STALE becomes LIVE at interval 0, and only a LIVE field keeps a deadline. -/
theorem Field.restyled_mayBecome (f : Field) (r : RestyleFields) : f.mayBecome (f.restyled r) where
  page := rfl
  row := rfl
  column := rfl
  width := rfl
  coherent := by
    rintro ⟨hv, hs, -, hp, hr⟩
    refine ⟨hv, hs, fun hd => ?_, fun hst => ?_, fun hst => ?_⟩
    · by_cases hlive : f.state = .live
      · cases hpost : f.lastPost with
        | none => simp [Field.restyled, hlive, hpost] at hd
        | some post =>
          have hi : r.staleInterval.toNat ≠ 0 :=
            afterTicks_isSome (start := post) (by simpa [Field.restyled, hlive, hpost] using hd)
          exact ⟨by simp [Field.restyled, hlive], hi, by simp [Field.restyled, hpost]⟩
      · simp [Field.restyled, hlive] at hd
    · simp only [Field.restyled] at hst ⊢
      split at hst
      · simp at hst
      · exact hp hst
    · simp only [Field.restyled] at hst ⊢
      split at hst
      · simp at hst
      · exact hr hst
  inRange := by
    rintro ⟨h1, h2, h3, -, -, hv⟩
    have := r.flashLength.isLt
    have := r.staleInterval.isLt
    exact ⟨h1, h2, h3, by simp only [Field.restyled]; omega, by simp only [Field.restyled]; omega, hv⟩
  textPlain := id

/-- R18, R19: limits come only to a numeric field. -/
theorem Field.limited_mayBecome {f : Field} (r : LimitFields) (h : f.format ≠ .text) : f.mayBecome (f.limited r) where
  page := rfl
  row := rfl
  column := rfl
  width := rfl
  coherent := id
  inRange := id
  textPlain := fun _ ht => absurd ht h

theorem Field.retired_mayBecome (f : Field) : f.mayBecome f.retired where
  page := rfl
  row := rfl
  column := rfl
  width := rfl
  coherent := fun ⟨hv, hs, _, _, _⟩ =>
    ⟨hv, hs, fun h => (nomatch h), fun h => (h.elim (fun h => nomatch h) fun h => nomatch h), fun _ => rfl⟩
  inRange := id
  textPlain := id

/-- R47 to R50: a post of a value of the field's own format. -/
theorem Field.posted_mayBecome {f : Field} {v : Value} (n : FrameNo) (h : v.fits f.format) : f.mayBecome (f.posted v n) where
  page := rfl
  row := rfl
  column := rfl
  width := rfl
  coherent := by
    rintro ⟨-, hs, -, -, hr⟩
    refine ⟨rfl, hs, fun hd => ?_, fun _ => rfl, fun hst => hr ?_⟩
    · by_cases hlive : f.revivedState = .live
      · exact ⟨hlive, afterTicks_isSome (start := n) (by simpa [Field.posted, hlive] using hd), rfl⟩
      · simp [Field.posted, hlive] at hd
    · change f.revivedState = .retiring at hst
      unfold Field.revivedState at hst
      cases hf : f.state <;> simp [hf] at hst ⊢
      split at hst <;> simp at hst
  inRange := by
    rintro ⟨h1, h2, h3, h4, h5, -⟩
    refine ⟨h1, h2, h3, h4, h5, fun w hw => ?_⟩
    obtain rfl := Option.some.inj hw
    exact h
  textPlain := by
    intro ht hx
    obtain ⟨hu, hl, hz, ha⟩ := ht hx
    cases v with
    | number w => exact absurd hx h
    | text glyphs => exact ⟨hu, hl, hz, by simp [Field.posted, Field.raises, Field.zoneAfter, ha]⟩

/-- R63: a HELD field has been posted, so the deadline from its release may stand. -/
theorem Field.unheld_mayBecome {f : Field} (n : FrameNo) (h : f.state = .held) : f.mayBecome (f.unheld n) where
  page := rfl
  row := rfl
  column := rfl
  width := rfl
  coherent := fun ⟨hv, hs, _, hp, _⟩ =>
    ⟨hv, hs, fun hd => ⟨rfl, afterTicks_isSome hd, hp (.inr h)⟩, fun h => (h.elim (fun h => nomatch h) fun h => nomatch h),
      fun h => nomatch h⟩
  inRange := id
  textPlain := id

theorem Field.unlatched_mayBecome (f : Field) : f.mayBecome { f with alertLatched := false } where
  page := rfl
  row := rfl
  column := rfl
  width := rfl
  coherent := id
  inRange := id
  textPlain := fun ht hx => ⟨(ht hx).1, (ht hx).2.1, (ht hx).2.2.1, rfl⟩

theorem Field.overflow_mayBecome (f : Field) (b : Bool) : f.mayBecome { f with overflow := b } :=
  ⟨rfl, rfl, rfl, rfl, id, id, id⟩

/-- R127 to R129: a field with a stale deadline has been posted, and a RETIRING one has no flash deadline. -/
theorem Field.expired_mayBecome (f : Field) (n : FrameNo) : f.mayBecome (f.expired n) where
  page := rfl
  row := rfl
  column := rfl
  width := rfl
  coherent := by
    rintro ⟨hv, hs, hd, hp, hr⟩
    by_cases hdue : dueAt f.staleDeadline n = true
    · have hposted : f.lastPost.isSome = true := by
        cases hsd : f.staleDeadline with
        | none => simp [hsd, dueAt] at hdue
        | some d => exact (hd (by simp [hsd])).2.2
      exact ⟨hv, hs, by simp [Field.expired, hdue], fun _ => hposted, by simp [Field.expired, hdue]⟩
    · refine ⟨hv, hs, by simpa [Field.expired, hdue] using hd, by simpa [Field.expired, hdue] using hp, fun hst => ?_⟩
      have hflash : f.flashDeadline = none := hr (by simpa [Field.expired, hdue] using hst)
      simp [Field.expired, hflash]
  inRange := id
  textPlain := id

theorem Field.expired_hidden {f : Field} (n : FrameNo) (h : f.hidden) : (f.expired n).hidden := by
  obtain ⟨hs, hf, hd⟩ := h
  exact ⟨hs, hf, by simp [Field.expired, hd]⟩

/-- R107, R108: shown value and shown frame come together, and only a LIVE field starts a flash. -/
theorem Field.committed_mayBecome (f : Field) (r : Rendered) (n : FrameNo) : f.mayBecome (f.committed r n) where
  page := rfl
  row := rfl
  column := rfl
  width := rfl
  coherent := by
    rintro ⟨hv, hs, hd, hp, hr⟩
    refine ⟨hv, ?_, hd, hp, fun hst => ?_⟩
    · cases hval : r.value <;> simp [Field.committed, hval, hs]
    · have hret : f.state = .retiring := hst
      simp [Field.committed, hret, hr hret]
  inRange := id
  textPlain := id

end Sys2Proof.Machine
end

section
namespace Sys2Proof.Machine

/-! ### The laws as one statement about a change of state -/

/-- The laws of the table and of its records one by one (R1, R2, R3, R9). -/
def State.recordLaw (s : State) : Prop :=
  s.tableLaw ∧ s.placementLaw ∧ ∀ e ∈ s.fields, e.2.coherent ∧ e.2.inRange

/-- Every record satisfies a test. -/
def State.recordsAre (s : State) (test : Field → Prop) : Prop := ∀ e ∈ s.fields, test e.2

/-- Every slot that belongs to a field belongs to one in use that satisfies a test (R73). -/
def State.ownersAre (s : State) (test : Field → Prop) : Prop :=
  ∀ e ∈ s.pnt.slots, ∀ n, e.2.field = some n → ∃ f, s.field? n = some f ∧ test f

/-- Only visible fields hold slots, and invisible ones show nothing (R3, R7, R73). -/
def State.shownLaw (s : State) : Prop := s.ownersAre (fun f => s.shows f = true) ∧ s.hiddenLaw

/-- A change of state that keeps the laws of the field table. -/
structure State.keepsFieldLaws (s t : State) : Prop where
  records : s.recordLaw → t.recordLaw
  text : s.recordsAre Field.textPlain → t.recordsAre Field.textPlain
  shown : s.shownLaw → t.shownLaw

theorem State.keepsFieldLaws.trans {s t u : State} (h : s.keepsFieldLaws t) (k : t.keepsFieldLaws u) :
    s.keepsFieldLaws u :=
  ⟨fun a => k.records (h.records a), fun a => k.text (h.text a), fun a => k.shown (h.shown a)⟩

/-- A change that leaves the table, the slots, the geometry and the page as they are. -/
structure State.sameTable (s t : State) : Prop where
  fields : t.fields = s.fields
  geometry : t.scr.geometry = s.scr.geometry
  page : t.scr.page = s.scr.page
  slots : t.pnt.slots = s.pnt.slots

theorem State.sameTable_refl (s : State) : s.sameTable s := ⟨rfl, rfl, rfl, rfl⟩

theorem State.sameTable.keeps {s t : State} (h : s.sameTable t) : s.keepsFieldLaws t := by
  obtain ⟨hf, hg, hp, hs⟩ := h
  constructor
  · simp only [State.recordLaw, State.tableLaw, State.placementLaw, hf, hg]; exact id
  · simp only [State.recordsAre, hf]; exact id
  · simp only [State.shownLaw, State.ownersAre, State.hiddenLaw, State.shows, State.field?, hf, hp, hs]; exact id

theorem State.keepsFieldLaws_refl (s : State) : s.keepsFieldLaws s := s.sameTable_refl.keeps

/-! ### Tables whose records come from another's -/

/-- Every record of `t` stands in place of one of `s`, under the same number. -/
structure State.recordsFrom (s t : State) : Prop where
  rising : Store.rising s.fields = true → Store.rising t.fields = true
  record : ∀ e ∈ t.fields, ∃ d ∈ s.fields, d.1 = e.1 ∧ d.2.mayBecome e.2

theorem State.recordsFrom.tableLaw {s t : State} (h : s.recordsFrom t) (hs : s.tableLaw) : t.tableLaw := by
  refine ⟨h.rising hs.1, fun e he => ?_⟩
  obtain ⟨d, hd, hn, -⟩ := h.record e he
  exact hn ▸ hs.2 d hd

/-- The laws of the table are kept where its records come from a table that had them and lie within the geometry. -/
theorem State.recordsFrom.recordLaw {s t : State} (h : s.recordsFrom t)
    (hb : ∀ e ∈ t.fields, e.2.inBounds t.scr.geometry = true) (hs : s.recordLaw) : t.recordLaw := by
  obtain ⟨htable, ⟨hapart, -⟩, hrecords⟩ := hs
  refine ⟨h.tableLaw htable, ⟨fun e he e' he' hne => ?_, hb⟩, fun e he => ?_⟩
  · obtain ⟨d, hd, hn, hm⟩ := h.record e he
    obtain ⟨d', hd', hn', hm'⟩ := h.record e' he'
    rw [hm.conflicts_eq hm']
    exact hapart d hd d' hd' (by rw [hn, hn']; exact hne)
  · obtain ⟨d, hd, -, hm⟩ := h.record e he
    exact ⟨hm.coherent (hrecords d hd).1, hm.inRange (hrecords d hd).2⟩

theorem State.recordsFrom.recordLaw_of_geometry {s t : State} (h : s.recordsFrom t)
    (hg : t.scr.geometry = s.scr.geometry) (hs : s.recordLaw) : t.recordLaw := by
  refine h.recordLaw (fun e he => ?_) hs
  obtain ⟨d, hd, -, hm⟩ := h.record e he
  rw [hm.inBounds_eq, hg]
  exact hs.2.1.2 d hd

theorem State.recordsFrom.textLaw {s t : State} (h : s.recordsFrom t) (hs : s.recordsAre Field.textPlain) :
    t.recordsAre Field.textPlain := by
  intro e he
  obtain ⟨d, hd, -, hm⟩ := h.record e he
  exact hm.textPlain (hs d hd)

theorem Field.mayBecome.trans {f g k : Field} (h : f.mayBecome g) (h' : g.mayBecome k) : f.mayBecome k :=
  ⟨h'.page.trans h.page, h'.row.trans h.row, h'.column.trans h.column, h'.width.trans h.width,
    fun a => h'.coherent (h.coherent a), fun a => h'.inRange (h.inRange a), fun a => h'.textPlain (h.textPlain a)⟩

theorem State.recordsFrom.trans {s t u : State} (h : s.recordsFrom t) (k : t.recordsFrom u) : s.recordsFrom u := by
  refine ⟨fun a => k.rising (h.rising a), fun e he => ?_⟩
  obtain ⟨d, hd, hn, hm⟩ := k.record e he
  obtain ⟨c, hc, hn', hm'⟩ := h.record d hd
  exact ⟨c, hc, hn'.trans hn, hm'.trans hm⟩

theorem State.recordsFrom_of_fields {s t : State} (h : t.fields = s.fields) : s.recordsFrom t :=
  ⟨fun a => h ▸ a, fun e he => ⟨e, h ▸ he, rfl, e.2.mayBecome_refl⟩⟩

/-- Records rewritten in place. -/
theorem State.recordsFrom_of_map {s t : State} (g : Nat × Field → Field) (hg : ∀ e : Nat × Field, e.2.mayBecome (g e))
    (h : t.fields = s.fields.map fun e => (e.1, g e)) : s.recordsFrom t := by
  refine ⟨fun a => ?_, fun e he => ?_⟩
  · rw [h, Store.rising_of_map_fst (l := s.fields) (by simp [Function.comp_def])]
    exact a
  · rw [h] at he
    obtain ⟨d, hd, rfl⟩ := List.mem_map.1 he
    exact ⟨d, hd, rfl, hg d⟩

/-! ### One record written (R2) -/

theorem State.putField_recordsFrom {s : State} {n : Nat} {f g : Field} (h : s.field? n = some f) (hm : f.mayBecome g) :
    s.recordsFrom (s.putField n g) := by
  refine ⟨fun a => Store.rising_insert n g a, fun e he => ?_⟩
  rcases Store.mem_insert he with rfl | he
  · exact ⟨(n, f), Store.mem_of_find? h, rfl, hm⟩
  · exact ⟨e, he, rfl, e.2.mayBecome_refl⟩

/-- A record written in place of a field's: the laws are kept, where an invisible field stays without its shown parts. -/
theorem State.putField_keeps {s : State} {n : Nat} {f g : Field} (h : s.field? n = some f) (hm : f.mayBecome g)
    (hh : s.shows f = false → f.hidden → g.hidden) : s.keepsFieldLaws (s.putField n g) where
  records := (putField_recordsFrom h hm).recordLaw_of_geometry rfl
  text := (putField_recordsFrom h hm).textLaw
  shown := by
    intro hs
    have hshows : s.shows g = s.shows f := by simp [State.shows, hm.page]
    refine ⟨fun e he m hem => ?_, fun e he hv => ?_⟩
    · obtain ⟨k, hk, hsh⟩ := hs.1 e he m hem
      by_cases hmn : m = n
      · obtain rfl : k = f := Option.some.inj (hk.symm.trans (hmn ▸ h))
        exact ⟨g, by simp [State.field?, hmn], hshows.trans hsh⟩
      · exact ⟨k, by rw [State.field?, State.putField_fields, Store.find?_insert_ne hmn]; exact hk, hsh⟩
    · rcases Store.mem_insert he with rfl | he
      · have hf : s.shows f = false := hshows.symm.trans hv
        exact hh hf (hs.2 (n, f) (Store.mem_of_find? h) hf)
      · exact hs.2 e he hv

/-! ### Fields that go FREE (R23) -/

theorem abandonSlots_owner {concerns : Slot → Bool} {l : List (Nat × Slot)} {e : Nat × Slot} {m : Nat}
    (he : e ∈ abandonSlots concerns l) (hm : e.2.field = some m) : e ∈ l ∧ concerns e.2 = false := by
  induction l with
  | nil => simp [abandonSlots] at he
  | cons d rest ih =>
    obtain ⟨k, slot⟩ := d
    unfold abandonSlots at he
    split at he
    · split at he
      · exact (ih he).imp_left (List.mem_cons_of_mem _)
      · rcases List.mem_cons.1 he with rfl | he
        · simp at hm
        · exact (ih he).imp_left (List.mem_cons_of_mem _)
    · rcases List.mem_cons.1 he with rfl | he
      · exact ⟨List.mem_cons_self, by simpa using ‹¬concerns slot = true›⟩
      · exact (ih he).imp_left (List.mem_cons_of_mem _)

variable (s : State)

@[simp] theorem State.release_fields (n : Nat) (at_ : FrameNo) :
    (s.release n at_).fields = Store.erase n s.fields := by simp [State.release]

@[simp] theorem State.release_scr (n : Nat) (at_ : FrameNo) : (s.release n at_).scr = s.scr := by simp [State.release]

@[simp] theorem State.release_slots (n : Nat) (at_ : FrameNo) :
    (s.release n at_).pnt.slots = abandonSlots (fun slot => slot.field == some n) s.pnt.slots := by simp [State.release]

@[simp] theorem State.releaseAll_scr (at_ : FrameNo) (l : List Nat) : (s.releaseAll at_ l).scr = s.scr := by
  induction l generalizing s with
  | nil => rfl
  | cons n rest ih => simp [State.releaseAll, ih]

theorem State.release_recordsFrom (n : Nat) (at_ : FrameNo) : s.recordsFrom (s.release n at_) :=
  ⟨fun a => by simpa using Store.rising_erase n a,
    fun e he => ⟨e, Store.mem_erase (by simpa using he), rfl, e.2.mayBecome_refl⟩⟩

theorem State.releaseAll_recordsFrom (at_ : FrameNo) (l : List Nat) : s.recordsFrom (s.releaseAll at_ l) := by
  induction l generalizing s with
  | nil => exact State.recordsFrom_of_fields rfl
  | cons n rest ih => exact (s.release_recordsFrom n at_).trans (ih _)

theorem State.release_recordsAre {test : Field → Prop} (n : Nat) (at_ : FrameNo) (h : s.recordsAre test) :
    (s.release n at_).recordsAre test :=
  fun e he => h e (Store.mem_erase (by simpa using he))

/-- The field that goes FREE holds no slot afterwards, and the other slots' owners are as before. -/
theorem State.release_ownersAre {test : Field → Prop} (n : Nat) (at_ : FrameNo) (h : s.ownersAre test) :
    (s.release n at_).ownersAre test := by
  intro e he m hm
  obtain ⟨he, hc⟩ := abandonSlots_owner (by simpa using he) hm
  obtain ⟨f, hf, ht⟩ := h e he m hm
  have hmn : m ≠ n := by rintro rfl; simp [hm] at hc
  exact ⟨f, by rw [State.field?, State.release_fields, Store.find?_erase_ne hmn]; exact hf, ht⟩

theorem State.releaseAll_recordsAre {test : Field → Prop} (at_ : FrameNo) (l : List Nat) (h : s.recordsAre test) :
    (s.releaseAll at_ l).recordsAre test := by
  induction l generalizing s with
  | nil => exact h
  | cons n rest ih => exact ih _ (s.release_recordsAre n at_ h)

theorem State.releaseAll_ownersAre {test : Field → Prop} (at_ : FrameNo) (l : List Nat) (h : s.ownersAre test) :
    (s.releaseAll at_ l).ownersAre test := by
  induction l generalizing s with
  | nil => exact h
  | cons n rest ih => exact ih _ (s.release_ownersAre n at_ h)

theorem Store.ne_of_mem_erase {α : Type} {k : Nat} {l : List (Nat × α)} {e : Nat × α} (hr : Store.rising l = true)
    (h : e ∈ Store.erase k l) : e.1 ≠ k := by
  rintro rfl
  have := Store.find?_of_mem (Store.rising_erase _ hr) h
  simp [Store.find?_erase_self _ hr] at this

/-- No number on the list is in use afterwards. -/
theorem State.releaseAll_not_mem (at_ : FrameNo) (l : List Nat) (hr : Store.rising s.fields = true) {e : Nat × Field}
    (he : e ∈ (s.releaseAll at_ l).fields) : e ∈ s.fields ∧ e.1 ∉ l := by
  induction l generalizing s with
  | nil => exact ⟨he, List.not_mem_nil⟩
  | cons n rest ih =>
    have hr' : Store.rising (s.release n at_).fields = true := (s.release_recordsFrom n at_).rising hr
    obtain ⟨hmem, hrest⟩ := ih _ hr' he
    rw [State.release_fields] at hmem
    exact ⟨Store.mem_erase hmem, by simp [Store.ne_of_mem_erase hr hmem, hrest]⟩

theorem State.release_keeps (n : Nat) (at_ : FrameNo) : s.keepsFieldLaws (s.release n at_) where
  records := (s.release_recordsFrom n at_).recordLaw_of_geometry (by simp)
  text := s.release_recordsAre n at_
  shown := by
    intro h
    have hshows : (s.release n at_).shows = s.shows := by funext f; simp [State.shows]
    refine ⟨?_, fun e he hv => h.2 e (Store.mem_erase (by simpa using he)) (by rwa [hshows] at hv)⟩
    rw [hshows]
    exact s.release_ownersAre n at_ h.1

end Sys2Proof.Machine
end

section
namespace Sys2Proof.Machine

variable (s : State)

/-! ### What a reply leaves alone -/

@[simp] theorem State.answer_fields (payload : List Byte) : (s.answer payload).fields = s.fields := by
  unfold State.answer; split <;> rfl
@[simp] theorem State.answer_pnt (payload : List Byte) : (s.answer payload).pnt = s.pnt := by
  unfold State.answer; split <;> rfl
@[simp] theorem State.answer_scr (payload : List Byte) : (s.answer payload).scr = s.scr := by
  unfold State.answer; split <;> rfl
@[simp] theorem State.answer_aeu (payload : List Byte) : (s.answer payload).aeu = s.aeu := by
  unfold State.answer; split <;> rfl
@[simp] theorem State.answer_notice (payload : List Byte) :
    (s.answer payload).lnk.notice = s.lnk.notice := by
  unfold State.answer; split <;> rfl
@[simp] theorem State.answer_field? (payload : List Byte) (n : Nat) :
    (s.answer payload).field? n = s.field? n := by
  simp [State.field?]

/-! ### Operations that leave the table alone -/

theorem State.latch_sameTable (kinds : EventSet) (n : FrameNo) : s.sameTable (s.latch kinds n) := by
  constructor <;> simp

theorem State.latchFrameIf_sameTable (now : Bool) (n : FrameNo) : s.sameTable (s.latchFrameIf now n) := by
  unfold State.latchFrameIf
  split
  · exact s.latch_sameTable _ _
  · exact s.sameTable_refl

theorem State.enqueueAndLatch_sameTable (n : Nat) (u : Bool) (at_ : FrameNo) : s.sameTable (s.enqueueAndLatch n u at_) := by
  constructor <;> simp

theorem State.answer_sameTable (payload : List Byte) : s.sameTable (s.answer payload) := by
  constructor <;> simp

theorem State.refuse_sameTable (code : RefusalCode) (number : Option Half) : s.sameTable (s.refuse code number) := by
  unfold State.refuse
  split
  · exact s.sameTable_refl
  · constructor <;> simp

theorem State.refuseEntry_sameTable (code : RefusalCode) (number : Half) (index : Nat) :
    s.sameTable (s.refuseEntry code number index) := by
  unfold State.refuseEntry
  split
  · exact s.sameTable_refl
  · constructor <;> simp

theorem State.take_sameTable (f : Frame) : s.sameTable (s.take f) := by constructor <;> simp

theorem State.openBoundary_sameTable : s.sameTable s.openBoundary := by constructor <;> simp

theorem State.markExamined_sameTable (n : Nat) : s.sameTable (s.markExamined n) := by constructor <;> simp

theorem State.startBoundary_sameTable (n : FrameNo) : s.sameTable (s.startBoundary n) := by
  unfold State.startBoundary State.applyMode
  dsimp only
  split <;> exact ⟨rfl, rfl, rfl, rfl⟩

theorem State.age_sameTable : s.sameTable s.age := by
  unfold State.age
  split
  · exact s.sameTable_refl
  · split <;> exact ⟨rfl, rfl, rfl, rfl⟩

theorem State.expireFreeze_sameTable (n : FrameNo) : s.sameTable (s.expireFreeze n) := by
  unfold State.expireFreeze
  split
  · constructor <;> simp
  · exact s.sameTable_refl

theorem State.judgeBlink_sameTable (n : FrameNo) : s.sameTable (s.judgeBlink n) := by
  unfold State.judgeBlink
  split <;> exact ⟨rfl, rfl, rfl, rfl⟩

theorem State.takeParameters_sameTable (c : PendingConfigure) (n : FrameNo) : s.sameTable (s.takeParameters c n) := by
  constructor <;> simp [State.takeParameters]

/-! ### Expiries (R125 to R129) -/

theorem State.expireField_keeps {m : Nat} {f : Field} (n : FrameNo) (h : s.field? m = some f) :
    s.keepsFieldLaws (s.expireField m f n) := by
  have hput := State.putField_keeps h (f.expired_mayBecome n) fun _ => Field.expired_hidden n
  refine hput.trans (State.sameTable.keeps ?_)
  unfold State.expireField
  constructor <;> dsimp only <;> split <;> simp

theorem State.examine_keeps (n : FrameNo) (m : Nat) : s.keepsFieldLaws (s.examine n m) := by
  unfold State.examine
  split
  · split
    · exact s.expireField_keeps n ‹_›
    · exact s.keepsFieldLaws_refl
  · exact s.keepsFieldLaws_refl

theorem State.examineAll_keeps (n : FrameNo) (l : List Nat) : s.keepsFieldLaws (s.examineAll n l) := by
  induction l generalizing s with
  | nil => exact s.keepsFieldLaws_refl
  | cons m rest ih => exact (s.examine_keeps n m).trans (ih _)

theorem State.takeExpiries_keeps (n : FrameNo) : s.keepsFieldLaws (s.takeExpiries n) := by
  unfold State.takeExpiries
  split
  · exact s.keepsFieldLaws_refl
  · split
    · exact (s.markExamined_sameTable _).keeps
    · exact (s.examineAll_keeps _ _).trans (State.markExamined_sameTable _ _).keeps

/-! ### Commits (R107 to R109) -/

/-- The cells of a READY slot go to the plane, and the slot becomes FREE (R107). -/
def State.putCells (k : Nat) (f : Field) (r : Rendered) : State :=
  { s with
    scr := { s.scr with plane := Memory.writeRun s.scr.plane (s.scr.geometry.place f.row f.column) r.cells }
    pnt := { s.pnt with slots := Store.erase k s.pnt.slots } }

/-- What a commit can do: nothing, or the cells go to the plane and the field is rewritten or goes FREE (R107, R109). -/
theorem State.commitSlot_cases (n : FrameNo) (k : Nat) :
    s.commitSlot n k = s ∨ ∃ m r f, Store.find? k s.pnt.slots = some ⟨some m, .ready r⟩ ∧ s.field? m = some f ∧
      (s.commitSlot n k = (s.putCells k f r).putField m (f.committed r n) ∨
        s.commitSlot n k = (s.putCells k f r).release m n) := by
  unfold State.commitSlot
  split
  case h_2 => exact .inl rfl
  case h_1 m r hslot =>
    split
    case h_2 => exact .inl rfl
    case h_1 f hf =>
      refine .inr ⟨m, r, f, hslot, hf, ?_⟩
      cases r.kind
      · exact .inl rfl
      · exact .inr rfl

theorem State.putCells_keeps (k : Nat) (f : Field) (r : Rendered) : s.keepsFieldLaws (s.putCells k f r) where
  records := (State.recordsFrom_of_fields rfl).recordLaw_of_geometry rfl
  text := id
  shown := fun ⟨howners, hhidden⟩ => ⟨fun e he => howners e (Store.mem_erase he), hhidden⟩

/-- The field that a commit rewrites is visible, because it holds a slot. -/
theorem State.commitSlot_keeps (n : FrameNo) (k : Nat) : s.keepsFieldLaws (s.commitSlot n k) := by
  rcases s.commitSlot_cases n k with h | ⟨m, r, f, hslot, hf, h | h⟩
  · rw [h]; exact s.keepsFieldLaws_refl
  · rw [h]
    have hf' : (s.putCells k f r).field? m = some f := hf
    have hm := f.committed_mayBecome r n
    have hfrom : s.recordsFrom ((s.putCells k f r).putField m (f.committed r n)) :=
      State.recordsFrom.trans (t := s.putCells k f r) (State.recordsFrom_of_fields rfl) (State.putField_recordsFrom hf' hm)
    refine ⟨hfrom.recordLaw_of_geometry rfl, hfrom.textLaw, fun hs => ?_⟩
    obtain ⟨g, hg, hv⟩ := hs.1 _ (Store.mem_of_find? hslot) m rfl
    obtain rfl : g = f := Option.some.inj (hg.symm.trans hf)
    have hvisible : (s.putCells k g r).shows g = true := hv
    exact (State.putField_keeps hf' hm (by simp [hvisible])).shown ((s.putCells_keeps k g r).shown hs)
  · rw [h]; exact (s.putCells_keeps k f r).trans (State.release_keeps _ m n)

theorem State.commitSlots_keeps (n : FrameNo) (l : List Nat) : s.keepsFieldLaws (s.commitSlots n l) := by
  induction l generalizing s with
  | nil => exact s.keepsFieldLaws_refl
  | cons k rest ih => exact (s.commitSlot_keeps n k).trans (ih _)

theorem State.commitAll_keeps (n : FrameNo) : s.keepsFieldLaws (s.commitAll n) := by
  unfold State.commitAll
  split
  · exact s.keepsFieldLaws_refl
  · exact s.commitSlots_keeps _ _

/-! ### Page change (R86, R112) -/

/-- A record at a page change from page p (R112 step 3). -/
def Field.leaving (p : BitVec 2) (f : Field) : Field := if f.page = .numbered p then f.unshown else f

theorem Field.leaving_mayBecome (p : BitVec 2) (f : Field) : f.mayBecome (f.leaving p) := by
  unfold Field.leaving
  split
  · exact f.unshown_mayBecome
  · exact f.mayBecome_refl

theorem State.clearPage_leaving (p : BitVec 2) :
    (s.clearPage p).fields = s.fields.map fun e => (e.1, e.2.leaving p) := by
  rw [State.clearPage_fields]
  refine List.map_congr_left fun e _ => ?_
  unfold Field.leaving
  split <;> rfl

theorem State.clearPage_field? (p : BitVec 2) (n : Nat) :
    (s.clearPage p).field? n = (s.field? n).map (Field.leaving p) := by
  rw [State.field?, State.clearPage_leaving]
  exact Store.find?_map (fun _ f => f.leaving p) n s.fields

theorem State.clearPage_recordsFrom (p : BitVec 2) : s.recordsFrom (s.clearPage p) :=
  State.recordsFrom_of_map (fun e => e.2.leaving p) (fun e => e.2.leaving_mayBecome p) (s.clearPage_leaving p)

@[simp] theorem State.clearPage_geometry (p : BitVec 2) : (s.clearPage p).scr.geometry = s.scr.geometry := rfl

/-- A field of a numbered page that is not the selected one is invisible (R7). -/
theorem Page.visibleOn_of_ne {p : Page} {q : BitVec 2} (hc : p ≠ .common) (hq : p ≠ .numbered q) :
    p.visibleOn q = false := by
  cases p with
  | common => exact absurd rfl hc
  | numbered r =>
    have : r ≠ q := fun h => hq (h ▸ rfl)
    simp [Page.visibleOn, this]

/-- After R112 steps 1 to 3 no field of a numbered page shows anything: those of the page left have given up what they
showed, and those of the other pages had nothing. -/
theorem State.clearPage_hidden (h : s.hiddenLaw) :
    (s.clearPage s.scr.page).recordsAre fun f => f.page ≠ .common → f.hidden := by
  intro e he hc
  rw [State.clearPage_leaving] at he
  obtain ⟨d, hd, rfl⟩ := List.mem_map.1 he
  by_cases hp : d.2.page = .numbered s.scr.page
  · simpa [Field.leaving, hp] using d.2.unshown_hidden
  · have hsame : d.2.leaving s.scr.page = d.2 := by simp [Field.leaving, hp]
    simp only [hsame] at hc ⊢
    exact h d hd (Page.visibleOn_of_ne hc hp)

/-- After R112 step 2 only COMMON fields hold slots. -/
theorem State.clearPage_owners (h : s.ownersAre fun f => s.shows f = true) :
    (s.clearPage s.scr.page).ownersAre fun f => f.page = .common := by
  intro e he n hn
  obtain ⟨he, hc⟩ := abandonSlots_owner he hn
  obtain ⟨f, hf, hv⟩ := h e he n hn
  have hleft : f.page ≠ .numbered s.scr.page := by
    intro hp
    have hmem : n ∈ s.numbersOfPage s.scr.page :=
      List.mem_map.2 ⟨(n, f), List.mem_filter.2 ⟨Store.mem_of_find? hf, by simpa using hp⟩, rfl⟩
    simp [hn, hmem] at hc
  refine ⟨f, by simp [State.clearPage_field?, hf, Field.leaving, hleft], ?_⟩
  by_contra hcommon
  simp [State.shows, Page.visibleOn_of_ne hcommon hleft] at hv

/-- While only COMMON fields hold slots and the others show nothing, any page may be selected. -/
theorem State.shownLaw_of_common {t : State} (howners : t.ownersAre fun f => f.page = .common)
    (hrecords : t.recordsAre fun f => f.page ≠ .common → f.hidden) : t.shownLaw := by
  have hshows : ∀ f : Field, f.page = .common → t.shows f = true := fun f hp => by simp [State.shows, hp, Page.visibleOn]
  refine ⟨fun e he n hn => ?_, fun e he hv => hrecords e he fun hp => ?_⟩
  · obtain ⟨f, hf, hp⟩ := howners e he n hn
    exact ⟨f, hf, hshows f hp⟩
  · simp [hshows _ hp] at hv

/-- The part after the page left is cleared, its RETIRING fields are FREE and the new page is selected (R112). -/
def State.turnPage (q : BitVec 2) (n : FrameNo) : State :=
  let cleared := (s.clearPage s.scr.page).releaseAll n (s.retiringOfPage s.scr.page)
  { cleared with scr := { cleared.scr with page := q } }

theorem State.turnPage_keeps (q : BitVec 2) (n : FrameNo) : s.keepsFieldLaws (s.turnPage q n) := by
  have hfrom : s.recordsFrom (s.turnPage q n) :=
    ((s.clearPage_recordsFrom _).trans (State.releaseAll_recordsFrom _ n _)).trans (State.recordsFrom_of_fields rfl)
  refine ⟨hfrom.recordLaw_of_geometry (by simp [State.turnPage]), hfrom.textLaw, fun ⟨howners, hhidden⟩ => ?_⟩
  exact State.shownLaw_of_common (State.releaseAll_ownersAre _ n _ (s.clearPage_owners howners))
    (State.releaseAll_recordsAre _ n _ (s.clearPage_hidden hhidden))

theorem State.changePage_keeps (r : PendingPage) (n : FrameNo) : s.keepsFieldLaws (s.changePage r n) := by
  refine (s.turnPage_keeps r.page n).trans (State.sameTable.keeps ?_)
  unfold State.changePage
  constructor <;> dsimp only <;> split <;> simp [State.turnPage]

theorem State.applyPendingPage_keeps (n : FrameNo) : s.keepsFieldLaws (s.applyPendingPage n) := by
  unfold State.applyPendingPage
  split
  · split
    · exact s.keepsFieldLaws_refl
    · exact s.changePage_keeps _ _
  · exact s.keepsFieldLaws_refl

/-! ### Geometry change (R115, R116) -/

theorem State.clearForGeometry_recordsFrom (g : Geometry) : s.recordsFrom (s.clearForGeometry g) :=
  State.recordsFrom_of_map (fun e => e.2.unshown) (fun e => e.2.unshown_mayBecome) rfl

/-- R116 step 3 releases every field that the new geometry has no room for. -/
theorem State.changeGeometry_inBounds (g : Geometry) (n : FrameNo) (h : s.tableLaw) :
    ((s.clearForGeometry g).releaseAll n (s.releasedBy g)).recordsAre fun f => f.inBounds g = true := by
  intro e he
  obtain ⟨hmem, hkept⟩ := State.releaseAll_not_mem _ n _ ((s.clearForGeometry_recordsFrom g).rising h.1) he
  rw [State.clearForGeometry_fields] at hmem
  obtain ⟨d, hd, rfl⟩ := List.mem_map.1 hmem
  by_contra hout
  refine hkept (List.mem_map.2 ⟨d, List.mem_filter.2 ⟨hd, ?_⟩, rfl⟩)
  have hlost : d.2.inBounds g = false := by
    rw [← d.2.unshown_mayBecome.inBounds_eq]
    simpa using hout
  simp [hlost]

/-- After R116 steps 2 and 4 no field holds a slot and none shows anything. -/
theorem State.clearForGeometry_shown (g : Geometry) :
    (s.clearForGeometry g).ownersAre (fun f => f.page = .common) ∧
      (s.clearForGeometry g).recordsAre fun f => f.page ≠ .common → f.hidden := by
  refine ⟨fun e he n hn => ?_, fun e he _ => ?_⟩
  · exact absurd (abandonSlots_owner he hn).2 (by simp)
  · rw [State.clearForGeometry_fields] at he
    obtain ⟨d, -, rfl⟩ := List.mem_map.1 he
    exact d.2.unshown_hidden

theorem State.changeGeometry_keeps (g : Geometry) (n : FrameNo) : s.keepsFieldLaws (s.changeGeometry g n) := by
  have hfrom : s.recordsFrom ((s.clearForGeometry g).releaseAll n (s.releasedBy g)) :=
    (s.clearForGeometry_recordsFrom g).trans (State.releaseAll_recordsFrom _ n _)
  have hgeometry : ((s.clearForGeometry g).releaseAll n (s.releasedBy g)).scr.geometry = g := by
    rw [State.releaseAll_scr]; rfl
  obtain ⟨howners, hhidden⟩ := s.clearForGeometry_shown g
  refine State.keepsFieldLaws.trans ⟨fun hs => hfrom.recordLaw ?_ hs, hfrom.textLaw, fun _ => ?_⟩
    (State.sameTable.keeps (by constructor <;> simp [State.changeGeometry]))
  · rw [hgeometry]
    exact s.changeGeometry_inBounds g n hs.1
  · exact State.shownLaw_of_common (State.releaseAll_ownersAre _ n _ howners) (State.releaseAll_recordsAre _ n _ hhidden)

theorem State.applyConfigure_keeps (c : PendingConfigure) (n : FrameNo) : s.keepsFieldLaws (s.applyConfigure c n) := by
  have htaken := (s.takeParameters_sameTable c n).keeps
  unfold State.applyConfigure
  dsimp only
  split
  · exact htaken.trans (State.sameTable.keeps (by constructor <;> simp))
  · exact (htaken.trans (State.changeGeometry_keeps _ c.geometry n)).trans (State.sameTable.keeps (by constructor <;> simp))

theorem State.applyPendingConfigure_keeps (n : FrameNo) : s.keepsFieldLaws (s.applyPendingConfigure n) := by
  unfold State.applyPendingConfigure
  split
  · split
    · exact s.keepsFieldLaws_refl
    · exact s.applyConfigure_keeps _ _
  · exact s.keepsFieldLaws_refl

/-! ### The boundary as a whole (R103, R106) -/

theorem State.screenWork_keeps (agingFirst : Bool) (n : FrameNo) : s.keepsFieldLaws (s.screenWork agingFirst n) := by
  unfold State.screenWork
  have haged : s.keepsFieldLaws (if agingFirst then s.age else s) := by
    split
    · exact s.age_sameTable.keeps
    · exact s.keepsFieldLaws_refl
  exact haged.trans <| (State.expireFreeze_sameTable _ n).keeps.trans <| (State.applyPendingPage_keeps _ n).trans <|
    (State.applyPendingConfigure_keeps _ n).trans <| (State.age_sameTable _).keeps.trans <|
    (State.judgeBlink_sameTable _ n).keeps.trans (State.commitAll_keeps _ n)

theorem State.takeBoundary_keeps (order : BoundaryOrder) : s.keepsFieldLaws (s.takeBoundary order) := by
  unfold State.takeBoundary
  dsimp only
  generalize s.boundaryNumber = n
  have hstarted : s.keepsFieldLaws ((s.openBoundary.startBoundary n).latchFrameIf order.frameFirst n) :=
    s.openBoundary_sameTable.keeps.trans <| (State.startBoundary_sameTable _ n).keeps.trans
      (State.latchFrameIf_sameTable _ _ n).keeps
  generalize (s.openBoundary.startBoundary n).latchFrameIf order.frameFirst n = started at hstarted ⊢
  have hearly : s.keepsFieldLaws (if order.ftuFirst then started.takeExpiries n else started) := by
    split
    · exact hstarted.trans (State.takeExpiries_keeps _ n)
    · exact hstarted
  exact hearly.trans <| (State.screenWork_keeps _ _ n).trans <| (State.takeExpiries_keeps _ n).trans <|
    (State.latchFrameIf_sameTable _ _ n).keeps.trans (State.sameTable.keeps ⟨rfl, rfl, rfl, rfl⟩)

theorem State.settle_keeps : s.keepsFieldLaws s.settle := by
  unfold State.settle
  split
  · exact s.keepsFieldLaws_refl
  · exact s.takeBoundary_keeps _

end Sys2Proof.Machine
end

section
namespace Sys2Proof.Machine

variable (s : State)

/-! ### The line -/

theorem State.receiveByte_sameTable (b : Byte) : s.sameTable (s.receiveByte b) := by
  unfold State.receiveByte
  split
  · split
    · split <;> constructor <;> simp [State.latchLine]
    · exact s.sameTable_refl
  · split <;> constructor <;> simp [State.latchLine]
  · split <;> exact ⟨rfl, rfl, rfl, rfl⟩

theorem State.receiveSignal_keeps (x : LineSignal) : s.keepsFieldLaws (s.receiveSignal x) := by
  cases x with
  | character c =>
    simp only [State.receiveSignal]
    split
    · exact s.keepsFieldLaws_refl
    · exact (s.receiveByte_sameTable _).keeps
  | heldLow =>
    simp only [State.receiveSignal]
    split
    · exact s.keepsFieldLaws_refl
    · exact (s.receiveByte_sameTable _).keeps.trans (State.sameTable.keeps ⟨rfl, rfl, rfl, rfl⟩)
  | returnsHigh => exact State.sameTable.keeps ⟨rfl, rfl, rfl, rfl⟩

theorem State.receiveSignals_keeps (l : List LineSignal) : s.keepsFieldLaws (s.receiveSignals l) := by
  induction l generalizing s with
  | nil => exact s.keepsFieldLaws_refl
  | cons x rest ih => exact (s.receiveSignal_keeps x).trans (ih _)

/-- A reset part lists no field and no slot. -/
theorem State.beginReset_keeps (cause : ResetCause) (level : Bool) (straps : Straps) :
    s.keepsFieldLaws (s.beginReset cause level straps) where
  records := fun _ => ⟨⟨rfl, by simp⟩, ⟨by simp, by simp⟩, by simp⟩
  text := fun _ _ he => nomatch he
  shown := fun _ => ⟨fun _ he => (nomatch he), fun _ he => (nomatch he)⟩

/-! ### The field requests -/

variable {s}

/-- What R10 and the checks after it let a request do to a field in use that is not RETIRING. -/
theorem State.onField_keeps {number : Half} {act : Nat → Field → State}
    (h : ∀ f, s.field? number.toNat = some f → s.keepsFieldLaws (act number.toNat f)) :
    s.keepsFieldLaws (s.onField number act) := by
  unfold State.onField
  split
  · exact (s.refuse_sameTable _ _).keeps
  · split
    · exact (s.refuse_sameTable _ _).keeps
    · split
      · exact (s.refuse_sameTable _ _).keeps
      · exact h _ ‹_›

/-- A record rewritten, its field enqueued and the request answered. -/
theorem State.putAndAnswer_keeps {n : Nat} {f g : Field} (h : s.field? n = some f) (hm : f.mayBecome g)
    (hh : f.hidden → g.hidden) (u : Bool) (at_ : FrameNo) (payload : List Byte) :
    s.keepsFieldLaws (((s.putField n g).enqueueAndLatch n u at_).answer payload) :=
  (State.putField_keeps h hm fun _ => hh).trans <| (State.enqueueAndLatch_sameTable _ n u at_).keeps.trans
    (State.answer_sameTable _ payload).keeps

theorem State.restyle_keeps (r : RestyleFields) : s.keepsFieldLaws (s.restyle r) :=
  State.onField_keeps fun f hf => State.putAndAnswer_keeps hf (f.restyled_mayBecome r) id _ _ _

theorem State.setLimits_keeps (r : LimitFields) : s.keepsFieldLaws (s.setLimits r) := by
  refine State.onField_keeps fun f hf => ?_
  split
  · exact (s.refuse_sameTable _ _).keeps
  · split
    · exact (s.refuse_sameTable _ _).keeps
    · exact (State.putField_keeps hf (Field.limited_mayBecome r ‹_›) fun _ => id).trans (State.answer_sameTable _ _).keeps

theorem State.delete_keeps (number : Half) : s.keepsFieldLaws (s.delete number) := by
  refine State.onField_keeps fun f hf => ?_
  split
  · exact State.putAndAnswer_keeps hf f.retired_mayBecome (fun ⟨hs, hn, _⟩ => ⟨hs, hn, rfl⟩) _ _ _
  · exact (s.release_keeps _ _).trans (State.answer_sameTable _ _).keeps

theorem State.readField_keeps (number : Half) : s.keepsFieldLaws (s.readField number) := by
  unfold State.readField
  split
  · exact (s.refuse_sameTable _ _).keeps
  · split
    · exact (s.refuse_sameTable _ _).keeps
    · exact (s.answer_sameTable _).keeps

theorem State.unhold_keeps (number : Half) : s.keepsFieldLaws (s.unhold number) := by
  refine State.onField_keeps fun f hf => ?_
  split
  · exact State.putAndAnswer_keeps hf (Field.unheld_mayBecome _ ‹_›) id _ _ _
  · exact (s.refuse_sameTable _ _).keeps

/-! ### DEFINE FIELD -/

theorem storedScale_le (format : Format) (carried : Nat) : storedScale format carried ≤ 8 := by
  cases format <;> simp only [storedScale] <;> omega

/-- A new field shows nothing, has no value and no deadline (R13). -/
theorem DefineFields.record_coherent (r : DefineFields) (page : Page) (format : Format) :
    (DefineFields.record r page format).coherent :=
  ⟨rfl, rfl, fun h => (nomatch h), fun h => (h.elim (fun h => nomatch h) fun h => nomatch h), fun _ => rfl⟩

theorem DefineFields.record_inRange (r : DefineFields) (page : Page) (format : Format) (h1 : 1 ≤ r.width.toNat)
    (h40 : r.width.toNat ≤ 40) : (DefineFields.record r page format).inRange := by
  have hflash := r.flashLength.isLt
  have hstale := r.staleInterval.isLt
  exact ⟨h1, h40, storedScale_le _ _, by simp only [DefineFields.record]; omega, by simp only [DefineFields.record]; omega,
    fun _ h => nomatch h⟩

/-- A record written under a number that was FREE, clear of every other field and within the geometry (R9, R13). -/
theorem State.putField_new_keeps {n : Nat} {f : Field} (hfree : s.field? n = none) (hn : n < 512)
    (hclear : s.conflictsWithAny n f = false) (hin : f.inBounds s.scr.geometry = true) (hc : f.coherent) (hr : f.inRange)
    (ht : f.textPlain) (hh : f.hidden) : s.keepsFieldLaws (s.putField n f) where
  records := by
    rintro ⟨⟨hrising, hbelow⟩, ⟨hapart, hinside⟩, hrecords⟩
    have hclear' : ∀ e ∈ s.fields, e.1 ≠ n → f.conflicts e.2 = false := by
      simpa [State.conflictsWithAny] using hclear
    refine ⟨⟨Store.rising_insert n f hrising, fun e he => ?_⟩, ⟨fun e he d hd hne => ?_, fun e he => ?_⟩, fun e he => ?_⟩
    · rcases Store.mem_insert he with rfl | he
      · exact hn
      · exact hbelow e he
    · rcases Store.mem_insert he with rfl | he <;> rcases Store.mem_insert hd with rfl | hd
      · exact absurd rfl hne
      · exact hclear' d hd (Ne.symm hne)
      · rw [Field.conflicts_comm]; exact hclear' e he hne
      · exact hapart e he d hd hne
    · rcases Store.mem_insert he with rfl | he
      · exact hin
      · exact hinside e he
    · rcases Store.mem_insert he with rfl | he
      · exact ⟨hc, hr⟩
      · exact hrecords e he
  text := by
    intro hs e he
    rcases Store.mem_insert he with rfl | he
    · exact ht
    · exact hs e he
  shown := by
    rintro ⟨howners, hhidden⟩
    refine ⟨fun e he m hm => ?_, fun e he hv => ?_⟩
    · obtain ⟨g, hg, hv⟩ := howners e he m hm
      have hmn : m ≠ n := by rintro rfl; simp [hfree] at hg
      exact ⟨g, by rw [State.field?, State.putField_fields, Store.find?_insert_ne hmn]; exact hg, hv⟩
    · rcases Store.mem_insert he with rfl | he
      · exact hh
      · exact hhidden e he hv

/-- What checks 2 to 4 of R11 let pass. -/
theorem State.checkDefine_ok {r : DefineFields} {page : Page} {format : Format} (h : s.checkDefine r = .ok (page, format)) :
    s.field? r.number.toNat = none ∧ 1 ≤ r.width.toNat ∧ r.width.toNat ≤ 40 := by
  unfold State.checkDefine at h
  split at h
  · simp at h
  · split at h
    · split at h
      · simp at h
      · rename_i hfree _ _ _ _ _ _ hwidth
        simp only [Bool.or_eq_true, decide_eq_true_eq, not_or] at hwidth
        simp only [Bool.not_eq_true, Option.isSome_eq_false_iff, Option.isNone_iff_eq_none] at hfree
        exact ⟨hfree, by omega, by omega⟩
    · simp at h

theorem State.define_keeps (r : DefineFields) : s.keepsFieldLaws (s.define r) := by
  unfold State.define
  split
  · exact (s.refuse_sameTable _ _).keeps
  · rename_i hnumber
    split
    · exact (s.refuse_sameTable _ _).keeps
    · rename_i page format hok
      obtain ⟨hfree, h1, h40⟩ := State.checkDefine_ok hok
      dsimp only
      split
      · exact (s.refuse_sameTable _ _).keeps
      · split
        · exact (s.refuse_sameTable _ _).keeps
        · rename_i hin
          split
          · exact (s.refuse_sameTable _ _).keeps
          · rename_i hclear
            have hn : r.number.toNat < 512 := by simpa [fieldCount] using hnumber
            have hput := State.putField_new_keeps hfree hn (by simpa using hclear) (by simpa using hin)
              (DefineFields.record_coherent r page format)
              (DefineFields.record_inRange r page format h1 h40) (fun _ => ⟨rfl, rfl, rfl, rfl⟩)
              ⟨rfl, rfl, rfl⟩
            exact hput.trans <| (State.enqueueAndLatch_sameTable _ _ _ _).keeps.trans (State.answer_sameTable _ _).keeps

/-! ### Posts -/

@[simp] theorem State.postQueued_fields (n : Nat) (own raised : Bool) : (s.postQueued n own raised).fields = s.fields := by
  cases own <;> cases raised <;> simp [State.postQueued]

@[simp] theorem State.postQueued_scr (n : Nat) (own raised : Bool) : (s.postQueued n own raised).scr = s.scr := by
  cases own <;> cases raised <;> simp [State.postQueued]

@[simp] theorem State.postQueued_slots (n : Nat) (own raised : Bool) :
    (s.postQueued n own raised).pnt.slots = s.pnt.slots := by
  cases own <;> cases raised <;> simp [State.postQueued]

theorem State.applyPost_keeps {n : Nat} {f : Field} {v : Value} (h : s.field? n = some f) (hv : v.fits f.format) :
    s.keepsFieldLaws (s.applyPost n f v) := by
  have hrest : (s.putField n (f.posted v s.now)).sameTable (s.applyPost n f v) := by
    constructor <;> simp [State.applyPost]
  exact (State.putField_keeps h (Field.posted_mayBecome s.now hv) fun _ => id).trans hrest.keeps

/-- What the checks of a post let pass. -/
theorem State.checkPost_ok {number : Half} {fits : Format → Bool} {f : Field} (h : s.checkPost number fits = .ok f) :
    s.field? number.toNat = some f ∧ fits f.format = true := by
  unfold State.checkPost at h
  split at h
  · simp at h
  · split at h
    · simp at h
    · split at h
      · simp at h
      · split at h
        · obtain rfl := Except.ok.inj h
          exact ⟨‹_›, ‹_›⟩
        · simp at h

theorem Value.number_fits {format : Format} (v : Word) (h : format.numeric = true) : (Value.number v).fits format := by
  rintro rfl
  exact nomatch h

theorem Value.text_fits {format : Format} (glyphs : List Byte) (h : (format == .text) = true) :
    (Value.text (glyphs.take maxText)).fits format :=
  ⟨by simpa using h, by simp [maxText]⟩

theorem State.post_keeps (r : PostFields) : s.keepsFieldLaws (s.post r) := by
  unfold State.post
  split
  · exact (s.refuse_sameTable _ _).keeps
  · obtain ⟨hf, hnumeric⟩ := State.checkPost_ok ‹_›
    exact (State.applyPost_keeps hf (Value.number_fits _ hnumeric)).trans (State.answer_sameTable _ _).keeps

theorem State.postText_keeps (r : TextFields) : s.keepsFieldLaws (s.postText r) := by
  unfold State.postText
  split
  · exact (s.refuse_sameTable _ _).keeps
  · obtain ⟨hf, htext⟩ := State.checkPost_ok ‹_›
    exact (State.applyPost_keeps hf (Value.text_fits _ htext)).trans (State.answer_sameTable _ _).keeps

theorem BatchRun.entry_keeps (b : BatchRun) (index : Nat) (r : PostFields) :
    b.state.keepsFieldLaws (b.entry index r).state := by
  unfold BatchRun.entry
  split
  · exact (b.state.refuseEntry_sameTable _ _ _).keeps
  · obtain ⟨hf, hnumeric⟩ := State.checkPost_ok ‹_›
    exact State.applyPost_keeps hf (Value.number_fits _ hnumeric)

theorem BatchRun.entries_keeps (b : BatchRun) (index : Nat) (l : List PostFields) :
    b.state.keepsFieldLaws (b.entries index l).state := by
  induction l generalizing b index with
  | nil => exact b.state.keepsFieldLaws_refl
  | cons r rest ih => exact (b.entry_keeps index r).trans (ih _ _)

theorem State.postBatch_keeps (entries : List PostFields) : s.keepsFieldLaws (s.postBatch entries) :=
  (BatchRun.entries_keeps ⟨s, 0, none⟩ 0 entries).trans (State.answer_sameTable _ _).keeps

/-! ### ACK ALERT -/

theorem State.clearLatch_keeps {n : Nat} {f : Field} (h : s.field? n = some f) : s.keepsFieldLaws (s.clearLatch n f) := by
  have hrest : (s.putField n { f with alertLatched := false }).sameTable (s.clearLatch n f) := by
    constructor <;> simp [State.clearLatch]
  exact (State.putField_keeps h f.unlatched_mayBecome fun _ => id).trans hrest.keeps

theorem State.clearLatches_keeps (l : List Nat) : s.keepsFieldLaws (s.clearLatches l) := by
  induction l generalizing s with
  | nil => exact s.keepsFieldLaws_refl
  | cons n rest ih =>
    unfold State.clearLatches
    split
    · exact (State.clearLatch_keeps ‹_›).trans ih
    · exact ih

theorem State.ackAll_keeps : s.keepsFieldLaws s.ackAll :=
  (State.clearLatches_keeps _).trans (State.answer_sameTable _ _).keeps

theorem State.ack_keeps (number : Half) : s.keepsFieldLaws (s.ack number) := by
  unfold State.ack
  split
  · exact State.ackAll_keeps
  · refine State.onField_keeps fun f hf => ?_
    split
    · exact (State.clearLatch_keeps hf).trans (State.answer_sameTable _ _).keeps
    · exact (s.answer_sameTable _).keeps

end Sys2Proof.Machine
end

section
namespace Sys2Proof.Machine

variable {s : State}

/-! ### The screen and attention requests leave the table alone -/

theorem State.answer_keeps (payload : List Byte) : s.keepsFieldLaws (s.answer payload) := (s.answer_sameTable payload).keeps

theorem State.refuse_keeps (code : RefusalCode) (number : Option Half) : s.keepsFieldLaws (s.refuse code number) :=
  (s.refuse_sameTable code number).keeps

/-- A state that differs from another outside the table, answered. -/
theorem State.sameTable.answer_keeps {t : State} (h : s.sameTable t) (payload : List Byte) :
    s.keepsFieldLaws (t.answer payload) :=
  h.keeps.trans (State.answer_sameTable t payload).keeps

theorem State.setPalette_keeps (r : PaletteFields) : s.keepsFieldLaws (s.setPalette r) := by
  unfold State.setPalette
  split
  · exact State.refuse_keeps _ _
  · exact State.sameTable.answer_keeps (by constructor <;> rfl) _

theorem State.stageMode_keeps (r : ModeFields) : s.keepsFieldLaws (s.stageMode r) := by
  unfold State.stageMode
  split
  · exact State.refuse_keeps _ _
  · exact State.sameTable.answer_keeps (by constructor <;> rfl) _

theorem State.selectPage_keeps (page : Byte) : s.keepsFieldLaws (s.selectPage page) := by
  unfold State.selectPage
  split
  · exact State.refuse_keeps _ _
  · split
    · exact State.refuse_keeps _ _
    · split
      · exact State.refuse_keeps _ _
      · exact State.sameTable.keeps ⟨rfl, rfl, rfl, rfl⟩

theorem State.configure_keeps (r : ConfigureFields) : s.keepsFieldLaws (s.configure r) := by
  unfold State.configure
  split
  · exact State.refuse_keeps _ _
  · split
    · exact State.refuse_keeps _ _
    · split
      · exact State.refuse_keeps _ _
      · exact State.sameTable.keeps ⟨rfl, rfl, rfl, rfl⟩

theorem State.freeze_keeps (r : FreezeFields) : s.keepsFieldLaws (s.freeze r) :=
  State.sameTable.answer_keeps (by constructor <;> rfl) _

theorem State.thaw_keeps : s.keepsFieldLaws s.thaw := by
  unfold State.thaw
  split
  · exact State.sameTable.answer_keeps (by constructor <;> rfl) _
  · exact State.refuse_keeps _ _

theorem State.readCells_keeps (r : CellFields) : s.keepsFieldLaws (s.readCells r) := by
  unfold State.readCells
  dsimp only
  split
  · exact State.refuse_keeps _ _
  · split
    · exact State.refuse_keeps _ _
    · split
      · exact State.refuse_keeps _ _
      · exact State.answer_keeps _

theorem State.readWatch_keeps : s.keepsFieldLaws s.readWatch :=
  State.sameTable.answer_keeps (by constructor <;> rfl) _

theorem State.sameTable.renotify_answer_keeps {t : State} (h : s.sameTable t) (payload : List Byte) :
    s.keepsFieldLaws (t.renotify.answer payload) := by
  refine State.sameTable.answer_keeps ?_ _
  unfold State.renotify
  split
  · exact ⟨h.fields, h.geometry, h.page, h.slots⟩
  · exact h

theorem State.clearEvents_keeps (kinds : EventSet) : s.keepsFieldLaws (s.clearEvents kinds) :=
  State.sameTable.renotify_answer_keeps (by constructor <;> rfl) _

theorem State.setNoticeMask_keeps (kinds : EventSet) : s.keepsFieldLaws (s.setNoticeMask kinds) :=
  State.sameTable.renotify_answer_keeps (by constructor <;> rfl) _

/-! ### The requests -/

theorem State.checkLength_keeps {α : Type} {p : Carried α} {act : α → State → State}
    (h : ∀ a u, State.keepsFieldLaws u (act a u)) (u : State) : u.keepsFieldLaws (u.checkLength p act) := by
  cases p with
  | fields a => exact h a u
  | wrongLength _ => exact State.refuse_keeps _ _

theorem State.take_keeps {c : Instr} {act : State → State} {t : State} (hc : exec c s = s.takeThen c act)
    (h : ∀ u, State.keepsFieldLaws u (act u)) (ht : exec c s = .next t) : s.keepsFieldLaws t := by
  rw [hc] at ht
  rcases s.takeThen_cases c act with hsame | ⟨f, -, -, htaken⟩
  · obtain rfl := Host.Outcome.next.inj (hsame.symm.trans ht)
    exact s.keepsFieldLaws_refl
  · obtain rfl := Host.Outcome.next.inj (htaken.symm.trans ht)
    exact s.settle_keeps.trans <| (State.take_sameTable _ f).keeps.trans (h _)

/-- A request whose own rule keeps the laws keeps them with its take and its checks. -/
theorem State.request_keeps {α : Type} {c : Instr} {p : Carried α} {act : α → State → State} {t : State}
    (hc : exec c s = s.takeThen c fun u => u.checkLength p act) (h : ∀ a u, State.keepsFieldLaws u (act a u))
    (ht : exec c s = .next t) : s.keepsFieldLaws t :=
  State.take_keeps hc (State.checkLength_keeps h) ht

/-! ### The other commands -/

/-- A command that, unless something stands against it, takes the part to a state. -/
theorem State.keeps_of_unless {t u : State} {stopped : Prop} [Decidable stopped]
    (ht : (if stopped then .next s else .next u : Host.Outcome State Fault Refusal) = .next t) (h : s.keepsFieldLaws u) :
    s.keepsFieldLaws t := by
  split at ht
  · obtain rfl := Host.Outcome.next.inj ht
    exact s.keepsFieldLaws_refl
  · obtain rfl := Host.Outcome.next.inj ht
    exact h

theorem execGapTimeout_keeps {t : State} (h : execGapTimeout s = .next t) : s.keepsFieldLaws t :=
  State.keeps_of_unless h (State.sameTable.keeps (by constructor <;> simp [State.latchLine]))

theorem execTransmitComplete_keeps {t : State} (h : execTransmitComplete s = .next t) : s.keepsFieldLaws t := by
  unfold execTransmitComplete at h
  split at h <;> obtain rfl := Host.Outcome.next.inj h <;> exact State.sameTable.keeps ⟨rfl, rfl, rfl, rfl⟩

theorem execResetDone_keeps {t : State} (h : execResetDone s = .next t) : s.keepsFieldLaws t := by
  unfold execResetDone at h
  split at h <;> obtain rfl := Host.Outcome.next.inj h <;> exact State.sameTable.keeps ⟨rfl, rfl, rfl, rfl⟩

/-- One field's expiries taken ahead of the rest of the boundary, if they are next (R127, R128). -/
theorem State.expiryAhead_keeps {t : State} {m : Nat} {f : Field} {due : Prop} [Decidable due]
    (hf : s.openBoundary.field? m = some f)
    (h : (if due then .next ((s.openBoundary.expireField m f s.boundaryNumber).markExamined (m + 1)) else .next s :
      Host.Outcome State Fault Refusal) = .next t) : s.keepsFieldLaws t := by
  split at h
  · obtain rfl := Host.Outcome.next.inj h
    exact s.openBoundary_sameTable.keeps.trans <| (State.expireField_keeps _ _ hf).trans
      (State.markExamined_sameTable _ _).keeps
  · obtain rfl := Host.Outcome.next.inj h
    exact s.keepsFieldLaws_refl

theorem execStaleExpiry_keeps {t : State} {m : Nat} (h : execStaleExpiry m s = .next t) : s.keepsFieldLaws t := by
  unfold execStaleExpiry at h
  dsimp only at h
  split at h
  · exact State.expiryAhead_keeps ‹_› h
  · obtain rfl := Host.Outcome.next.inj h
    exact s.keepsFieldLaws_refl

theorem execFlashExpiry_keeps {t : State} {m : Nat} (h : execFlashExpiry m s = .next t) : s.keepsFieldLaws t := by
  unfold execFlashExpiry at h
  dsimp only at h
  split at h
  · exact State.expiryAhead_keeps ‹_› h
  · obtain rfl := Host.Outcome.next.inj h
    exact s.keepsFieldLaws_refl

/-! ### The painter -/

/-- A change of state after which the laws of the table stand, though a render may have taken a slot: the slots' law is not
asked for. -/
structure State.leavesFieldLaws (s t : State) : Prop where
  records : s.recordLaw → t.recordLaw
  text : s.recordsAre Field.textPlain → t.recordsAre Field.textPlain
  hidden : s.shownLaw → t.hiddenLaw

/-- The laws of the table look at the records and at SCR alone. -/
theorem State.keepsFieldLaws.leaves_of_eq {t u : State} (h : s.keepsFieldLaws t) (hf : u.fields = t.fields)
    (hs : u.scr = t.scr) : s.leavesFieldLaws u := by
  constructor
  · intro hr
    simpa only [State.recordLaw, State.tableLaw, State.placementLaw, hf, hs] using h.records hr
  · intro ht
    simpa only [State.recordsAre, hf] using h.text ht
  · intro hv
    simpa only [State.hiddenLaw, State.shows, hf, hs] using (h.shown hv).2

theorem State.keepsFieldLaws.leaves {t : State} (h : s.keepsFieldLaws t) : s.leavesFieldLaws t := h.leaves_of_eq rfl rfl

theorem State.paintNext_fields (s : State) : s.paintNext.fields = s.fields ∧ s.paintNext.scr = s.scr := by
  unfold State.paintNext
  split
  · exact ⟨rfl, rfl⟩
  · split
    · exact ⟨rfl, rfl⟩
    · split
      · simp [State.beginRender]
      · exact ⟨rfl, rfl⟩

/-- A render that completes rewrites the overflow flag of its field at most (R77). -/
theorem State.finishRender_fields (s : State) : s.finishRender.scr = s.scr ∧
    (s.finishRender.fields = s.fields ∨
      ∃ n f b, s.field? n = some f ∧ s.finishRender.fields = (s.putField n { f with overflow := b }).fields) := by
  unfold State.finishRender
  split
  · dsimp only
    split
    · exact ⟨rfl, .inr ⟨_, _, _, ‹_›, rfl⟩⟩
    · exact ⟨rfl, .inl rfl⟩
  · exact ⟨rfl, .inl rfl⟩
  · exact ⟨rfl, .inl rfl⟩

theorem State.paintNext_leaves {t : State} (h : s.keepsFieldLaws t) : s.leavesFieldLaws t.paintNext :=
  h.leaves_of_eq t.paintNext_fields.1 t.paintNext_fields.2

theorem State.finishRender_leaves {t : State} (h : s.keepsFieldLaws t) : s.leavesFieldLaws t.finishRender := by
  obtain ⟨hscr, hsame | ⟨n, f, b, hf, hput⟩⟩ := t.finishRender_fields
  · exact h.leaves_of_eq hsame hscr
  · exact (h.trans (State.putField_keeps hf (f.overflow_mayBecome b) fun _ => id)).leaves_of_eq hput hscr

/-- RENDER_BEGIN and RENDER_COMPLETE: during reset processing nothing, and otherwise the painter's act after a begun boundary
is over. -/
theorem State.render_leaves {t u : State} (hu : s.leavesFieldLaws u)
    (ht : (if s.inReset = true then .next s else .next u : Host.Outcome State Fault Refusal) = .next t) :
    s.leavesFieldLaws t := by
  split at ht
  · obtain rfl := Host.Outcome.next.inj ht
    exact s.keepsFieldLaws_refl.leaves
  · obtain rfl := Host.Outcome.next.inj ht
    exact hu

/-! ### Every command, and the step -/

theorem exec_leavesFieldLaws (c : Instr) {t : State} (h : exec c s = .next t) : s.leavesFieldLaws t := by
  cases c with
  | identify => exact (State.request_keeps (exec_identify ..) (fun _ _ => State.answer_keeps _) h).leaves
  | readStatus => exact (State.request_keeps (exec_readStatus ..) (fun _ _ => State.answer_keeps _) h).leaves
  | configureDisplay => exact (State.request_keeps (exec_configureDisplay ..) (fun r _ => State.configure_keeps r) h).leaves
  | setPalette => exact (State.request_keeps (exec_setPalette ..) (fun r _ => State.setPalette_keeps r) h).leaves
  | displayMode => exact (State.request_keeps (exec_displayMode ..) (fun r _ => State.stageMode_keeps r) h).leaves
  | selectPage => exact (State.request_keeps (exec_selectPage ..) (fun page _ => State.selectPage_keeps page) h).leaves
  | freeze => exact (State.request_keeps (exec_freeze ..) (fun r _ => State.freeze_keeps r) h).leaves
  | thaw => exact (State.request_keeps (exec_thaw ..) (fun _ _ => State.thaw_keeps) h).leaves
  | reset => exact (State.request_keeps (exec_reset ..) (fun _ u => u.beginReset_keeps _ _ _) h).leaves
  | defineField => exact (State.request_keeps (exec_defineField ..) (fun r _ => State.define_keeps r) h).leaves
  | restyleField => exact (State.request_keeps (exec_restyleField ..) (fun r _ => State.restyle_keeps r) h).leaves
  | setLimits => exact (State.request_keeps (exec_setLimits ..) (fun r _ => State.setLimits_keeps r) h).leaves
  | deleteField => exact (State.request_keeps (exec_deleteField ..) (fun number _ => State.delete_keeps number) h).leaves
  | readField => exact (State.request_keeps (exec_readField ..) (fun number _ => State.readField_keeps number) h).leaves
  | post => exact (State.request_keeps (exec_post ..) (fun r _ => State.post_keeps r) h).leaves
  | postBatch => exact (State.request_keeps (exec_postBatch ..) (fun entries _ => State.postBatch_keeps entries) h).leaves
  | postText => exact (State.request_keeps (exec_postText ..) (fun r _ => State.postText_keeps r) h).leaves
  | unhold => exact (State.request_keeps (exec_unhold ..) (fun number _ => State.unhold_keeps number) h).leaves
  | ackAlert => exact (State.request_keeps (exec_ackAlert ..) (fun number _ => State.ack_keeps number) h).leaves
  | ackAlertAll => exact (State.take_keeps (exec_ackAlertAll ..) (fun _ => State.ackAll_keeps) h).leaves
  | readAlerts => exact (State.request_keeps (exec_readAlerts ..) (fun _ _ => State.answer_keeps _) h).leaves
  | readWatch => exact (State.request_keeps (exec_readWatch ..) (fun _ _ => State.readWatch_keeps) h).leaves
  | clearEvents => exact (State.request_keeps (exec_clearEvents ..) (fun kinds _ => State.clearEvents_keeps kinds) h).leaves
  | setNoticeMask =>
    exact (State.request_keeps (exec_setNoticeMask ..) (fun kinds _ => State.setNoticeMask_keeps kinds) h).leaves
  | readFault => exact (State.request_keeps (exec_readFault ..) (fun _ _ => State.answer_keeps _) h).leaves
  | readCells => exact (State.request_keeps (exec_readCells ..) (fun r _ => State.readCells_keeps r) h).leaves
  | unknownType => exact (State.take_keeps (exec_unknownType ..) (fun _ => State.refuse_keeps _ _) h).leaves
  | badCheck => exact (State.take_keeps (exec_badCheck ..) (fun _ => State.refuse_keeps _ _) h).leaves
  | frameReceived signals => exact (State.keeps_of_unless h (s.receiveSignals_keeps signals)).leaves
  | gapTimeout => exact (execGapTimeout_keeps h).leaves
  | transmitBegin => exact (State.keeps_of_unless h (State.sameTable.keeps ⟨rfl, rfl, rfl, rfl⟩)).leaves
  | transmitComplete => exact (execTransmitComplete_keeps h).leaves
  | resetn straps =>
    obtain rfl := Host.Outcome.next.inj h
    exact (s.beginReset_keeps _ _ straps).leaves
  | resetDone => exact (execResetDone_keeps h).leaves
  | frameBoundary order => exact (State.keeps_of_unless h (s.takeBoundary_keeps order)).leaves
  | blinkToggle =>
    exact (State.keeps_of_unless h (s.openBoundary_sameTable.keeps.trans (State.judgeBlink_sameTable _ _).keeps)).leaves
  | freezeExpired =>
    exact (State.keeps_of_unless h (s.openBoundary_sameTable.keeps.trans (State.expireFreeze_sameTable _ _).keeps)).leaves
  | staleExpiry => exact (execStaleExpiry_keeps h).leaves
  | flashExpiry => exact (execFlashExpiry_keeps h).leaves
  | aging => exact (State.keeps_of_unless h (s.openBoundary_sameTable.keeps.trans (State.age_sameTable _).keeps)).leaves
  | pageChange =>
    exact (State.keeps_of_unless h (s.openBoundary_sameTable.keeps.trans (State.applyPendingPage_keeps _ _))).leaves
  | configurationApply =>
    exact (State.keeps_of_unless h (s.openBoundary_sameTable.keeps.trans (State.applyPendingConfigure_keeps _ _))).leaves
  | renderBegin => exact State.render_leaves (State.paintNext_leaves s.settle_keeps) h
  | renderComplete => exact State.render_leaves (State.finishRender_leaves s.settle_keeps) h

theorem step_leavesFieldLaws {t : State} (h : step s = .next t) : s.leavesFieldLaws t := by
  unfold step at h
  split at h
  · obtain rfl := Host.Outcome.next.inj h
    exact s.keepsFieldLaws_refl.leaves
  · rename_i c rest _
    have hrest : s.keepsFieldLaws { s with pending := rest } := State.sameTable.keeps ⟨rfl, rfl, rfl, rfl⟩
    have hexec := exec_leavesFieldLaws c h
    exact ⟨fun a => hexec.records (hrest.records a), fun a => hexec.text (hrest.text a),
      fun a => hexec.hidden (hrest.shown a)⟩

/-- Settles O57: every change a step can make is one that `leavesFieldLaws` names; the slots' law (R73) is used where a
commit shows a value, whose field is visible because it holds a slot. -/
theorem everyStepKeepsFieldLaws : Obligations.EveryStepKeepsFieldLaws := by
  intro s t htable hplacement hrecords hstep
  have h := step_leavesFieldLaws hstep
  obtain ⟨htable', hplacement', hrecords'⟩ := h.records ⟨htable, hplacement, hrecords⟩
  refine ⟨⟨htable', hplacement', hrecords'⟩, h.text, fun hslots hhidden => h.hidden ⟨?_, hhidden⟩⟩
  obtain ⟨-, -, -, -, howners⟩ := hslots
  exact howners

end Sys2Proof.Machine
end

section
/-! What the field requests refuse (R10, R11, R15, R18, R20, R24, R48, R61, R63, R144). -/

namespace Sys2Proof.Machine

variable {s : State}

/-! ### From a request to its own rule -/

/-- A request with the length that its type asks for, taken when it is ready, is its own rule on the state after the take. -/
theorem State.exec_of_ready {α : Type} {c : Instr} {f : Frame} {a : α} {act : α → State → State}
    (hc : exec c s = s.takeThen c fun u => u.checkLength (.fields a) act) (hf : c.frame? = some f)
    (h : s.ready c = true) : exec c s = .next (act a (s.take f)) := by
  rw [hc, State.takeThen_of_ready _ h hf]
  rfl

/-- A request that its own rule refuses. -/
theorem State.exec_refused {α : Type} {c : Instr} {f : Frame} {a : α} {act : α → State → State} {code : RefusalCode}
    {number : Option Half} (hc : exec c s = s.takeThen c fun u => u.checkLength (.fields a) act) (hf : c.frame? = some f)
    (hact : act a (s.take f) = (s.take f).refuse code number) (h : s.ready c = true) :
    ∃ t, exec c s = .next t ∧ s.refusedAs t f.type f.tag code number :=
  ⟨_, State.exec_of_ready hc hf h, hact ▸ State.refuse_refusedAs code number h⟩

/-! ### The number and the state of the field (R10) -/

theorem State.onField_badField {number : Half} (act : Nat → Field → State) (h : 512 ≤ number.toNat) :
    s.onField number act = s.refuse .badField (some number) := by
  simp [State.onField, fieldCount, h]

theorem State.onField_notDefined {number : Half} (act : Nat → Field → State) (h : number.toNat < 512)
    (hnone : ∀ f, s.field? number.toNat = some f → f.state = .retiring) :
    s.onField number act = s.refuse .notDefined (some number) := by
  unfold State.onField
  rw [if_neg (by simp only [fieldCount]; omega)]
  cases hf : s.field? number.toNat with
  | none => rfl
  | some f => simp [hnone f hf]

/-- A field in use that is not RETIRING is what the request's rule goes on with. -/
theorem State.onField_of_inUse {number : Half} {f : Field} (act : Nat → Field → State) (h : number.toNat < 512)
    (hf : s.field? number.toNat = some f) (hstate : f.state ≠ .retiring) :
    s.onField number act = act number.toNat f := by
  unfold State.onField
  rw [if_neg (by simp only [fieldCount]; omega), hf]
  simp [hstate]

theorem State.checkPost_badField {number : Half} (fits : Format → Bool) (h : 512 ≤ number.toNat) :
    s.checkPost number fits = .error .badField := by
  simp [State.checkPost, fieldCount, h]

theorem State.checkPost_notDefined {number : Half} (fits : Format → Bool) (h : number.toNat < 512)
    (hnone : ∀ f, s.field? number.toNat = some f → f.state = .retiring) :
    s.checkPost number fits = .error .notDefined := by
  unfold State.checkPost
  rw [if_neg (by simp only [fieldCount]; omega)]
  cases hf : s.field? number.toNat with
  | none => rfl
  | some f => simp [hnone f hf]

theorem State.checkPost_of_inUse {number : Half} {f : Field} (fits : Format → Bool) (h : number.toNat < 512)
    (hf : s.field? number.toNat = some f) (hstate : f.state ≠ .retiring) :
    s.checkPost number fits = if fits f.format then .ok f else .error .wrongFormat := by
  unfold State.checkPost
  rw [if_neg (by simp only [fieldCount]; omega), hf]
  simp [hstate]

theorem State.post_of_error {r : PostFields} {code : RefusalCode} (h : s.checkPost r.number Format.numeric = .error code) :
    s.post r = s.refuse code (some r.number) := by
  simp [State.post, h]

theorem State.postText_of_error {r : TextFields} {code : RefusalCode}
    (h : s.checkPost r.number (fun x => x == .text) = .error code) : s.postText r = s.refuse code (some r.number) := by
  simp [State.postText, h]

theorem State.define_badField {r : DefineFields} (h : 512 ≤ r.number.toNat) :
    s.define r = s.refuse .badField (some r.number) := by
  simp [State.define, fieldCount, h]

theorem State.readField_badField {number : Half} (h : 512 ≤ number.toNat) :
    s.readField number = s.refuse .badField (some number) := by
  simp [State.readField, fieldCount, h]

theorem State.readField_notDefined {number : Half} (h : number.toNat < 512) (hnone : s.field? number.toNat = none) :
    s.readField number = s.refuse .notDefined (some number) := by
  unfold State.readField
  rw [if_neg (by simp only [fieldCount]; omega), hnone]

theorem State.readField_of_inUse {number : Half} {f : Field} (h : number.toNat < 512)
    (hf : s.field? number.toNat = some f) : s.readField number = s.answer (s.fieldReport number.toNat f) := by
  unfold State.readField
  rw [if_neg (by simp only [fieldCount]; omega), hf]

/-- The number 0xFFFF apart, ACK ALERT checks its field as the other requests do (R144). -/
theorem State.ack_eq_onField {number : Half} (h : number ≠ 0xFFFF) :
    s.ack number = s.onField number fun n f =>
      if f.alertLatched then (s.clearLatch n f).answer (bytesOfHalf number ++ bytesOfCount 1 ++ [f.zone.code])
      else s.answer (bytesOfHalf number ++ bytesOfCount 0 ++ [f.zone.code]) := by
  unfold State.ack
  rw [if_neg h]

/-- Settles O16: each request's rule begins with the checks of R10, on the state that the take leaves. -/
theorem fieldNumberChecks : Obligations.FieldNumberChecks := by
  rintro s tag number d r l p x rfl hr hl hp hx
  refine ⟨fun h => ?_, fun h hnone => ?_, fun h hnone => ?_⟩
  · rw [List.forall_mem_append]
    constructor
    · simp only [List.forall_mem_cons, List.not_mem_nil, false_implies, implies_true, and_true]
      exact ⟨State.exec_refused (exec_defineField ..) rfl (State.define_badField h),
        State.exec_refused (exec_restyleField ..) rfl (hr ▸ State.onField_badField _ (hr ▸ h)),
        State.exec_refused (exec_setLimits ..) rfl (hl ▸ State.onField_badField _ (hl ▸ h)),
        State.exec_refused (exec_deleteField ..) rfl (State.onField_badField _ h),
        State.exec_refused (exec_readField ..) rfl (State.readField_badField h),
        State.exec_refused (exec_post ..) rfl (hp ▸ State.post_of_error (State.checkPost_badField _ (hp ▸ h))),
        State.exec_refused (exec_postText ..) rfl (hx ▸ State.postText_of_error (State.checkPost_badField _ (hx ▸ h))),
        State.exec_refused (exec_unhold ..) rfl (State.onField_badField _ h)⟩
    · by_cases hall : d.number = 0xFFFF
      · simp [hall]
      · simp only [hall, if_false, List.forall_mem_cons, List.not_mem_nil, false_implies, implies_true, and_true]
        exact State.exec_refused (exec_ackAlert ..) rfl
          ((State.ack_eq_onField hall).trans (State.onField_badField _ h))
  · have hall : d.number ≠ 0xFFFF := by intro hn; rw [hn] at h; exact absurd h (by decide)
    simp only [List.forall_mem_cons, List.not_mem_nil, false_implies, implies_true, and_true]
    exact ⟨State.exec_refused (exec_restyleField ..) rfl (hr ▸ State.onField_notDefined _ (hr ▸ h) (hr ▸ hnone)),
      State.exec_refused (exec_setLimits ..) rfl (hl ▸ State.onField_notDefined _ (hl ▸ h) (hl ▸ hnone)),
      State.exec_refused (exec_deleteField ..) rfl (State.onField_notDefined _ h hnone),
      State.exec_refused (exec_post ..) rfl (hp ▸ State.post_of_error (State.checkPost_notDefined _ (hp ▸ h) (hp ▸ hnone))),
      State.exec_refused (exec_postText ..) rfl
        (hx ▸ State.postText_of_error (State.checkPost_notDefined _ (hx ▸ h) (hx ▸ hnone))),
      State.exec_refused (exec_unhold ..) rfl (State.onField_notDefined _ h hnone),
      State.exec_refused (exec_ackAlert ..) rfl
        ((State.ack_eq_onField hall).trans (State.onField_notDefined _ h hnone))⟩
  · exact State.exec_refused (exec_readField ..) rfl (State.readField_notDefined h hnone)

/-! ### The later checks -/

theorem State.restyle_of_inUse {r : RestyleFields} {f : Field} (h : r.number.toNat < 512)
    (hf : s.field? r.number.toNat = some f) (hstate : f.state ≠ .retiring) :
    s.restyle r = ((s.putField r.number.toNat (f.restyled r)).enqueueAndLatch r.number.toNat false s.now).answer
      (bytesOfHalf r.number ++ [(f.restyled r).state.code]) :=
  State.onField_of_inUse _ h hf hstate

theorem State.setLimits_of_inUse {r : LimitFields} {f : Field} (h : r.number.toNat < 512)
    (hf : s.field? r.number.toNat = some f) (hstate : f.state ≠ .retiring) :
    s.setLimits r =
      if f.format = .text then s.refuse .wrongFormat (some r.number)
      else if r.flags.getLsbD 0 && r.flags.getLsbD 1 && r.upper.toInt ≤ r.lower.toInt then
        s.refuse .badValue (some r.number)
      else (s.putField r.number.toNat (f.limited r)).answer (bytesOfHalf r.number ++ [(f.limited r).zone.code]) :=
  State.onField_of_inUse _ h hf hstate

theorem State.delete_of_inUse {number : Half} {f : Field} (h : number.toNat < 512)
    (hf : s.field? number.toNat = some f) (hstate : f.state ≠ .retiring) :
    s.delete number =
      if s.shows f then
        ((s.putField number.toNat f.retired).enqueueAndLatch number.toNat true s.now).answer
          (bytesOfHalf number ++ [FieldState.code .retiring])
      else (s.release number.toNat s.now).answer (bytesOfHalf number ++ [0]) :=
  State.onField_of_inUse _ h hf hstate

theorem State.unhold_of_inUse {number : Half} {f : Field} (h : number.toNat < 512)
    (hf : s.field? number.toNat = some f) (hstate : f.state ≠ .retiring) :
    s.unhold number =
      if f.state = .held then
        ((s.putField number.toNat (f.unheld s.now)).enqueueAndLatch number.toNat false s.now).answer
          (bytesOfHalf number ++ [FieldState.code .live])
      else s.refuse .notHeld (some number) :=
  State.onField_of_inUse _ h hf hstate

/-- Settles O18: what R18, R48, R61 and R63 check on a field in use, each by its own rule's first failing test. -/
theorem formatAndStateChecks : Obligations.FormatAndStateChecks := by
  rintro s tag number f l p x rfl hp hx hn hf hstate
  refine ⟨fun hready => ⟨fun htext => ?_, fun htext hup hlow hle => ?_⟩, fun hready htext => ?_, fun hready htext => ?_,
    fun hready hheld => ?_⟩
  · exact State.exec_refused (exec_setLimits ..) rfl
      ((State.setLimits_of_inUse (s := s.take _) hn hf hstate).trans (if_pos htext)) hready
  · exact State.exec_refused (exec_setLimits ..) rfl
      ((State.setLimits_of_inUse (s := s.take _) hn hf hstate).trans
        ((if_neg htext).trans (if_pos (by simp [hup, hlow, hle])))) hready
  · have hcheck : s.checkPost p.number Format.numeric = .error .wrongFormat := by
      rw [State.checkPost_of_inUse _ (hp ▸ hn) (hp ▸ hf) hstate, htext]; rfl
    exact State.exec_refused (exec_post ..) rfl (hp ▸ State.post_of_error hcheck) hready
  · have hcheck : s.checkPost x.number (fun y => y == .text) = .error .wrongFormat := by
      rw [State.checkPost_of_inUse _ (hx ▸ hn) (hx ▸ hf) hstate]; simp [htext]
    exact State.exec_refused (exec_postText ..) rfl (hx ▸ State.postText_of_error hcheck) hready
  · exact State.exec_refused (exec_unhold ..) rfl
      ((State.unhold_of_inUse (s := s.take _) hn hf hstate).trans (if_neg hheld)) hready

/-! ### The checks of DEFINE FIELD (R11) -/

theorem Format.ofCode_eq_none_iff (b : Byte) : Format.ofCode b = none ↔ 4 < b.toNat := by
  unfold Format.ofCode
  rcases b.toNat with _ | _ | _ | _ | _ | n <;> simp

theorem Page.ofCode_eq_none_iff (b : Byte) : Page.ofCode b = none ↔ 3 < b.toNat ∧ b ≠ 0xFF := by
  unfold Page.ofCode
  by_cases hcommon : b = 0xFF
  · simp [hcommon]
  · by_cases hnumbered : b.toNat < 4
    · rw [if_neg hcommon, if_pos hnumbered]
      exact ⟨fun h => (nomatch h), fun h => absurd h.1 (by omega)⟩
    · rw [if_neg hcommon, if_neg hnumbered]
      exact ⟨fun _ => ⟨by omega, hcommon⟩, fun _ => rfl⟩

theorem Page.ofCode_code (p : Page) : Page.ofCode p.code = some p := by
  cases p with
  | common => rfl
  | numbered p => revert p; decide

theorem Format.ofCode_code (x : Format) : Format.ofCode x.code = some x := by cases x <;> rfl

/-- Whatever shares a page with a field meets it: COMMON on either side, or the same page (R9). -/
theorem Page.meets_self (p : Page) : p.meets p = true := by cases p <;> simp [Page.meets]

theorem Page.meets_common (p : Page) : p.meets .common = true := by cases p <;> rfl

/-- The codes of a DEFINE FIELD name nothing: no format, no page, no width (R11 check 3). -/
def DefineFields.namesNothing (r : DefineFields) : Prop :=
  4 < r.format.toNat ∨ (3 < r.page.toNat ∧ r.page ≠ 0xFF) ∨ r.width = 0 ∨ 40 < r.width.toNat

theorem State.checkDefine_inUse {r : DefineFields} (h : s.field? r.number.toNat ≠ none) :
    s.checkDefine r = .error .inUse := by
  unfold State.checkDefine
  rw [if_pos (Option.isSome_iff_ne_none.2 h)]

theorem State.checkDefine_badValue {r : DefineFields} (hfree : s.field? r.number.toNat = none)
    (h : DefineFields.namesNothing r) : s.checkDefine r = .error .badValue := by
  unfold State.checkDefine
  rw [if_neg (by simp [hfree])]
  split
  · rename_i page format hpage hformat
    have hwidth : r.width = 0 ∨ 40 < r.width.toNat := by
      rcases h with h | h | h
      · simp [(Format.ofCode_eq_none_iff _).2 h] at hformat
      · simp [(Page.ofCode_eq_none_iff _).2 h] at hpage
      · exact h
    rcases hwidth with hwidth | hwidth <;> simp [hwidth]
  · rfl

theorem State.checkDefine_named {r : DefineFields} {page : Page} {format : Format} (hfree : s.field? r.number.toNat = none)
    (hpage : Page.ofCode r.page = some page) (hformat : Format.ofCode r.format = some format) (h1 : 1 ≤ r.width.toNat)
    (h40 : r.width.toNat ≤ 40) : s.checkDefine r = .ok (page, format) := by
  unfold State.checkDefine
  rw [if_neg (by simp [hfree]), hpage, hformat]
  simp only [Bool.or_eq_true, decide_eq_true_eq]
  rw [if_neg (by omega)]

/-- Codes that do name something name a page and a format. -/
theorem DefineFields.exists_named {r : DefineFields} (h : ¬DefineFields.namesNothing r) :
    ∃ page format, Page.ofCode r.page = some page ∧ Format.ofCode r.format = some format ∧ 1 ≤ r.width.toNat ∧
      r.width.toNat ≤ 40 := by
  simp only [DefineFields.namesNothing, not_or] at h
  obtain ⟨hformat, hpage, hzero, hwide⟩ := h
  obtain ⟨page, hp⟩ := Option.ne_none_iff_exists'.1 (mt (Page.ofCode_eq_none_iff _).1 hpage)
  obtain ⟨format, hx⟩ := Option.ne_none_iff_exists'.1 (mt (Format.ofCode_eq_none_iff _).1 hformat)
  have hpos : r.width.toNat ≠ 0 := fun hw => hzero (BitVec.eq_of_toNat_eq hw)
  exact ⟨page, format, hp, hx, by omega, by omega⟩

theorem State.define_of_error {r : DefineFields} {code : RefusalCode} (hn : r.number.toNat < 512)
    (h : s.checkDefine r = .error code) : s.define r = s.refuse code (some r.number) := by
  unfold State.define
  rw [if_neg (by simp only [fieldCount]; omega), h]

/-- Checks 4 to 6 of R11 and the acceptance, once the codes name a page and a format. -/
theorem State.define_of_named {r : DefineFields} {page : Page} {format : Format} (hn : r.number.toNat < 512)
    (h : s.checkDefine r = .ok (page, format)) :
    s.define r =
      if s.msg.pendingConfigure.isSome then s.refuse .busy (some r.number)
      else if !(DefineFields.record r page format).inBounds s.scr.geometry then s.refuse .outOfBounds (some r.number)
      else if s.conflictsWithAny r.number.toNat (DefineFields.record r page format) then s.refuse .overlap (some r.number)
      else s.defineAccepted r.number.toNat r.number (DefineFields.record r page format) := by
  unfold State.define
  rw [if_neg (by simp only [fieldCount]; omega), h]

theorem Store.ne_of_find?_none {α : Type} {k : Nat} {l : List (Nat × α)} (h : Store.find? k l = none) :
    ∀ e ∈ l, e.1 ≠ k := by
  induction l with
  | nil => exact fun _ he => nomatch he
  | cons d rest ih =>
    obtain ⟨j, w⟩ := d
    unfold Store.find? at h
    split at h
    · simp at h
    · rw [List.forall_mem_cons]
      exact ⟨‹_›, ih h⟩

/-- A field number that is FREE conflicts where some field in use meets its page and shares a cell (R9). -/
theorem State.conflictsWithAny_iff {n : Nat} {f : Field} (hfree : s.field? n = none) :
    s.conflictsWithAny n f = true ↔ ∃ e ∈ s.fields, f.page.meets e.2.page = true ∧ e.2.row = f.row ∧
      f.column < e.2.column + e.2.width ∧ e.2.column < f.column + f.width := by
  have hne := Store.ne_of_find?_none hfree
  simp only [State.conflictsWithAny, List.any_eq_true, Bool.and_eq_true, bne_iff_ne, Field.conflicts, Field.overlaps,
    beq_iff_eq, decide_eq_true_eq, and_assoc]
  exact exists_congr fun e => and_congr_right fun he =>
    ⟨fun ⟨_, hm, hr, hc⟩ => ⟨hm, hr.symm, hc⟩, fun ⟨hm, hr, hc⟩ => ⟨hne e he, hm, hr.symm, hc⟩⟩

/-- The pages that R9 lets show together, as the page code of a DEFINE FIELD says it. -/
theorem Page.meets_of_code {b : Byte} {p q : Page} (hp : Page.ofCode b = some p)
    (h : b = 0xFF ∨ q = .common ∨ q.code = b) : p.meets q = true := by
  rcases h with rfl | rfl | rfl
  · obtain rfl : Page.common = p := Option.some.inj hp
    cases q <;> rfl
  · exact Page.meets_common p
  · obtain rfl : q = p := Option.some.inj ((Page.ofCode_code q).symm.trans hp)
    exact Page.meets_self q

theorem DefineFields.record_inBounds (r : DefineFields) (page : Page) (format : Format) (g : Geometry) :
    (DefineFields.record r page format).inBounds g = true ↔
      r.row.toNat < g.rows ∧ r.column.toNat + r.width.toNat ≤ g.columns := by
  simp only [Field.inBounds, Bool.and_eq_true, decide_eq_true_eq]
  exact Iff.rfl

/-- Settles O17: the checks of R11 in order, as `checkDefine` and then the pending operation, the geometry and the other
fields decide them. -/
theorem defineFieldChecks : Obligations.DefineFieldChecks := by
  intro s tag r hn hready
  have refusedBy : ∀ code, (s.take (goodFrame 0x10 tag (DefineFields.bytes r))).define r =
        (s.take (goodFrame 0x10 tag (DefineFields.bytes r))).refuse code (some r.number) →
      ∃ t, exec (.defineField tag (.fields r)) s = .next t ∧ s.refusedAs t 0x10 tag code (some r.number) :=
    fun code hact => State.exec_refused (exec_defineField ..) rfl hact hready
  dsimp only
  split
  · rename_i hused
    exact refusedBy _ (State.define_of_error hn (State.checkDefine_inUse hused))
  rename_i hfree
  replace hfree : s.field? r.number.toNat = none := not_not.1 hfree
  split
  · rename_i hnothing
    exact refusedBy _ (State.define_of_error hn (State.checkDefine_badValue hfree hnothing))
  rename_i hnames
  obtain ⟨page, format, hpage, hformat, h1, h40⟩ := DefineFields.exists_named hnames
  have hdefine := State.define_of_named (s := s.take (goodFrame 0x10 tag (DefineFields.bytes r))) hn
    (State.checkDefine_named hfree hpage hformat h1 h40)
  split
  · rename_i hbusy
    exact refusedBy _ (hdefine.trans (if_pos (Option.isSome_iff_ne_none.2 hbusy)))
  rename_i hidle
  replace hdefine := hdefine.trans (if_neg (by simpa using hidle))
  split
  · rename_i hout
    exact refusedBy _ (hdefine.trans (if_pos (by simpa using mt (DefineFields.record_inBounds ..).1 hout)))
  rename_i hin
  replace hdefine := hdefine.trans (if_neg (by simpa using (DefineFields.record_inBounds ..).2 (not_not.1 hin)))
  rintro ⟨e, he, hmeets, hrow, hleft, hright⟩
  have hconflict : s.conflictsWithAny r.number.toNat (DefineFields.record r page format) = true :=
    (State.conflictsWithAny_iff hfree).2 ⟨e, he, Page.meets_of_code hpage hmeets, hrow, hleft, hright⟩
  exact refusedBy _ (hdefine.trans (if_pos hconflict))

end Sys2Proof.Machine
end

section
/-! What the accepted field requests do (R12 to R23). -/

namespace Sys2Proof.Machine

variable {s : State}

/-! ### Acts that leave the line alone -/

/-- A request whose own act, between the take and the reply, leaves MSG, the line but for a NOTICE, reset, the boundary and
the queue of commands alone. -/
structure State.leavesLine (s t : State) : Prop where
  msg : t.msg = s.msg
  replies : t.lnk.replies = s.lnk.replies
  line : s.lineKept t
  boundary : t.boundary = s.boundary

theorem State.putField_leavesLine (s : State) (n : Nat) (f : Field) : s.leavesLine (s.putField n f) :=
  ⟨rfl, rfl, s.lineKept_refl, rfl⟩

theorem State.enqueueAndLatch_leavesLine (s : State) (n : Nat) (u : Bool) (at_ : FrameNo) :
    s.leavesLine (s.enqueueAndLatch n u at_) :=
  ⟨by simp, by simp, s.enqueueAndLatch_line n u at_, by simp⟩

theorem State.release_leavesLine (s : State) (n : Nat) (at_ : FrameNo) : s.leavesLine (s.release n at_) :=
  ⟨by simp [State.release], by simp [State.release], s.release_line n at_, by simp [State.release]⟩

theorem State.leavesLine.trans {s t u : State} (h : s.leavesLine t) (k : t.leavesLine u) : s.leavesLine u :=
  ⟨k.msg.trans h.msg, k.replies.trans h.replies, State.lineKept_trans h.line k.line, k.boundary.trans h.boundary⟩

/-- A take, an act that leaves the line alone, and a reply. -/
theorem State.answered_of_leavesLine {t : State} {c : Instr} {f : Frame} (payload : List Byte) (h : s.ready c = true)
    (ht : (s.take f).leavesLine t) : s.answered (t.answer payload) (f.type + 0x80) f.tag payload := by
  obtain ⟨hmsg, hreplies, ⟨k1, k2, k3, -, k5, k6, k7, k8, k9, k10, k11, k12⟩, hboundary⟩ := ht
  obtain ⟨h1, h2, h3, h4, h5, h6, h7, h8⟩ := s.take_line f
  exact State.answered_of payload h hmsg (hreplies.trans (s.take_replies f))
    ⟨k5.trans h1, k8.trans h2, k9.trans h3, k10.trans h4, k11.trans h5, k12.trans h6, k7.trans h7, k6.trans h8⟩
    ⟨k1, k2, hboundary, k3⟩

/-! ### Words about PNT and AEU see nothing else -/

theorem State.enqueued_congr {s s' t t' : State} {n : Nat} {visible urgent : Bool} (hs : s'.pnt = s.pnt)
    (ht : t'.pnt = t.pnt) (h : s.enqueued t n visible urgent) : s'.enqueued t' n visible urgent := by
  simpa only [State.enqueued, State.queuedTotal, hs, ht] using h

theorem State.lagReported_congr {s s' t t' : State} {n : FrameNo} (hs : s'.pnt = s.pnt) (hs' : s'.aeu = s.aeu)
    (hs'' : s'.lnk.notice = s.lnk.notice) (ht : t'.pnt = t.pnt) (ht' : t'.aeu = t.aeu)
    (ht'' : t'.lnk.notice = t.lnk.notice) (h : s.lagReported t n) : s'.lagReported t' n := by
  simpa only [State.lagReported, State.latchedOnce, hs, hs', hs'', ht, ht', ht''] using h

theorem State.lagReported_answer {x : Frame} {t : State} {n : FrameNo} (payload : List Byte)
    (h : (s.take x).lagReported t n) : s.lagReported (t.answer payload) n :=
  State.lagReported_congr (s := s.take x) rfl rfl (s.take_notice x).symm (State.answer_pnt _ _) (State.answer_aeu _ _)
    (State.answer_notice _ _) h

theorem State.putField_field?_self (s : State) (n : Nat) (g : Field) : (s.putField n g).field? n = some g := by
  simp [State.field?]

theorem State.putField_otherFieldsKept (s : State) (n : Nat) (g : Field) : s.otherFieldsKept (s.putField n g) n :=
  fun m hm => by simp [State.field?, Store.find?_insert_ne hm]

/-! ### A record written, its field enqueued, the request answered -/

/-- What a request leaves that writes a record, enqueues its field and answers: nothing else of FLD, SCR or AEU's lists has
changed, and only a rise of LAGGING may have latched. -/
structure State.wroteRecord (s t : State) (n : Nat) (g : Field) (urgent : Bool) (type tag : Byte) (payload : List Byte) :
    Prop where
  record : t.field? n = some g
  others : s.otherFieldsKept t n
  scr : t.scr = s.scr
  lists : s.listsKept t
  queue : s.enqueued t n (s.shows g) urgent
  lag : s.lagReported t s.scr.frameCounter
  answer : s.answered t type tag payload

theorem State.wroteRecord_of_take {c : Instr} {x : Frame} {n : Nat} {g : Field} {u : Bool} {payload : List Byte}
    (h : s.ready c = true) :
    s.wroteRecord ((((s.take x).putField n g).enqueueAndLatch n u (s.take x).now).answer payload) n g
      (u || g.options.urgent) (x.type + 0x80) x.tag payload := by
  have hput := (s.take x).putField_field?_self n g
  have hothers := (s.take x).putField_otherFieldsKept n g
  have hlag := State.enqueueAndLatch_reported (s := (s.take x).putField n g) n u (s.take x).now
  have hqueue := State.enqueue_enqueued (s := (s.take x).putField n g) u hput
  generalize hq : ((s.take x).putField n g).enqueueAndLatch n u (s.take x).now = q at hlag
  have hpnt : q.pnt = (((s.take x).putField n g).enqueue n u).pnt := by rw [← hq]; simp [State.enqueueAndLatch]
  have hfields : q.fields = ((s.take x).putField n g).fields := by rw [← hq]; simp
  constructor
  · rw [State.answer_field?, State.field?, hfields]; exact hput
  · intro m hm
    rw [State.answer_field?, State.field?, hfields]; exact hothers m hm
  · rw [State.answer_scr, ← hq]; simp
  · rw [State.listsKept, State.answer_aeu, ← hq]; simp
  · exact State.enqueued_congr rfl ((State.answer_pnt _ _).trans hpnt) hqueue
  · exact State.lagReported_answer payload (x := x) hlag
  · refine State.answered_of_leavesLine payload h ?_
    rw [← hq]
    exact (State.putField_leavesLine _ n g).trans (State.enqueueAndLatch_leavesLine _ n u _)

/-- A ready request whose rule writes a record, enqueues its field and answers. -/
theorem State.exec_wroteRecord {α : Type} {c : Instr} {x : Frame} {a : α} {act : α → State → State} {n : Nat} {g : Field}
    {u : Bool} {payload : List Byte} (hc : exec c s = s.takeThen c fun v => v.checkLength (.fields a) act)
    (hf : c.frame? = some x)
    (hact : act a (s.take x) = (((s.take x).putField n g).enqueueAndLatch n u (s.take x).now).answer payload)
    (h : s.ready c = true) :
    ∃ t, exec c s = .next t ∧
      s.wroteRecord t n g (u || g.options.urgent) (x.type + 0x80) x.tag payload :=
  ⟨_, State.exec_of_ready hc hf h, hact ▸ State.wroteRecord_of_take h⟩

/-! ### RESTYLE FIELD (R15 to R17) -/

theorem Field.restyled_state (f : Field) (r : RestyleFields) :
    (f.restyled r).state = if f.state = .stale ∧ r.staleInterval.toNat = 0 then .live else f.state := by
  simp [Field.restyled]

/-- Settles O28: a RESTYLE FIELD writes the record `restyled`, whose deadline and state are those of R16. -/
theorem restyleFieldReplacesStyle : Obligations.RestyleFieldReplacesStyle := by
  intro s tag r f hn hf hstate hready
  obtain ⟨t, hexec, h⟩ := State.exec_wroteRecord (exec_restyleField tag (.fields r) s) rfl
    (State.restyle_of_inUse (s := s.take _) hn hf hstate) hready
  refine ⟨t, hexec, ?_, h.others, h.scr, h.lists, h.queue, h.lag, f.restyled_state r ▸ h.answer⟩
  rw [h.record, Field.restyled]
  congr 2
  · simp
  · cases f.state <;> cases f.lastPost <;> rfl

/-! ### DEFINE FIELD (R11 to R14) -/

/-- The page that a page code names (R175). -/
theorem Page.ofCode_of_names {b : Byte} {page : Page}
    (h : b = 0xFF ∧ page = .common ∨ ∃ p : BitVec 2, b = p.zeroExtend 8 ∧ page = .numbered p) :
    Page.ofCode b = some page := by
  rcases h with ⟨rfl, rfl⟩ | ⟨p, rfl, rfl⟩
  · rfl
  · exact Page.ofCode_code (.numbered p)

/-- Settles O27: the checks of R11 pass, and what is written is the record of R12 and R13. -/
theorem defineFieldWritesRecord : Obligations.DefineFieldWritesRecord := by
  intro s tag r page format hn hfree hpage hformat h1 h40 hidle hrow hcolumn hclear hready
  have hchecked : s.checkDefine r = .ok (page, format) :=
    State.checkDefine_named hfree (Page.ofCode_of_names hpage) (hformat ▸ Format.ofCode_code format) h1 h40
  have hinside : (DefineFields.record r page format).inBounds s.scr.geometry = true :=
    (DefineFields.record_inBounds ..).2 ⟨hrow, hcolumn⟩
  have hapart : s.conflictsWithAny r.number.toNat (DefineFields.record r page format) = false := by
    rw [← Bool.not_eq_true, State.conflictsWithAny_iff hfree]
    rintro ⟨e, he, hmeets, hsame, hleft, hright⟩
    have := hclear e he hmeets hsame
    simp only [DefineFields.record] at hleft hright
    omega
  have haccepted : (s.take (goodFrame 0x10 tag (DefineFields.bytes r))).define r = _ :=
    ((State.define_of_named (s := s.take _) hn hchecked).trans (if_neg (by simp [hidle]))).trans
      ((if_neg (by simpa using hinside)).trans (if_neg (ne_true_of_eq_false hapart)))
  obtain ⟨t, hexec, h⟩ := State.exec_wroteRecord (exec_defineField tag (.fields r) s) rfl haccepted hready
  refine ⟨t, hexec, ?_, h.others, h.scr, h.lists, h.queue, h.lag, h.answer⟩
  rw [h.record, DefineFields.record]
  congr 2
  cases format <;> simp only [storedScale]
  split <;> omega

/-! ### SET LIMITS (R18, R19) -/

theorem zoneFor_eq_zoneOf (upper lower : Option Word) (v : Word) : zoneFor upper lower v = zoneOf upper lower v := by
  cases upper <;> cases lower <;> simp [zoneFor, zoneOf]

/-- Settles O29: a SET LIMITS writes the record `limited`, and touches nothing of PNT or AEU. -/
theorem setLimitsReplacesLimits : Obligations.SetLimitsReplacesLimits := by
  intro s tag r f hn hf hstate hformat horder hready
  have hordered : ¬(r.flags.getLsbD 0 && r.flags.getLsbD 1 && r.upper.toInt ≤ r.lower.toInt) = true := by
    simp only [Bool.and_eq_true, decide_eq_true_eq, not_and, Int.not_le, and_imp]
    exact horder
  have haccepted := (State.setLimits_of_inUse (s := s.take (goodFrame 0x12 tag (LimitFields.bytes r))) hn hf hstate).trans
    ((if_neg hformat).trans (if_neg hordered))
  have hexec := (State.exec_of_ready (exec_setLimits tag (.fields r) s) rfl hready).trans
    (congrArg Host.Outcome.next haccepted)
  intro upper lower zone
  have hzone : (f.limited r).zone = zone := by
    change zoneOfValue upper lower f.value = zone
    simp only [zone, zoneFor_eq_zoneOf]
    rcases f.value with _ | v | glyphs <;> rfl
  have hrecord : f.limited r = { f with upper := upper, lower := lower, zone := zone } := by rw [← hzone]; rfl
  have hput := State.putField_leavesLine (s.take (goodFrame 0x12 tag (LimitFields.bytes r))) r.number.toNat (f.limited r)
  refine ⟨_, hexec, ?_, fun m hm => ?_, State.answer_scr _ _, State.answer_pnt _ _, State.answer_aeu _ _, ?_, ?_⟩
  · rw [State.answer_field?, State.putField_field?_self, hrecord]
  · rw [State.answer_field?, State.putField_otherFieldsKept _ _ _ m hm, State.take_field?]
  · rw [State.answer_notice, State.putField_lnk, State.take_notice]
  · rw [← hzone]
    exact State.answered_of_leavesLine _ hready hput

/-! ### DELETE FIELD (R20 to R23) -/

/-- LAGGING judged after some act and the report of its rise (R71). -/
theorem State.latchLagRise_reported {t : State} (haeu : t.aeu = s.aeu) (hlnk : t.lnk = s.lnk) (n : FrameNo) :
    s.lagReported (t.latchLagRise s n) n := by
  unfold State.lagReported
  refine ⟨?_, by simp [haeu]⟩
  simp only [State.latchLagRise_pnt]
  unfold State.latchLagRise
  by_cases h : s.pnt.lagging = false ∧ t.pnt.lagging = true
  · have := State.latch_once (s := t) evPaintLag n
    simpa [h, State.latchedOnce, evPaintLag, haeu, hlnk] using this
  · rw [if_neg h]
    have hnone : (!s.pnt.lagging && t.pnt.lagging) = false := by simpa using h
    simp [hnone, haeu, hlnk]

theorem State.removeEntry_reported (s : State) (n : Nat) (at_ : FrameNo) : s.lagReported (s.removeEntry n at_) at_ := by
  unfold State.removeEntry
  split
  · exact State.latchLagRise_reported (by rfl) (by rfl) at_
  · unfold State.lagReported
    simp

/-- The queue after a field's entry is taken off it (R68, R71). -/
theorem State.removeEntry_dequeued (s : State) (n : Nat) (at_ : FrameNo) : s.dequeued (s.removeEntry n at_) n := by
  have hscan : n ∈ s.scanOrder ↔ n ∈ s.pnt.urgent ∨ n ∈ s.pnt.routine.map RoutineEntry.field := List.mem_append
  unfold State.removeEntry
  split
  · rename_i hin
    have hin : n ∈ s.scanOrder := by simpa [hscan] using hin
    refine ⟨by simp, by simp, by simp, by simp, ?_⟩
    rw [if_pos hin, State.latchLagRise_pnt, State.judgeLagging_lagging]
    simp [State.queuedTotal]
  · rename_i hout
    simp only [Bool.or_eq_true, State.mem_urgent_iff, State.mem_routine_iff, not_or] at hout
    obtain ⟨hurgent, hroutine⟩ := hout
    refine ⟨(List.filter_eq_self.2 fun m hm => ?_).symm, (List.filter_eq_self.2 fun e he => ?_).symm, rfl, rfl, ?_⟩
    · simpa using fun h : m = n => hurgent (h ▸ hm)
    · simpa using fun h : e.field = n => hroutine (h ▸ List.mem_map_of_mem he)
    · rw [if_neg (by simp [hscan, hurgent, hroutine])]

theorem mem_abandonSlots_of_kept {concerns : Slot → Bool} {l : List (Nat × Slot)} {e : Nat × Slot} (he : e ∈ l)
    (hc : concerns e.2 = false) : e ∈ abandonSlots concerns l := by
  induction l with
  | nil => exact nomatch he
  | cons d rest ih =>
    obtain ⟨k, slot⟩ := d
    rcases List.mem_cons.1 he with rfl | he
    · simp [abandonSlots, show concerns slot = false from hc]
    · unfold abandonSlots
      split
      · split
        · exact ih he
        · exact List.mem_cons_of_mem _ (ih he)
      · exact List.mem_cons_of_mem _ (ih he)

/-- A FILLING slot that is given up stays with its render, marked discard (R74, R79). -/
theorem mem_abandonSlots_of_filling {concerns : Slot → Bool} {l : List (Nat × Slot)} {k : Nat} {field : Option Nat}
    {inputs : RenderInputs} {discard : Bool} (he : (k, ⟨field, .filling inputs discard⟩) ∈ l)
    (hc : concerns ⟨field, .filling inputs discard⟩ = true) :
    (k, ⟨none, .filling inputs true⟩) ∈ abandonSlots concerns l := by
  induction l with
  | nil => exact nomatch he
  | cons d rest ih =>
    obtain ⟨j, slot⟩ := d
    rcases List.mem_cons.1 he with heq | he
    · obtain ⟨rfl, rfl⟩ := Prod.mk.inj heq
      simp [abandonSlots, hc]
    · unfold abandonSlots
      split
      · split
        · exact ih he
        · exact List.mem_cons_of_mem _ (ih he)
      · exact List.mem_cons_of_mem _ (ih he)

theorem State.release_slotGivenUp (s : State) (n : Nat) (at_ : FrameNo) : s.slotGivenUp (s.release n at_) n := by
  refine ⟨fun e he hn => ?_, fun e he hn => ?_, fun k inputs discard he => ?_⟩
  · rw [State.release_slots] at he
    simpa [hn] using (abandonSlots_owner he hn).2
  · rw [State.release_slots]
    exact mem_abandonSlots_of_kept he (by simpa using hn)
  · rw [State.release_slots]
    exact mem_abandonSlots_of_filling he (by simp)

/-- A field that goes FREE, with everything that R23 names. -/
theorem State.release_freed (s : State) (n : Nat) (at_ : FrameNo) (h : s.tableLaw) : s.freed (s.release n at_) n := by
  refine ⟨?_, fun m hm => ?_, s.removeEntry_dequeued n at_, s.release_slotGivenUp n at_, ?_, ?_⟩
  · rw [State.field?, State.release_fields, Store.find?_erase_self n h.1]
  · rw [State.field?, State.release_fields, Store.find?_erase_ne hm]; rfl
  · simp [State.release]
  · simp [State.release]

/-- `freed` sees FLD, PNT and AEU's lists alone of the state after. -/
theorem State.freed_answer {t : State} {n : Nat} (payload : List Byte) (h : s.freed t n) : s.freed (t.answer payload) n := by
  simpa only [State.freed, State.otherFieldsKept, State.dequeued, State.slotGivenUp, State.queuedTotal,
    State.answer_field?, State.answer_pnt, State.answer_aeu] using h

/-- Settles O30: a visible field is written as `retired` and enqueued as URGENT; an invisible one is released. -/
theorem deleteFieldRetiresOrFrees : Obligations.DeleteFieldRetiresOrFrees := by
  intro s tag number f hn hf hstate htable hready
  cases hv : s.shows f with
  | true =>
    obtain ⟨t, hexec, h⟩ := State.exec_wroteRecord (exec_deleteField tag (.fields number) s) rfl
      ((State.delete_of_inUse (s := s.take _) hn hf hstate).trans (if_pos hv)) hready
    have hqueue := h.queue
    rw [show s.shows f.retired = true from hv] at hqueue
    exact ⟨t, hexec, h.scr, h.lag, fun _ => ⟨h.record, h.others, h.lists, hqueue, h.answer⟩, fun hno => nomatch hno⟩
  | false =>
    have hexec := State.exec_of_ready (exec_deleteField tag (.fields number) s) rfl hready
    replace hexec := hexec.trans (congrArg Host.Outcome.next
      ((State.delete_of_inUse (s := s.take _) hn hf hstate).trans (if_neg (ne_true_of_eq_false hv))))
    exact ⟨_, hexec, by simp, State.lagReported_answer _ (State.removeEntry_reported (s.take _) _ _),
      fun hyes => (nomatch hyes), fun _ => ⟨State.freed_answer _ (State.release_freed (s.take _) _ _ htable),
        State.answered_of_leavesLine _ hready (State.release_leavesLine _ _ _)⟩⟩

end Sys2Proof.Machine
end

section
/-! READ FIELD (R24) and the reset state (R1). -/

namespace Sys2Proof.Machine

variable {s : State}

/-! ### READ FIELD -/

/-- Flag i of a flags byte is its bit i; the bits above the last flag are 0. -/
theorem byteOfFlags_getLsbD (flags : List Bool) (i : Nat) (h : i < 8) :
    (byteOfFlags flags).getLsbD i = flags.getD i false := by
  induction flags generalizing i with
  | nil => simp [byteOfFlags]
  | cons b rest ih =>
    cases i with
    | zero => cases b <;> simp [byteOfFlags, byteOfBool]
    | succ j =>
      have hhigh : (byteOfBool b).getLsbD (j + 1) = false := by
        cases b
        · exact BitVec.getLsbD_zero
        · exact BitVec.getLsbD_one.trans (by simp)
      rw [byteOfFlags, BitVec.getLsbD_or, hhigh, BitVec.getLsbD_shiftLeft, Nat.add_sub_cancel, ih j (by omega)]
      simp [h]

theorem slotOf_eq_none {n : Nat} {l : List (Nat × Slot)} (h : ∀ e ∈ l, e.2.field ≠ some n) : slotOf n l = none := by
  induction l with
  | nil => rfl
  | cons d rest ih =>
    rw [List.forall_mem_cons] at h
    rw [slotOf, if_neg h.1, ih h.2]

/-- The slot found is the field's, where the field holds only one. -/
theorem slotOf_eq_some {n : Nat} {l : List (Nat × Slot)} {e : Nat × Slot} (he : e ∈ l) (hn : e.2.field = some n)
    (honly : ∀ d ∈ l, d.2.field = some n → d = e) : slotOf n l = some e := by
  induction l with
  | nil => exact nomatch he
  | cons d rest ih =>
    rw [List.forall_mem_cons] at honly
    by_cases hd : d.2.field = some n
    · rw [slotOf, if_pos hd, honly.1 hd]
    · have hrest : e ∈ rest := (List.mem_cons.1 he).resolve_left fun h => hd (h ▸ hn)
      rw [slotOf, if_neg hd, ih hrest honly.2]

theorem slotBytes_of_none {n : Nat} {l : List (Nat × Slot)} (h : ∀ e ∈ l, e.2.field ≠ some n) :
    slotBytes n l = [0xFF, 0x00] := by
  rw [slotBytes, slotOf_eq_none h]

theorem slotBytes_of_mem {n : Nat} {l : List (Nat × Slot)} {e : Nat × Slot} (he : e ∈ l) (hn : e.2.field = some n)
    (honly : ∀ d ∈ l, d.2.field = some n → d = e) :
    slotBytes n l = [BitVec.ofNat 8 e.1, if e.2.content.isFilling then 0x01 else 0x02] := by
  rw [slotBytes, slotOf_eq_some he hn honly]
  cases hc : e.2.content <;> simp [hc, byteOfNat, SlotContent.isReady, SlotContent.isFilling]

theorem State.membershipCode_eq (s : State) (n : Nat) :
    s.membershipCode n = if n ∈ s.pnt.urgent then 1 else if n ∈ s.pnt.routine.map RoutineEntry.field then 2 else 0 := by
  simp only [State.membershipCode, State.mem_urgent_iff, State.mem_routine_iff]

/-- A request that answers and does nothing else. -/
theorem State.reported_answer {c : Instr} {x : Frame} {payload report : List Byte} (h : s.ready c = true)
    (hreport : payload = report) : s.reported ((s.take x).answer payload) (x.type + 0x80) x.tag report :=
  hreport ▸ ⟨State.answered_of payload h rfl (s.take_replies x) (s.take_line x) (s.take_outside x),
    ⟨by simp, by simp, by simp⟩, by simp, by simp⟩

/-- Settles O22: the report is `fieldReport`, part by part. -/
theorem readFieldReportsRecord : Obligations.ReadFieldReportsRecord := by
  intro s tag number f hn hf hready
  have hexec := (State.exec_of_ready (exec_readField tag (.fields number) s) rfl hready).trans
    (congrArg Host.Outcome.next (State.readField_of_inUse (s := s.take _) hn hf))
  refine ⟨_, f.presence, byteOfFlags [f.alertLatched, f.overflow], slotBytes number.toNat s.pnt.slots, hexec,
    ?_, ?_, slotBytes_of_none, fun e => slotBytes_of_mem, ?_⟩
  · exact ⟨byteOfFlags_getLsbD _ 0 (by decide), byteOfFlags_getLsbD _ 1 (by decide), byteOfFlags_getLsbD _ 2 (by decide),
      byteOfFlags_getLsbD _ 3 (by decide), byteOfFlags_getLsbD _ 4 (by decide), byteOfFlags_getLsbD _ 5 (by decide),
      byteOfFlags_getLsbD _ 6 (by decide), byteOfFlags_getLsbD _ 7 (by decide)⟩
  · exact ⟨byteOfFlags_getLsbD _ 0 (by decide), byteOfFlags_getLsbD _ 1 (by decide)⟩
  · refine State.reported_answer hready ?_
    simp [State.fieldReport, State.membershipCode_eq, Field.definitionBytes, Style.bytes, optionalWord, byteOfNibbles,
      byteOfNat, bytesOfCount]

/-! ### The reset state -/

theorem reset_screenLaw : State.reset.screenLaw :=
  ⟨rfl, rfl, by decide, fun _ _ h => (nomatch h), by decide, by decide, by decide, by decide, by decide, by decide,
    fun _ h => (nomatch h), fun _ => ⟨rfl, rfl⟩⟩

theorem reset_replyLaw : State.reset.replyLaw := ⟨by decide, fun _ => ⟨rfl, rfl⟩, fun _ => rfl⟩

theorem reset_noticeLaw : State.reset.noticeLaw := ⟨fun h => absurd rfl h, rfl, rfl⟩

theorem reset_placementLaw : State.reset.placementLaw := ⟨fun _ he => (nomatch he), fun _ he => (nomatch he)⟩

theorem reset_slotLaw : State.reset.slotLaw :=
  ⟨rfl, fun _ he => (nomatch he), by decide, List.nodup_nil, fun _ he => (nomatch he)⟩

theorem reset_alertLaw : State.reset.alertLaw := ⟨by decide, List.nodup_nil, fun _ hn => (nomatch hn)⟩

theorem reset_watchLaw : State.reset.watchLaw := ⟨by decide, List.nodup_nil, fun _ hr => (nomatch hr)⟩

/-- Settles O60: nothing is listed at reset, so each law of a list holds of no entry, and the values are those of
`State.reset`. -/
theorem resetMeetsLaws : Obligations.ResetMeetsLaws := by
  refine ⟨⟨Memory.reset_wf, reset_screenLaw, reset_replyLaw, reset_noticeLaw, ⟨rfl, fun _ he => (nomatch he)⟩,
    reset_placementLaw, fun _ he => (nomatch he), fun _ he => (nomatch he), ⟨List.nodup_nil, fun _ hn => (nomatch hn)⟩,
    fun _ he => (nomatch he), ⟨by decide, rfl⟩, reset_slotLaw, fun _ he => (nomatch he), reset_alertLaw, reset_watchLaw⟩, ?_⟩
  exact ⟨fun _ => rfl, rfl, rfl, fun _ => rfl, rfl, rfl, rfl, by decide, rfl, rfl, rfl, rfl, rfl, rfl, rfl, rfl, rfl, rfl,
    rfl, rfl, rfl, rfl, rfl, rfl, rfl, rfl, rfl, rfl, rfl, rfl, rfl, fun _ => rfl⟩

end Sys2Proof.Machine
end

section
/-! The completion of a render (R77 to R79). -/

namespace Sys2Proof.Machine

variable {s : State}

/-- The painter's scan for the slot it is writing is a search of the slots in use. -/
theorem fillingSlot_eq_find? (l : List (Nat × Slot)) :
    fillingSlot l = l.find? fun e => e.2.content.isFilling := by
  induction l with
  | nil => rfl
  | cons e rest ih => cases h : e.2.content.isFilling <;> simp [fillingSlot, h, ih]

theorem fillingSlot_eq_none_iff {l : List (Nat × Slot)} :
    fillingSlot l = none ↔ ∀ e ∈ l, e.2.content.isFilling = false := by
  simp [fillingSlot_eq_find?]

/-- At most one slot is FILLING (R73), so a slot that is FILLING is the one the painter is writing. -/
theorem State.slotLaw.fillingSlot_eq {e : Nat × Slot} (h : s.slotLaw) (he : e ∈ s.pnt.slots)
    (hfilling : e.2.content.isFilling = true) : fillingSlot s.pnt.slots = some e := by
  obtain ⟨-, -, hone, -⟩ := h
  have hmem : e ∈ s.pnt.slots.filter fun d => d.2.content.isFilling := List.mem_filter.2 ⟨he, hfilling⟩
  obtain ⟨d, hd⟩ := List.length_eq_one_iff.1 (le_antisymm hone (List.length_pos_of_mem hmem))
  rw [hd, List.mem_singleton] at hmem
  rw [fillingSlot_eq_find?, ← List.head?_filter, hd, hmem, List.head?_cons]

theorem State.finishRender_of_idle (h : ∀ e ∈ s.pnt.slots, e.2.content.isFilling = false) : s.finishRender = s := by
  simp only [State.finishRender, fillingSlot_eq_none_iff.2 h]

/-- A slot marked discard becomes FREE (R79). -/
theorem State.finishRender_of_discarded {k : Nat} {i : RenderInputs}
    (h : fillingSlot s.pnt.slots = some (k, ⟨none, .filling i true⟩)) :
    s.finishRender = { s with pnt := { s.pnt with slots := Store.erase k s.pnt.slots } } := by
  simp only [State.finishRender, h]

/-- The slot of a field becomes READY, and the field's overflow flag is written (R28, R77). -/
theorem State.finishRender_of_field {k n : Nat} {i : RenderInputs} {f : Field}
    (h : fillingSlot s.pnt.slots = some (k, ⟨some n, .filling i false⟩)) (hf : s.field? n = some f) :
    s.finishRender = { s with
      fields := Store.insert n { f with overflow := i.overflow f.overflow } s.fields
      pnt := { s.pnt with slots := Store.insert k ⟨some n, .ready i.rendered⟩ s.pnt.slots } } := by
  rw [State.field?] at hf
  simp only [State.finishRender, h, State.field?, hf, State.putField]

theorem exec_renderComplete_of_between (hreset : s.resetCause = none) (hboundary : s.boundary = none) :
    exec .renderComplete s = .next s.finishRender := by
  have hexec : exec .renderComplete s = if s.inReset then .next s else .next s.settle.finishRender := rfl
  simp [hexec, State.inReset, hreset, State.settle_of_none hboundary]

/-- Settles O43: the slot that is FILLING is the one that the painter finishes, in one of three ways. -/
theorem renderCompletes : Obligations.RenderCompletes := by
  intro s hreset hboundary hslots
  rw [exec_renderComplete_of_between hreset hboundary]
  refine ⟨fun hidle => ?_, fun k i he => ?_, fun k n i f he hf => ?_⟩
  · rw [State.finishRender_of_idle hidle]
  · rw [State.finishRender_of_discarded (hslots.fillingSlot_eq he rfl)]
  · rw [State.finishRender_of_field (hslots.fillingSlot_eq he rfl) hf]
    constructor
    · intro hkind
      simp only [RenderInputs.overflow, RenderInputs.rendered, hkind, blankCell]
    · intro hkind
      simp only [RenderInputs.overflow, RenderInputs.rendered, hkind]

end Sys2Proof.Machine
end

section
/-! The formatter (chapter 2): the digits it writes, the shape of each candidate, and the fit (R26 to R46). -/

namespace Sys2Proof.Machine

/-! ### Digit glyphs (R31) -/

theorem digitGlyph_toNat {d : Nat} (h : d < 10) : (digitGlyph d).toNat = 0x30 + d := by
  simp only [digitGlyph, BitVec.toNat_ofNat]
  omega

theorem decimalDigits_lt_ten (k n : Nat) : ∀ d ∈ decimalDigits k n, d < 10 := by
  induction k generalizing n with
  | zero => simp [decimalDigits]
  | succ k ih =>
    unfold decimalDigits
    split
    · simpa
    · intro d hd
      rcases List.mem_append.1 hd with hd | hd
      · exact ih _ d hd
      · obtain rfl := List.mem_singleton.1 hd
        exact Nat.mod_lt n (by decide)

/-- Enough places hold every digit, so nothing of the number is lost. -/
theorem decimalDigits_eq_digits {k n : Nat} (hpos : n ≠ 0) (hlt : n < 10 ^ k) :
    decimalDigits k n = (Nat.digits 10 n).reverse := by
  induction k generalizing n with
  | zero => omega
  | succ k ih =>
    unfold decimalDigits
    split
    · rw [Nat.digits_of_lt 10 n hpos ‹_›, List.reverse_singleton]
    · rw [Nat.digits_eq_cons_digits_div (by decide) hpos, List.reverse_cons,
        ih (by omega) (Nat.div_lt_of_lt_mul (by rwa [pow_succ'] at hlt))]

theorem integerDigits_eq_decimalGlyphs {n : Nat} (h : n < 10 ^ 10) : integerDigits n = decimalGlyphs n := by
  unfold integerDigits decimalGlyphs
  split
  · subst n; rfl
  · rw [decimalDigits_eq_digits ‹_› h]; rfl

theorem fixedDigits_succ (c n : Nat) : fixedDigits (c + 1) n = fixedDigits c (n / 10) ++ [digitGlyph (n % 10)] := by
  simp [fixedDigits, List.range_succ_eq_map, List.map_reverse, Function.comp_def, Nat.div_div_eq_div_mul, pow_succ']

theorem paddedGlyphs_succ (c n : Nat) : paddedGlyphs (c + 1) n = paddedGlyphs c (n / 10) ++ [digitGlyph (n % 10)] := by
  by_cases h : n = 0
  · subst h
    simp only [paddedGlyphs, Nat.zero_div, Nat.digits_zero, List.reverse_nil, List.map_nil, List.length_nil,
      Nat.sub_zero, List.append_nil]
    exact List.replicate_succ'
  · simp [paddedGlyphs, digitGlyph, Nat.digits_eq_cons_digits_div (b := 10) (by decide) h]

/-- A number that fits in its places is written whole, with leading zeros. -/
theorem fixedDigits_eq_paddedGlyphs {c n : Nat} (h : n < 10 ^ c) : fixedDigits c n = paddedGlyphs c n := by
  induction c generalizing n with
  | zero =>
    obtain rfl : n = 0 := by simpa using h
    rfl
  | succ c ih =>
    rw [fixedDigits_succ, paddedGlyphs_succ, ih (Nat.div_lt_of_lt_mul (by rwa [pow_succ'] at h))]

/-- A glyph is one of the ten digits. -/
def isDigitGlyph (g : Byte) : Bool := 0x30 ≤ g.toNat && g.toNat ≤ 0x39

theorem isDigitGlyph_digitGlyph {d : Nat} (h : d < 10) : isDigitGlyph (digitGlyph d) = true := by
  simp only [isDigitGlyph, digitGlyph_toNat h, Bool.and_eq_true, decide_eq_true_eq]
  omega

theorem isDigitGlyph_of_mem_integerDigits {n : Nat} {g : Byte} (h : g ∈ integerDigits n) : isDigitGlyph g = true := by
  obtain ⟨d, hd, rfl⟩ := List.mem_map.1 h
  exact isDigitGlyph_digitGlyph (decimalDigits_lt_ten _ _ d hd)

theorem isDigitGlyph_of_mem_fixedDigits {c n : Nat} {g : Byte} (h : g ∈ fixedDigits c n) : isDigitGlyph g = true := by
  obtain ⟨i, -, rfl⟩ := List.mem_map.1 h
  exact isDigitGlyph_digitGlyph (Nat.mod_lt _ (by decide))

theorem ne_comma_of_isDigitGlyph {g : Byte} (h : isDigitGlyph g = true) : g ≠ glyphComma := by
  rintro rfl
  exact absurd h (by decide)

/-! ### Separators (R32) -/

/-- A digit stands before the others, with a separator where whole groups of three follow. -/
theorem withSeparators_cons (d : Byte) (l : List Byte) : withSeparators (d :: l) =
    d :: ((if l.length ≠ 0 ∧ l.length % 3 = 0 then [glyphComma] else []) ++ withSeparators l) := by
  by_cases h : l.length ≠ 0 ∧ l.length % 3 = 0
  · simp [withSeparators, h]
  · rw [if_neg h, withSeparators, if_neg (by simpa using h), List.nil_append]

/-- Taking the separators out gives the digits back. -/
theorem filter_withSeparators {p : Byte → Bool} (hp : p glyphComma = false) (l : List Byte) :
    (withSeparators l).filter p = l.filter p := by
  induction l with
  | nil => rfl
  | cons d rest ih =>
    rw [withSeparators_cons]
    split <;> simp [List.filter_cons, hp, ih]

theorem withSeparators_head? (l : List Byte) : (withSeparators l).head? = l.head? := by
  cases l with
  | nil => rfl
  | cons d rest => rw [withSeparators_cons, List.head?_cons, List.head?_cons]

/-- Every three digits but the last group bring one separator. -/
theorem withSeparators_length (l : List Byte) : (withSeparators l).length = l.length + (l.length - 1) / 3 := by
  induction l with
  | nil => rfl
  | cons d rest ih =>
    rw [withSeparators_cons]
    split <;> simp only [List.length_cons, List.length_append, List.length_nil, ih] <;> omega

/-- From the right, the separators stand at every fourth place and nowhere else. -/
theorem reverse_withSeparators_eq_comma_iff {l : List Byte} (hl : ∀ g ∈ l, g ≠ glyphComma) {i : Nat}
    (hi : i < (withSeparators l).length) : (withSeparators l).reverse[i]? = some glyphComma ↔ i % 4 = 3 := by
  induction l generalizing i with
  | nil => simp [withSeparators] at hi
  | cons d rest ih =>
    obtain ⟨hd, hrest⟩ := List.forall_mem_cons.1 hl
    have hlength := withSeparators_length rest
    rw [withSeparators_cons] at hi ⊢
    by_cases hlt : i < (withSeparators rest).length
    · rw [List.reverse_cons, List.reverse_append, List.append_assoc,
        List.getElem?_append_left (by rwa [List.length_reverse]), ih hrest hlt]
    · by_cases hgroup : rest.length ≠ 0 ∧ rest.length % 3 = 0
      · rw [if_pos hgroup] at hi ⊢
        simp only [List.length_cons, List.length_append, List.length_nil] at hi
        obtain rfl | rfl : i = (withSeparators rest).length ∨ i = (withSeparators rest).length + 1 := by omega
        · have hplace : (withSeparators rest).length % 4 = 3 := by omega
          simp [hplace]
        · have hplace : ((withSeparators rest).length + 1) % 4 ≠ 3 := by omega
          simp [hplace, hd]
      · rw [if_neg hgroup] at hi ⊢
        simp only [List.nil_append, List.length_cons] at hi
        obtain rfl : i = (withSeparators rest).length := by omega
        have hplace : (withSeparators rest).length % 4 ≠ 3 := by omega
        simp [hplace, hd]

/-! ### Integer parts (R31, R32) -/

/-- What an integer part reads as when its separators, and nothing of its digits, are passed over. -/
theorem filter_integerPart {p : Byte → Bool} (hcomma : p glyphComma = false)
    (hdigit : ∀ g, isDigitGlyph g = true → p g = true) (separators : Bool) (n : Nat) :
    (integerPart separators n).filter p = integerDigits n := by
  have hkept : (integerDigits n).filter p = integerDigits n :=
    List.filter_eq_self.2 fun g hg => hdigit g (isDigitGlyph_of_mem_integerDigits hg)
  cases separators with
  | false => exact hkept
  | true => exact (filter_withSeparators hcomma _).trans hkept

theorem integerPart_head? (separators : Bool) (n : Nat) :
    (integerPart separators n).head? = (integerDigits n).head? := by
  cases separators with
  | false => rfl
  | true => exact withSeparators_head? _

/-- The integer part that the formatter writes is the one that R31 and R32 describe. -/
theorem integerText_integerPart (separators : Bool) {n : Nat} (h : n < 10 ^ 10) :
    integerText separators n (integerPart separators n) := by
  have hplain : ∀ g ∈ integerDigits n, g ≠ glyphComma := fun g hg =>
    ne_comma_of_isDigitGlyph (isDigitGlyph_of_mem_integerDigits hg)
  refine ⟨?_, ?_, fun i hi => ?_⟩
  · rw [← integerDigits_eq_decimalGlyphs h]
    exact filter_integerPart (by decide) (fun g hg => bne_iff_ne.2 (ne_comma_of_isDigitGlyph hg)) separators n
  · rw [integerPart_head?]
    exact fun hcomma => hplain _ (List.mem_of_head? hcomma) rfl
  · cases separators with
    | true => exact (reverse_withSeparators_eq_comma_iff hplain hi).trans (by simp)
    | false =>
      simp only [Bool.false_eq_true, false_and, iff_false]
      exact fun hcomma => hplain _ (List.mem_reverse.1 (List.mem_of_getElem? hcomma)) rfl

/-! ### The number that a text reads as (R31, R32, R35, R36) -/

/-- The number that digit glyphs spell after a number already read. -/
def readDigits (before : Nat) (glyphs : List Byte) : Nat := glyphs.foldl (fun n g => 10 * n + (g.toNat - 0x30)) before

theorem readDigits_append (before : Nat) (l m : List Byte) :
    readDigits before (l ++ m) = readDigits (readDigits before l) m := List.foldl_append

theorem readDigits_digitGlyph (before : Nat) {d : Nat} (h : d < 10) :
    readDigits before [digitGlyph d] = 10 * before + d := by
  simp [readDigits, digitGlyph_toNat h]

theorem readDigits_decimalDigits {k n : Nat} (h : n < 10 ^ k) :
    readDigits 0 ((decimalDigits k n).map digitGlyph) = n := by
  induction k generalizing n with
  | zero =>
    obtain rfl : n = 0 := by simpa using h
    rfl
  | succ k ih =>
    unfold decimalDigits
    split
    · simpa using readDigits_digitGlyph 0 ‹_›
    · rw [List.map_append, readDigits_append, ih (Nat.div_lt_of_lt_mul (by rwa [pow_succ'] at h)), List.map_singleton,
        readDigits_digitGlyph _ (Nat.mod_lt n (by decide)), Nat.div_add_mod]

theorem readDigits_fixedDigits (before c n : Nat) :
    readDigits before (fixedDigits c n) = before * 10 ^ c + n % 10 ^ c := by
  induction c generalizing n with
  | zero => simp [fixedDigits, readDigits, Nat.mod_one]
  | succ c ih =>
    rw [fixedDigits_succ, readDigits_append, ih, readDigits_digitGlyph _ (Nat.mod_lt n (by decide)), pow_succ',
      Nat.mod_mul]
    ring

theorem filter_signGlyphs (plus : Bool) (v : Word) (displayed : Nat) :
    (signGlyphs plus v displayed).filter isDigitGlyph = [] := by
  unfold signGlyphs
  split
  · rfl
  · split
    · rfl
    · split <;> rfl

theorem filter_fixedDigits (c n : Nat) : (fixedDigits c n).filter isDigitGlyph = fixedDigits c n :=
  List.filter_eq_self.2 fun _ hg => isDigitGlyph_of_mem_fixedDigits hg

/-- The decimals carry on the number that the integer part begins. -/
theorem readDigits_decimalText (plus : Bool) (v : Word) {s d : Nat} (separators : Bool)
    (h : decimalDisplayed (magnitude v) s d < 10 ^ 10) :
    readDigits 0 ((decimalText plus v s d separators).filter isDigitGlyph) = decimalDisplayed (magnitude v) s d := by
  simp only [decimalText]
  generalize decimalDisplayed (magnitude v) s d = shown at h ⊢
  have hwhole : readDigits 0 (integerDigits (shown / 10 ^ d)) = shown / 10 ^ d :=
    readDigits_decimalDigits ((Nat.div_le_self _ _).trans_lt h)
  have hpart : (integerPart separators (shown / 10 ^ d)).filter isDigitGlyph = integerDigits (shown / 10 ^ d) :=
    filter_integerPart (by decide) (fun _ => id) _ _
  have hpoint : isDigitGlyph glyphPoint = false := by decide
  rw [List.filter_append, List.filter_append, filter_signGlyphs, hpart, List.nil_append, readDigits_append, hwhole]
  split
  · subst d; simp [readDigits]
  · rw [List.filter_cons_of_neg (by simp [hpoint]), filter_fixedDigits, readDigits_fixedDigits, Nat.mod_mod,
      Nat.div_add_mod']

/-! ### Magnitudes (R30, R35) -/

theorem magnitude_le (v : Word) : magnitude v ≤ 2 ^ 31 := by
  have hlow : -2 ^ 31 ≤ v.toInt := BitVec.le_toInt v
  have hhigh : v.toInt < 2 ^ 31 := BitVec.toInt_lt
  unfold magnitude
  omega

/-- Ten digits hold every rounded magnitude: a rounding adds less than one of what it rounds to. -/
theorem rounded_lt {m half : Nat} (hm : m ≤ 2 ^ 31) (hhalf : half ≤ 5 * 10 ^ 8) (unit : Nat) :
    (m + half) / unit < 10 ^ 10 := by
  have := Nat.div_le_self (m + half) unit
  omega

theorem decimalDisplayed_lt (v : Word) {s : Nat} (hs : s ≤ 8) (d : Nat) :
    decimalDisplayed (magnitude v) s d < 10 ^ 10 := by
  have hm := magnitude_le v
  unfold decimalDisplayed
  split
  · omega
  · have hpow : 10 ^ (s - d - 1) ≤ 10 ^ 8 := Nat.pow_le_pow_right (by decide) (by omega)
    exact rounded_lt hm (by omega) _

/-- The displayed magnitude is m rounded half up to d of s decimals (R35). -/
theorem decimalDisplayed_rounds (m : Nat) {s d : Nat} (h : d ≤ s) :
    2 * m < 2 * decimalDisplayed m s d * 10 ^ (s - d) + 10 ^ (s - d) ∧
      2 * decimalDisplayed m s d * 10 ^ (s - d) ≤ 2 * m + (if d = s then 0 else 10 ^ (s - d)) := by
  unfold decimalDisplayed
  split
  · subst d; simp
  · obtain ⟨e, he⟩ : ∃ e, s - d = e + 1 := ⟨s - d - 1, by omega⟩
    have hpow : 10 ^ (s - d) = 10 * 10 ^ (s - d - 1) := by rw [he, Nat.add_sub_cancel, pow_succ']
    have hlow := Nat.div_mul_le_self (m + 5 * 10 ^ (s - d - 1)) (10 ^ (s - d))
    have hhigh := Nat.lt_div_mul_add (a := m + 5 * 10 ^ (s - d - 1)) (b := 10 ^ (s - d)) (by positivity)
    rw [mul_assoc]
    omega

/-! ### The shapes of the candidates (R31 to R33, R35 to R42) -/

theorem signGlyphs_eq_signText (plus : Bool) (v : Word) (displayed : Nat) :
    signGlyphs plus v displayed = signText plus v displayed := by
  simp [signGlyphs, signText, glyphMinus, glyphPlus]

/-- A sign, an integer part and an ending that is the rule's own. -/
theorem signedText_append (plus : Bool) (v : Word) (displayed : Nat) (separators : Bool) {whole : Nat}
    {ending written : List Byte} (hwhole : whole < 10 ^ 10) (hending : written = ending) :
    signedText plus v displayed separators whole ending
      (signGlyphs plus v displayed ++ integerPart separators whole ++ written) :=
  ⟨_, integerText_integerPart separators hwhole, by rw [signGlyphs_eq_signText, hending]⟩

theorem forall₂_separatorForms {shape : Bool → List Byte → Prop} {text : Bool → List Byte}
    (h : ∀ separators, shape separators (text separators)) (option : Bool) :
    List.Forall₂ (fun shape text => shape text) (separatorForms option shape) (withAndWithout option text) := by
  cases option with
  | false => exact .cons (h false) .nil
  | true => exact .cons (h true) (.cons (h false) .nil)

theorem forall₂_decimalShapes (plus : Bool) (v : Word) {s : Nat} (hs : s ≤ 8) (option : Bool) :
    List.Forall₂ (fun shape text => shape text) (decimalShapes plus v s option) (decimalCandidates plus v s option) := by
  refine List.rel_flatMap (R := Eq) (List.forall₂_refl _) ?_
  rintro d _ rfl
  have hlt := decimalDisplayed_lt v hs d
  refine forall₂_separatorForms (fun separators => ?_) option
  refine signedText_append plus v _ separators ((Nat.div_le_self _ _).trans_lt hlt) ?_
  split
  · rfl
  · rw [fixedDigits_eq_paddedGlyphs (Nat.mod_lt _ (by positivity))]; rfl

/-- The numerator of a FRACTION has as many places as D − 1 has digits (R39). -/
theorem numeratorDigits_eq {k : Nat} (hk : k ≤ 8) : numeratorDigits k = (decimalGlyphs (2 ^ k - 1)).length := by
  have hpow : 2 ^ k ≤ 2 ^ 8 := Nat.pow_le_pow_right (by decide) hk
  rw [← integerDigits_eq_decimalGlyphs (by omega), integerDigits, List.length_map, numeratorDigits]

/-- A numerator below D has no more places than D − 1. -/
theorem numerator_lt {k : Nat} (hk : 1 ≤ k) (m : Nat) : m % 2 ^ k < 10 ^ (decimalGlyphs (2 ^ k - 1)).length := by
  have hpow : 2 ^ 1 ≤ 2 ^ k := Nat.pow_le_pow_right (by decide) hk
  have hlt : 2 ^ k - 1 < 10 ^ (Nat.digits 10 (2 ^ k - 1)).length := Nat.lt_base_pow_length_digits (by decide)
  have hmod := Nat.mod_lt m (show 0 < 2 ^ k by omega)
  rw [decimalGlyphs, if_neg (by omega), List.length_map, List.length_reverse]
  omega

theorem forall₂_fractionShapes (v : Word) {k : Nat} (hlow : 1 ≤ k) (hhigh : k ≤ 8) (option : Bool) :
    List.Forall₂ (fun shape text => shape text) (fractionShapes v k option) (fractionCandidates v k option) := by
  have hm := magnitude_le v
  rw [fractionShapes, fractionCandidates]
  refine forall₂_separatorForms (fun separators => ?_) option
  refine signedText_append false v _ separators ((Nat.div_le_self (magnitude v) _).trans_lt (by omega)) ?_
  rw [numeratorDigits_eq hhigh, fixedDigits_eq_paddedGlyphs (numerator_lt hlow _)]; rfl

/-- The two candidates of one suffix; none of the units is larger than 10^9 (R41). -/
theorem forall₂_suffixedShapes (v : Word) {unit : Nat} (hunit : unit ≤ 10 ^ 9) (suffix : Byte) :
    List.Forall₂ (fun shape text => shape text) (suffixedShapes v unit suffix)
      [volumeTenths v unit suffix, volumeWhole v unit suffix] := by
  have hm := magnitude_le v
  have htenths := rounded_lt hm (show unit / 20 ≤ 5 * 10 ^ 8 by omega) (unit / 10)
  have hwhole := rounded_lt hm (show unit / 2 ≤ 5 * 10 ^ 8 by omega) unit
  exact .cons (signedText_append false v _ false ((Nat.div_le_self _ _).trans_lt htenths) rfl)
    (.cons (signedText_append false v _ false hwhole rfl) .nil)

theorem forall₂_volumeShapes (v : Word) (option : Bool) :
    List.Forall₂ (fun shape text => shape text) (volumeShapes v option) (volumeCandidates v option) := by
  have hm := magnitude_le v
  have hplain : ∀ separators,
      signedText false v (magnitude v) separators (magnitude v) [] (volumePlain v separators) := by
    intro separators
    have happend := signedText_append false v (magnitude v) separators (whole := magnitude v) (by omega) (Eq.refl [])
    rwa [List.append_nil] at happend
  rw [volumeShapes, List.append_assoc, List.append_assoc]
  exact List.rel_append (forall₂_separatorForms hplain option)
    (List.rel_append (forall₂_suffixedShapes v (by norm_num) glyphK)
      (List.rel_append (forall₂_suffixedShapes v (by norm_num) glyphM)
        (forall₂_suffixedShapes v (by norm_num) glyphB)))

/-! ### Fitting (R34, R43 to R46) -/

theorem fitNumeric_of_none {w : Nat} {candidates : List (List Byte)} (h : ∀ text ∈ candidates, w < text.length) :
    fitNumeric w candidates = ⟨List.replicate w glyphStar, false⟩ := by
  have hfind : (candidates.find? fun text => text.length ≤ w) = none := by simpa using h
  rw [fitNumeric, hfind]

theorem fitNumeric_of_first {w : Nat} {before after : List (List Byte)} {text : List Byte}
    (hbefore : ∀ x ∈ before, w < x.length) (hfits : text.length ≤ w) :
    fitNumeric w (before ++ text :: after) = ⟨List.replicate (w - text.length) glyphSpace ++ text, true⟩ := by
  have hfind : ((before ++ text :: after).find? fun text => text.length ≤ w) = some text :=
    List.find?_eq_some_iff_append.2 ⟨by simpa using hfits, before, after, rfl, by simpa using hbefore⟩
  rw [fitNumeric, hfind]

theorem fitNumeric_length (w : Nat) (candidates : List (List Byte)) : (fitNumeric w candidates).glyphs.length = w := by
  unfold fitNumeric
  split
  · have hfits := List.find?_some ‹_›
    simp only [decide_eq_true_eq] at hfits
    simp only [List.length_append, List.length_replicate]
    omega
  · exact List.length_replicate

theorem fitText_length (w : Nat) (alignRight : Bool) (glyphs : List Byte) :
    (fitText w alignRight glyphs).glyphs.length = w := by
  cases alignRight <;> simp [fitText]

/-- A text is its glyphs, cut to w and substituted, and spaces. -/
theorem mem_fitText {w : Nat} {alignRight : Bool} {glyphs : List Byte} {g : Byte}
    (h : g ∈ (fitText w alignRight glyphs).glyphs) : g = glyphSpace ∨ ∃ stored ∈ glyphs, substituteGlyph stored = g := by
  have hparts : g ∈ List.replicate (w - ((glyphs.take w).map substituteGlyph).length) glyphSpace ∨
      g ∈ (glyphs.take w).map substituteGlyph := by
    cases alignRight with
    | false => exact (List.mem_append.1 h).symm
    | true => exact List.mem_append.1 h
  refine hparts.imp List.eq_of_mem_replicate fun hcut => ?_
  obtain ⟨stored, hstored, rfl⟩ := List.mem_map.1 hcut
  exact ⟨stored, List.mem_of_mem_take hstored, rfl⟩

/-- No control code reaches the plane (R43). -/
theorem substituteGlyph_ge (g : Byte) : 0x20 ≤ (substituteGlyph g).toNat := by
  unfold substituteGlyph
  split
  · decide
  · omega

theorem fitText_of_long {w : Nat} (alignRight : Bool) {glyphs : List Byte} (h : w ≤ glyphs.length) :
    fitText w alignRight glyphs = ⟨(glyphs.map substituteGlyph).take w, true⟩ := by
  cases alignRight <;> simp [fitText, h]

theorem fitText_of_short {w : Nat} (alignRight : Bool) {glyphs : List Byte} (h : glyphs.length ≤ w) :
    fitText w alignRight glyphs =
      ⟨if alignRight then List.replicate (w - glyphs.length) glyphSpace ++ glyphs.map substituteGlyph
        else glyphs.map substituteGlyph ++ List.replicate (w - glyphs.length) glyphSpace, true⟩ := by
  simp [fitText, List.take_of_length_le h]

theorem formatValue_length (f : Field) (display : Option Value) : (formatValue f display).glyphs.length = f.width := by
  match display with
  | none => exact List.length_replicate
  | some (.number v) => exact fitNumeric_length _ _
  | some (.text glyphs) => exact fitText_length _ _ _

/-- Settles O44: each display value by its own rule, the numeric ones by the shapes of their candidates. -/
theorem formatterText : Obligations.FormatterText := by
  intro f
  refine ⟨formatValue_length f, rfl, ?_, fun v => fitNumeric_of_none, ?_, ?_, fun glyphs g hg => ?_, fun glyphs => ?_,
    fun v hscale hfraction htext => ?_⟩
  · have hempty := fitText_of_short (w := f.width) f.options.alignRight (glyphs := []) (Nat.zero_le _)
    simpa [formatValue, glyphSpace] using hempty
  · intro v before text after hcandidates hbefore hfits
    rw [formatValue, hcandidates, fitNumeric_of_first hbefore hfits]; rfl
  · intro v plus s d separators hd hs
    obtain ⟨hlow, hhigh⟩ := decimalDisplayed_rounds (magnitude v) hd
    exact ⟨_, hlow, hhigh, readDigits_decimalText plus v separators (decimalDisplayed_lt v (by omega) d)⟩
  · obtain rfl | ⟨stored, -, rfl⟩ := mem_fitText hg
    · decide
    · exact substituteGlyph_ge stored
  · exact ⟨fitText_of_long _, fitText_of_short _⟩
  · unfold numericCandidates
    cases hformat : f.format with
    | decimal => exact forall₂_decimalShapes false v hscale _
    | change => exact forall₂_decimalShapes true v hscale _
    | fraction => exact forall₂_fractionShapes v (hfraction hformat) hscale _
    | volume => exact forall₂_volumeShapes v _
    | text => exact absurd hformat htext

end Sys2Proof.Machine
end

section
/-! A begun frame boundary is over before a request is taken and before a render begins or completes (R47, R103, R112). -/

namespace Sys2Proof.Machine

variable {s : State}

theorem State.settle_settle (s : State) : s.settle.settle = s.settle := State.settle_of_none s.settle_boundary

theorem State.settle_of_begun (h : s.boundary ≠ none) : s.settle = s.takeBoundary settlingOrder := by
  obtain ⟨b, hb⟩ := Option.ne_none_iff_exists'.1 h
  rw [State.settle, hb]

theorem State.settle_inReset (s : State) : s.settle.inReset = s.inReset := by
  rw [State.inReset, s.settle_line.1, State.inReset]

theorem State.takeThen_of_frame {c : Instr} {f : Frame} (hf : c.frame? = some f) (act : State → State) :
    s.takeThen c act = if s.settle.canTake f then .next (act (s.settle.take f)) else .next s := by
  rw [State.takeThen, hf]

/-- Settles O4: the take of a request and the painter's acts look at the state through `settle`, which settles nothing more
on a state that is settled. -/
theorem requestFindsBoundaryOver : Obligations.RequestFindsBoundaryOver := by
  refine ⟨fun c f s hf _ => ⟨s.settle_boundary, ?_⟩, fun s hreset hbegun => ?_⟩
  · obtain ⟨act, hact⟩ := exec_takes hf
    have hready : s.settle.ready c = s.settle.canTake f := by simp [State.ready, hf]
    rw [hact, hact, State.takeThen_of_frame hf, State.takeThen_of_frame hf, State.settle_settle, hready]
    split <;> rfl
  · have hrunning : ¬s.inReset = true := by simp [State.inReset, hreset]
    have hboundary : exec (.frameBoundary settlingOrder) s =
        if s.inReset then .next s else .next (s.takeBoundary settlingOrder) := rfl
    have hbegin : ∀ t, exec .renderBegin t = if t.inReset then .next t else .next t.settle.paintNext := fun _ => rfl
    have hcomplete : ∀ t, exec .renderComplete t = if t.inReset then .next t else .next t.settle.finishRender :=
      fun _ => rfl
    refine ⟨?_, ?_, ?_⟩
    · rw [hboundary, if_neg hrunning, State.settle_of_begun hbegun]
    · rw [hbegin, hbegin, State.settle_settle, State.settle_inReset, if_neg hrunning, if_neg hrunning]
    · rw [hcomplete, hcomplete, State.settle_settle, State.settle_inReset, if_neg hrunning, if_neg hrunning]

end Sys2Proof.Machine
end

section
/-! UNHOLD (R63). -/

namespace Sys2Proof.Machine

/-- Settles O34: an UNHOLD writes the record `unheld` and enqueues its field. -/
theorem unholdReleasesField : Obligations.UnholdReleasesField := by
  intro s tag number f hn hf hheld hready
  obtain ⟨t, hexec, h⟩ := State.exec_wroteRecord (exec_unhold tag (.fields number) s) rfl
    ((State.unhold_of_inUse (s := s.take _) hn hf (by simp [hheld])).trans (if_pos hheld)) hready
  exact ⟨t, hexec, h.record, h.others, h.scr, h.lists, h.queue, h.lag, h.answer⟩

end Sys2Proof.Machine
end

section
/-! Successive changes of the latched set, in an order that the manual leaves open (R152, R153). -/

namespace Sys2Proof.Machine

variable {s : State}

/-! ### Unions of kinds -/

theorem unionOf_append (l m : List EventSet) : unionOf (l ++ m) = unionOf l ||| unionOf m := by
  induction l with
  | nil => simp [unionOf]
  | cons c rest ih => rw [List.cons_append, unionOf, unionOf, ih, BitVec.or_assoc]

theorem unionOf_eq_of_perm {l m : List EventSet} (h : l.Perm m) : unionOf l = unionOf m := by
  induction h with
  | nil => rfl
  | cons c _ ih => rw [unionOf, unionOf, ih]
  | swap c d l => rw [unionOf, unionOf, unionOf, unionOf, ← BitVec.or_assoc, ← BitVec.or_assoc, BitVec.or_comm c d]
  | trans _ _ ih₁ ih₂ => exact ih₁.trans ih₂

/-- A group that hands nothing over adds nothing. -/
theorem unionOf_flatten_handed (groups : List (List EventSet)) :
    unionOf (groups.filter fun g => unionOf g != 0).flatten = unionOf groups.flatten := by
  induction groups with
  | nil => rfl
  | cons g rest ih =>
    by_cases hg : unionOf g = 0
    · rw [List.filter_cons_of_neg (by simpa using hg), List.flatten_cons, unionOf_append, ih, hg]
      exact BitVec.zero_or.symm
    · rw [List.filter_cons_of_pos (by simpa using hg), List.flatten_cons, List.flatten_cons, unionOf_append,
        unionOf_append, ih]

theorem orderedBy_perm {α : Type} (c : Nat) (l : List α) : (orderedBy c l).Perm l := by
  induction l generalizing c with
  | nil => exact .refl _
  | cons x rest ih =>
    have hrest := ih (c / (rest.length + 1))
    have hplace : c % (rest.length + 1) ≤ (orderedBy (c / (rest.length + 1)) rest).length := by
      rw [hrest.length_eq]
      exact Nat.le_of_lt_succ (Nat.mod_lt _ (Nat.succ_pos _))
    exact (List.perm_insertIdx x _ hplace).trans (hrest.cons x)

/-! ### What a NOTICE placed on the way carries -/

/-- While the changes hand over no new enabled kind, the latched set has the enabled kinds that it had. -/
theorem and_mask_of_not_newly {c standing mask rest : EventSet} (h : c &&& ~~~standing &&& mask = 0) :
    rest &&& ~~~(standing ||| c) &&& mask = (c ||| rest) &&& ~~~standing &&& mask := by
  ext i hi
  have hi' := congrArg (fun x => x.getLsbD i) h
  simp only [BitVec.getLsbD_and, BitVec.getLsbD_not] at hi'
  simp only [← BitVec.getLsbD_eq_getElem, BitVec.getLsbD_and, BitVec.getLsbD_or, BitVec.getLsbD_not]
  revert hi'
  cases c.getLsbD i <;> cases standing.getLsbD i <;> cases mask.getLsbD i <;> simp [hi]

theorem or_and_mask_ne_zero {c standing mask : EventSet} (h : c &&& ~~~standing &&& mask ≠ 0) :
    (standing ||| c) &&& mask ≠ 0 := by
  intro hzero
  refine h (BitVec.eq_of_getLsbD_eq fun i hi => ?_)
  have hi' := congrArg (fun x => x.getLsbD i) hzero
  simp only [BitVec.getLsbD_and, BitVec.getLsbD_or] at hi' ⊢
  revert hi'
  cases c.getLsbD i <;> cases mask.getLsbD i <;> simp

/-- The NOTICE carries a set between the latched set before the changes and the one after them, with an enabled kind in it. -/
theorem noticeSnapshot_between {mask standing : EventSet} {changes : List EventSet}
    (h : unionOf changes &&& ~~~standing &&& mask ≠ 0) :
    noticeSnapshot mask standing changes &&& mask ≠ 0 ∧
      noticeSnapshot mask standing changes ||| standing = noticeSnapshot mask standing changes ∧
      noticeSnapshot mask standing changes ||| (standing ||| unionOf changes) = standing ||| unionOf changes := by
  induction changes generalizing standing with
  | nil => simp [unionOf] at h
  | cons c rest ih =>
    rw [noticeSnapshot, unionOf]
    by_cases hnew : c &&& ~~~standing &&& mask = 0
    · rw [if_neg (by simpa using hnew)]
      obtain ⟨henabled, hbefore, hafter⟩ := ih (standing := standing ||| c) (and_mask_of_not_newly hnew ▸ h)
      exact ⟨henabled, by grind, by rwa [← BitVec.or_assoc standing]⟩
    · rw [if_pos (by simpa using hnew)]
      exact ⟨or_and_mask_ne_zero hnew, by grind, by grind⟩

/-! ### Latching in turn -/

theorem State.latchChanges_inTurn (changes : List EventSet) (n : FrameNo) (placed : Nat) :
    s.latchedInTurn (s.latchChanges (unionOf changes) changes n placed) (unionOf changes) n := by
  refine ⟨by simp, by simp, ?_⟩
  by_cases hdue : s.aeu.noticeOutstanding = false ∧ unionOf changes &&& ~~~s.aeu.latched &&& s.aeu.noticeMask ≠ 0
  · have hnotice : s.noticeDue (unionOf changes) = true := by simpa [State.noticeDue] using hdue
    rw [if_pos hdue, State.latchChanges, if_pos hnotice]
    exact ⟨rfl, _, _, rfl, noticeSnapshot_between hdue.2⟩
  · have hnone : ¬s.noticeDue (unionOf changes) = true := by simpa [State.noticeDue] using hdue
    rw [if_neg hdue, State.latchChanges, if_neg hnone]
    exact ⟨rfl, rfl⟩

/-- Whatever the order that the manual leaves open, every group's kinds are latched. -/
theorem State.latchOpen_inTurn (groups : List (List EventSet)) (n : FrameNo) :
    s.latchedInTurn (s.latchOpen groups n) (unionOf groups.flatten) n := by
  rw [← unionOf_flatten_handed]
  generalize hhanded : groups.filter (fun g => unionOf g != 0) = handed
  have hordered : unionOf (orderedBy (Config.openChoice s.choices) handed).flatten = unionOf handed.flatten :=
    unionOf_eq_of_perm (orderedBy_perm _ _).flatten
  simp only [State.latchOpen, hhanded]
  split
  · exact State.latchChanges_inTurn _ _ _
  · rw [← hordered]
    exact State.latchChanges_inTurn (orderedBy (Config.openChoice s.choices) handed).flatten n s.lnk.placings

end Sys2Proof.Machine
end

section
/-! One accepted post: record, lists, queue and latches (R47 to R57, R139, R140, R142, R147). -/

namespace Sys2Proof.Machine

variable {s : State}

/-! ### The record -/

theorem Field.revivedState_eq (f : Field) : f.revivedState = stateAfterPost f.state f.options.hold := by
  unfold Field.revivedState stateAfterPost
  cases f.state <;> simp

theorem Field.raises_iff (f : Field) (v : Value) :
    f.raises v = true ↔ f.zoneAfter v ≠ .inside ∧ f.zoneAfter v ≠ f.zone := by
  simp [Field.raises]

theorem Field.handsRevive_iff (f : Field) : f.handsRevive = true ↔ f.state = .stale ∧ f.options.reviveWatch = true := by
  simp [Field.handsRevive]

/-- The record that a post writes, in the words of R47 to R50. -/
theorem Field.posted_eq (f : Field) (v : Value) (n : FrameNo) :
    f.posted v n = { f with
      value := some v, lastPost := some n, state := stateAfterPost f.state f.options.hold
      staleDeadline := if stateAfterPost f.state f.options.hold = .live then ticksAfter n f.staleInterval else none
      zone := f.zoneAfter v
      alertLatched := f.alertLatched || decide (f.zoneAfter v ≠ .inside ∧ f.zoneAfter v ≠ f.zone) } := by
  have hraises : f.raises v = decide (f.zoneAfter v ≠ .inside ∧ f.zoneAfter v ≠ f.zone) := by
    rw [Bool.eq_iff_iff, Field.raises_iff, decide_eq_true_iff]
  rw [Field.posted, Field.revivedState_eq, hraises]
  rfl

/-! ### The lists -/

theorem offerAlert_eq (n : Nat) (list : List Nat) :
    offerAlert n list = if n ∉ list ∧ ¬32 ≤ list.length then list ++ [n] else list := by
  have hno : (list.contains n || alertCapacity ≤ list.length) = true ↔ ¬(n ∉ list ∧ ¬32 ≤ list.length) := by
    rw [Bool.or_eq_true, List.contains_iff_mem, decide_eq_true_iff]
    exact or_iff_not_and_not
  simp only [offerAlert, hno, ite_not]

theorem alertKinds_eq (n : Nat) (list : List Nat) :
    alertKinds n list = 0x0080 ||| if n ∉ list ∧ 32 ≤ list.length then 0x0100 else 0 := by
  have hfull : (!list.contains n && decide (alertCapacity ≤ list.length)) = true ↔ n ∉ list ∧ 32 ≤ list.length := by
    rw [Bool.and_eq_true, Bool.not_eq_true', ← Bool.not_eq_true, List.contains_iff_mem, decide_eq_true_iff]
    rfl
  simp only [alertKinds, hfull]
  split <;> rfl

theorem watchHolds_iff (r : WatchRecord) (list : List WatchRecord) :
    watchHolds r list = true ↔ ∃ q ∈ list, q.field = r.field ∧ q.kind = r.kind := by
  simp [watchHolds]

theorem addWatch_eq (r : WatchRecord) (list : List WatchRecord) :
    addWatch r list =
      if (¬∃ q ∈ list, q.field = r.field ∧ q.kind = r.kind) ∧ ¬16 ≤ list.length then list ++ [r] else list := by
  have hno : (watchHolds r list || watchCapacity ≤ list.length) = true ↔
      ¬((¬∃ q ∈ list, q.field = r.field ∧ q.kind = r.kind) ∧ ¬16 ≤ list.length) := by
    rw [Bool.or_eq_true, watchHolds_iff, decide_eq_true_iff]
    exact or_iff_not_and_not
  simp only [addWatch, hno, ite_not]

theorem unionOf_watchChange (r : WatchRecord) (list : List WatchRecord) :
    unionOf (watchChange r list) =
      if ∃ q ∈ list, q.field = r.field ∧ q.kind = r.kind then 0 else if 16 ≤ list.length then 0x0040 else 0x0020 := by
  simp only [watchChange, watchHolds_iff]
  split
  · rfl
  · split <;> simp_all [watchCapacity, unionOf, evWatch, evWatchFull]

/-! ### The queue -/

theorem slotOf_isSome_iff (n : Nat) (l : List (Nat × Slot)) :
    (slotOf n l).isSome = true ↔ ∃ e ∈ l, e.2.field = some n := by
  induction l with
  | nil => simp [slotOf]
  | cons e rest ih =>
    by_cases he : e.2.field = some n
    · simp [slotOf, he]
    · simp [slotOf, he, ih]

theorem State.postEnqueues_iff (n : Nat) (f : Field) (v : Value) :
    s.postEnqueues n f v = true ↔
      f.state = .stale ∨ (f.state = .live ∧ (f.shown ≠ some v ∨ ∃ e ∈ s.pnt.slots, e.2.field = some n)) := by
  simp [State.postEnqueues, State.holdsSlot, slotOf_isSome_iff]

/-- An URGENT request after a request by class leaves the queue as it alone does: a field's entry stands once, and the total
is judged once (R66, R71). -/
theorem State.enqueued_urgent_after {s t u : State} {n : Nat} {visible urgent : Bool}
    (h : s.enqueued t n visible urgent) (k : t.enqueued u n visible true) : s.enqueued u n visible true := by
  obtain ⟨hslots, hage, hthreshold, h⟩ := h
  obtain ⟨kslots, kage, kthreshold, k⟩ := k
  refine ⟨kslots.trans hslots, kage.trans hage, kthreshold.trans hthreshold, ?_⟩
  by_cases hstays : visible = false ∨ n ∈ s.pnt.urgent
  · rw [if_pos hstays] at h ⊢
    rw [h, if_pos hstays] at k
    exact k
  · rw [if_neg hstays] at h ⊢
    by_cases hroutine : n ∈ s.pnt.routine.map RoutineEntry.field
    · rw [if_pos hroutine] at h ⊢
      cases urgent with
      | true =>
        obtain ⟨hu, hr, hl⟩ := h
        rw [if_pos (.inr (by simp [hu]))] at k
        rw [k]
        exact ⟨hu, hr, hl⟩
      | false =>
        have h : t.pnt = s.pnt := h
        simpa only [State.queuedTotal, h, if_neg hstays, if_pos hroutine] using k
    · rw [if_neg hroutine] at h ⊢
      obtain ⟨hlists, hl⟩ := h
      cases urgent with
      | true =>
        obtain ⟨hu, hr⟩ := hlists
        rw [if_pos (.inr (by simp [hu]))] at k
        rw [k]
        exact ⟨⟨hu, hr⟩, hl⟩
      | false =>
        rw [if_neg Bool.false_ne_true] at hlists
        obtain ⟨hu, hr⟩ := hlists
        rw [hu, hr, if_neg hstays, if_pos (by simp)] at k
        obtain ⟨ku, kr, kl⟩ := k
        refine ⟨⟨ku, kr.trans ?_⟩, kl.trans hl⟩
        have hothers : ∀ e ∈ s.pnt.routine, (e.field != n) = true := fun e he =>
          bne_iff_ne.2 fun hn => hroutine (hn ▸ List.mem_map_of_mem he)
        simp [List.filter_append, List.filter_eq_self.2 hothers]

theorem State.postQueued_enqueued {n : Nat} {f : Field} (own : Bool) (h : s.field? n = some f) :
    s.enqueued (s.postQueued n own true) n (s.shows f) true := by
  cases own with
  | false => exact State.enqueue_enqueued true h
  | true =>
    have hfirst := State.enqueue_enqueued false h
    have hsecond := State.enqueue_enqueued (s := s.enqueue n false) (n := n) (f := f) true (by simpa [State.field?] using h)
    have hshows : (s.enqueue n false).shows f = s.shows f := by simp [State.shows]
    exact State.enqueued_urgent_after hfirst (hshows ▸ hsecond)

/-! ### The post as a whole -/

@[simp] theorem State.postQueued_aeu (n : Nat) (own raised : Bool) : (s.postQueued n own raised).aeu = s.aeu := by
  cases own <;> cases raised <;> simp [State.postQueued]

@[simp] theorem State.postQueued_lnk (n : Nat) (own raised : Bool) : (s.postQueued n own raised).lnk = s.lnk := by
  cases own <;> cases raised <;> simp [State.postQueued]

theorem State.postQueued_leavesLine (n : Nat) (own raised : Bool) : s.leavesLine (s.postQueued n own raised) := by
  cases own <;> cases raised <;> constructor <;> simp [State.postQueued, State.lineKept]

theorem State.latchOpen_leavesLine (groups : List (List EventSet)) (n : FrameNo) : s.leavesLine (s.latchOpen groups n) :=
  ⟨by simp, by simp, s.latchOpen_line groups n, by simp⟩

/-- Record and lists after a post, before its enqueues. -/
def State.postRecorded (s : State) (n : Nat) (f : Field) (v : Value) : State :=
  { s.putField n (f.posted v s.now) with aeu := s.aeu.posted n f v s.now }

theorem State.postRecorded_leavesLine (n : Nat) (f : Field) (v : Value) : s.leavesLine (s.postRecorded n f v) :=
  ⟨rfl, rfl, s.lineKept_refl, rfl⟩

/-- The queue after a post. -/
def State.postEnqueued (s : State) (n : Nat) (f : Field) (v : Value) : State :=
  (s.postRecorded n f v).postQueued n (s.postEnqueues n f v) (f.raises v)

/-- What a post hands over to AEU: the REVIVE record's occurrence, the alert's and a rise of LAGGING. -/
def State.postKinds (s : State) (n : Nat) (f : Field) (v : Value) : EventSet :=
  unionOf (if f.handsRevive then watchChange ⟨n, .revive, s.now⟩ s.aeu.watchList else []) |||
    (if f.raises v then alertKinds n s.aeu.alertList else 0) ||| unionOf (lagChange s (s.postEnqueued n f v))

/-- The post's effects on FLD, PNT and AEU's lists, and then the latches, whatever their order. -/
theorem State.applyPost_eq (n : Nat) (f : Field) (v : Value) : ∃ groups,
    unionOf groups.flatten = s.postKinds n f v ∧
      s.applyPost n f v = (s.postEnqueued n f v).latchOpen groups s.now := by
  refine ⟨_, ?_, rfl⟩
  have halert : unionOf (if f.raises v then [alertKinds n s.aeu.alertList] else []) =
      if f.raises v then alertKinds n s.aeu.alertList else 0 := by
    split <;> simp [unionOf]
  rw [State.postKinds, ← halert, ← unionOf_append, ← unionOf_append]
  split <;> simp <;> rfl

theorem State.applyPost_leavesLine (n : Nat) (f : Field) (v : Value) : s.leavesLine (s.applyPost n f v) := by
  obtain ⟨groups, -, happly⟩ := s.applyPost_eq n f v
  rw [happly]
  exact ((State.postRecorded_leavesLine n f v).trans (State.postQueued_leavesLine _ _ _)).trans
    (State.latchOpen_leavesLine _ _)

theorem State.applyPost_fields (n : Nat) (f : Field) (v : Value) :
    (s.applyPost n f v).fields = Store.insert n (f.posted v s.now) s.fields := by simp [State.applyPost]

end Sys2Proof.Machine
end

section
/-! One accepted post as a whole: every effect that the rules give it (R47 to R57, R139, R140, R142, R147, R152). -/

namespace Sys2Proof.Machine

variable {s : State}

theorem State.latchedInTurn_congr {s s' t t' : State} {kinds : EventSet} {n : FrameNo} (hs : s'.aeu.latched = s.aeu.latched)
    (hm : s'.aeu.noticeMask = s.aeu.noticeMask) (ho : s'.aeu.noticeOutstanding = s.aeu.noticeOutstanding)
    (hn : s'.lnk.notice = s.lnk.notice) (ht : t'.aeu = t.aeu) (ht' : t'.lnk.notice = t.lnk.notice)
    (h : s.latchedInTurn t kinds n) : s'.latchedInTurn t' kinds n := by
  simpa only [State.latchedInTurn, hs, hm, ho, hn, ht, ht'] using h

theorem State.postEnqueued_pnt_of_quiet {n : Nat} {f : Field} {v : Value} (hown : ¬s.postEnqueues n f v = true)
    (hraised : ¬f.raises v = true) : (s.postEnqueued n f v).pnt = s.pnt := by
  simp [State.postEnqueued, State.postQueued, hown, hraised, State.postRecorded]

/-- The queue after a post: the alert's request is URGENT, and the post's own goes by class (R53, R54, R140). -/
theorem State.postEnqueued_enqueued {n : Nat} {f : Field} {v : Value}
    (h : s.postEnqueues n f v = true ∨ f.raises v = true) :
    s.enqueued (s.postEnqueued n f v) n (s.shows f) (f.raises v || f.options.urgent) := by
  have hput : (s.postRecorded n f v).field? n = some (f.posted v s.now) := s.putField_field?_self n _
  refine State.enqueued_congr (s := s.postRecorded n f v) rfl rfl ?_
  unfold State.postEnqueued
  cases hraised : f.raises v with
  | true =>
    have hqueue := State.postQueued_enqueued (s.postEnqueues n f v) hput
    exact hqueue
  | false =>
    rw [hraised] at h
    rw [h.resolve_right Bool.false_ne_true]
    have hqueue := State.enqueue_enqueued false hput
    exact hqueue

theorem unionOf_lagChange (s t : State) :
    unionOf (lagChange s t) = if s.pnt.lagging = false ∧ t.pnt.lagging = true then 0x0200 else 0 := by
  have hrise : (!s.pnt.lagging && t.pnt.lagging) = true ↔ s.pnt.lagging = false ∧ t.pnt.lagging = true := by simp
  simp only [lagChange, hrise]
  split <;> rfl

theorem State.applyPost_alertList (n : Nat) (f : Field) (v : Value) :
    (s.applyPost n f v).aeu.alertList = if f.raises v then offerAlert n s.aeu.alertList else s.aeu.alertList := by
  simp [State.applyPost, Alerts.posted]

theorem State.applyPost_watchList (n : Nat) (f : Field) (v : Value) :
    (s.applyPost n f v).aeu.watchList =
      if f.handsRevive then addWatch ⟨n, .revive, s.now⟩ s.aeu.watchList else s.aeu.watchList := by
  simp [State.applyPost, Alerts.posted]

@[simp] theorem State.applyPost_scr (n : Nat) (f : Field) (v : Value) : (s.applyPost n f v).scr = s.scr := by
  simp [State.applyPost]

@[simp] theorem State.applyPost_faultRecord (n : Nat) (f : Field) (v : Value) :
    (s.applyPost n f v).aeu.faultRecord = s.aeu.faultRecord := by
  simp [State.applyPost, Alerts.posted]

theorem State.applyPost_pnt (n : Nat) (f : Field) (v : Value) :
    (s.applyPost n f v).pnt = (s.postEnqueued n f v).pnt := by
  obtain ⟨groups, -, happly⟩ := s.applyPost_eq n f v
  rw [happly, State.latchOpen_pnt]

theorem State.applyPost_inTurn (n : Nat) (f : Field) (v : Value) :
    s.latchedInTurn (s.applyPost n f v) (s.postKinds n f v) s.now := by
  obtain ⟨groups, hkinds, happly⟩ := s.applyPost_eq n f v
  rw [happly, ← hkinds]
  refine State.latchedInTurn_congr ?_ ?_ ?_ ?_ rfl rfl (State.latchOpen_inTurn groups s.now) <;>
    simp [State.postEnqueued, State.postRecorded, Alerts.posted]

/-- The kinds that a post latches: those of the REVIVE record, of the alert, and of a rise of LAGGING. -/
theorem State.postKinds_eq (n : Nat) (f : Field) (v : Value) :
    s.postKinds n f v =
      unionOf (if f.handsRevive then watchChange ⟨n, .revive, s.now⟩ s.aeu.watchList else []) |||
        (if f.raises v then 0x0080 else 0) |||
        (if f.raises v = true ∧ n ∉ s.aeu.alertList ∧ 32 ≤ s.aeu.alertList.length then 0x0100 else 0) |||
        (if s.pnt.lagging = false ∧ (s.applyPost n f v).pnt.lagging = true then 0x0200 else 0) := by
  rw [State.postKinds, unionOf_lagChange, State.applyPost_pnt, alertKinds_eq]
  by_cases hraised : f.raises v = true
  · simp only [hraised, if_true, true_and, BitVec.or_assoc]
  · simp [hraised]

/-- An accepted post has every effect that the rules give it. -/
theorem State.applyPost_postedAs (s : State) (n : Nat) (f : Field) (v : Value) :
    s.postedAs (s.applyPost n f v) n f v (f.zoneAfter v) := by
  refine ⟨?_, fun m hm => ?_, State.applyPost_scr n f v, ?_⟩
  · rw [State.field?, State.applyPost_fields, Store.find?_insert_self, Field.posted_eq]
    rfl
  · rw [State.field?, State.applyPost_fields, Store.find?_insert_ne hm]; rfl
  simp only [← Field.raises_iff, ← s.postEnqueues_iff, ← f.handsRevive_iff]
  refine ⟨?_, ?_, ?_, State.applyPost_faultRecord n f v, ?_, ?_, ?_, ?_⟩
  · rw [State.applyPost_alertList, offerAlert_eq]
    split <;> simp_all
  · rintro ⟨hrevived, hroom⟩
    rw [State.applyPost_watchList, if_pos hrevived, addWatch_eq, if_pos hroom]
    rfl
  · intro hkept
    rw [State.applyPost_watchList, addWatch_eq]
    split <;> simp_all
  · intro hraised
    have hqueue := State.postEnqueued_enqueued (s := s) (n := n) (.inr hraised)
    rw [hraised] at hqueue
    exact State.enqueued_congr rfl (State.applyPost_pnt n f v) hqueue
  · rintro ⟨hown, hraised⟩
    have hqueue := State.postEnqueued_enqueued (s := s) (.inl hown)
    rw [Bool.not_eq_true] at hraised
    rw [hraised] at hqueue
    exact State.enqueued_congr rfl (State.applyPost_pnt n f v) hqueue
  · rintro ⟨hown, hraised⟩
    rw [State.applyPost_pnt, State.postEnqueued_pnt_of_quiet hown hraised]
  · refine ⟨unionOf (if f.handsRevive then watchChange ⟨n, .revive, s.now⟩ s.aeu.watchList else []), ?_, ?_, ?_⟩
    · rintro ⟨hrevived, hnew⟩
      rw [if_pos hrevived, unionOf_watchChange, if_neg hnew]
    · intro hnone
      split
      · rename_i hrevived
        rw [unionOf_watchChange, if_pos (not_not.1 fun hnew => hnone ⟨hrevived, hnew⟩)]
      · rfl
    · rw [← s.postKinds_eq]
      exact State.applyPost_inTurn n f v

end Sys2Proof.Machine
end

section
/-! POST and POST TEXT (R47 to R62). -/

namespace Sys2Proof.Machine

variable {s : State}

/-- `postedAs` sees FLD, PNT, SCR, AEU and the notice slot alone, which the take and the reply leave. -/
theorem State.postedAs_answer {x : Frame} {t : State} {n : Nat} {f : Field} {v : Value} {zone : Zone} (payload : List Byte)
    (hmsg : t.msg = (s.take x).msg) (h : (s.take x).postedAs t n f v zone) : s.postedAs (t.answer payload) n f v zone := by
  have hinHand : t.msg.inHand = some x := by rw [hmsg]; rfl
  obtain ⟨record, others, scr, alerts, watched, unwatched, fault, alertQueue, ownQueue, noQueue, watch, new, old,
    latched⟩ := h
  rw [State.answer_of_inHand payload hinHand]
  exact ⟨record, others, scr, alerts, watched, unwatched, fault, alertQueue, ownQueue, noQueue, watch, new, old,
    State.latchedInTurn_congr (s := s.take x) rfl rfl rfl (s.take_notice x).symm rfl rfl latched⟩

/-- A ready request whose rule posts a value and answers. -/
theorem State.exec_posted {α : Type} {c : Instr} {x : Frame} {a : α} {act : α → State → State} {n : Nat} {f : Field}
    {v : Value} {payload : List Byte} (hc : exec c s = s.takeThen c fun u => u.checkLength (.fields a) act)
    (hf : c.frame? = some x) (hact : act a (s.take x) = ((s.take x).applyPost n f v).answer payload)
    (h : s.ready c = true) :
    ∃ t, exec c s = .next t ∧ s.postedAs t n f v (f.zoneAfter v) ∧ s.answered t (x.type + 0x80) x.tag payload :=
  ⟨_, State.exec_of_ready hc hf h,
    hact ▸ State.postedAs_answer payload (State.applyPost_leavesLine n f v).msg (State.applyPost_postedAs _ n f v),
    hact ▸ State.answered_of_leavesLine payload h (State.applyPost_leavesLine n f v)⟩

theorem State.post_of_ok {r : PostFields} {f : Field} (h : s.checkPost r.number Format.numeric = .ok f) :
    s.post r = (s.applyPost r.number.toNat f (.number r.value)).answer
      (bytesOfHalf r.number ++ [f.revivedState.code, (f.zoneAfter (.number r.value)).code]) := by
  rw [State.post, h]

theorem State.postText_of_ok {r : TextFields} {f : Field} (h : s.checkPost r.number (fun x => x == .text) = .ok f) :
    s.postText r = (s.applyPost r.number.toNat f (.text (r.glyphs.take maxText))).answer
      (bytesOfHalf r.number ++ [f.revivedState.code]) := by
  rw [State.postText, h]

theorem Format.numeric_iff (x : Format) : x.numeric = true ↔ x ≠ .text := by simp [Format.numeric]

/-- Settles O31: the checks of R48 pass, and the post is `applyPost`. -/
theorem postStoresValue : Obligations.PostStoresValue := by
  intro s tag r f hn hf hstate hformat hready
  have hcheck : s.checkPost r.number Format.numeric = .ok f := by
    rw [State.checkPost_of_inUse _ hn hf hstate, if_pos ((Format.numeric_iff _).2 hformat)]
  have hposted := State.exec_posted (exec_post tag (.fields r) s) rfl (State.post_of_ok (s := s.take _) hcheck) hready
  simp only [Field.revivedState_eq, Field.zoneAfter, ← zoneFor_eq_zoneOf] at hposted
  exact hposted

/-- Settles O32: the checks of R61 pass, and the post is `applyPost` of the glyphs, which leaves the zone. -/
theorem postTextStoresGlyphs : Obligations.PostTextStoresGlyphs := by
  intro s tag r f hn hf hstate hformat hready
  have hcheck : s.checkPost r.number (fun x => x == .text) = .ok f := by
    rw [State.checkPost_of_inUse _ hn hf hstate, if_pos (beq_iff_eq.2 hformat)]
  have hposted := State.exec_posted (exec_postText tag (.fields r) s) rfl (State.postText_of_ok (s := s.take _) hcheck) hready
  rw [Field.revivedState_eq] at hposted
  exact hposted

end Sys2Proof.Machine
end

section
/-! POST BATCH (R58 to R60). -/

namespace Sys2Proof.Machine

variable {s : State}

/-! ### The check of one entry (R48, R59) -/

/-- The code with which an entry is refused, as `checkPost` finds it. -/
def State.entryCode (s : State) (r : PostFields) : Option RefusalCode :=
  if 512 ≤ r.number.toNat then some .badField
  else match s.field? r.number.toNat with
    | none => some .notDefined
    | some f =>
      if f.state = .retiring then some .notDefined
      else if f.format = .text then some .wrongFormat
      else none

/-- An entry is accepted where its field is in use, not RETIRING, and numeric. -/
theorem State.entryCode_eq_none_iff (r : PostFields) :
    s.entryCode r = none ↔
      r.number.toNat < 512 ∧ ∃ f, s.field? r.number.toNat = some f ∧ f.state ≠ .retiring ∧ f.format ≠ .text := by
  unfold State.entryCode
  split
  · simp; omega
  · cases s.field? r.number.toNat with
    | none => simp
    | some f => by_cases hstate : f.state = .retiring <;> simp_all

theorem State.checkPost_of_accepted {r : PostFields} {f : Field} (h : s.entryCode r = none)
    (hf : s.field? r.number.toNat = some f) : s.checkPost r.number Format.numeric = .ok f := by
  obtain ⟨hn, g, hg, hstate, hformat⟩ := (State.entryCode_eq_none_iff r).1 h
  obtain rfl := Option.some.inj (hg.symm.trans hf)
  rw [State.checkPost_of_inUse _ hn hg hstate, if_pos ((Format.numeric_iff _).2 hformat)]

/-- The first failing check of a refused entry. -/
theorem State.entryCode_cases {r : PostFields} {c : RefusalCode} (h : s.entryCode r = some c) :
    512 ≤ r.number.toNat ∧ c = .badField ∨
      (r.number.toNat < 512 ∧ (∀ f, s.field? r.number.toNat = some f → f.state = .retiring) ∧ c = .notDefined) ∨
      ∃ f, r.number.toNat < 512 ∧ s.field? r.number.toNat = some f ∧ f.state ≠ .retiring ∧ f.format = .text ∧
        c = .wrongFormat := by
  unfold State.entryCode at h
  by_cases hn : 512 ≤ r.number.toNat
  · rw [if_pos hn] at h
    exact .inl ⟨hn, (Option.some.inj h).symm⟩
  rw [if_neg hn] at h
  refine .inr ?_
  cases hf : s.field? r.number.toNat with
  | none =>
    rw [hf] at h
    exact .inl ⟨not_le.1 hn, fun g hg => (nomatch hg), (Option.some.inj h).symm⟩
  | some f =>
    rw [hf] at h
    by_cases hstate : f.state = .retiring
    · simp only [if_pos hstate] at h
      exact .inl ⟨not_le.1 hn, fun g hg => Option.some.inj hg ▸ hstate, (Option.some.inj h).symm⟩
    · by_cases hformat : f.format = .text
      · simp only [if_neg hstate, if_pos hformat] at h
        exact .inr ⟨f, not_le.1 hn, rfl, hstate, hformat, (Option.some.inj h).symm⟩
      · simp only [if_neg hstate, if_neg hformat] at h
        exact nomatch h

theorem State.checkPost_of_refused {r : PostFields} {c : RefusalCode} (h : s.entryCode r = some c) :
    s.checkPost r.number Format.numeric = .error c := by
  rcases State.entryCode_cases h with ⟨hn, rfl⟩ | ⟨hn, hnone, rfl⟩ | ⟨f, hn, hf, hstate, hformat, rfl⟩
  · exact State.checkPost_badField _ hn
  · exact State.checkPost_notDefined _ hn hnone
  · rw [State.checkPost_of_inUse _ hn hf hstate, hformat]; rfl

/-- No entry is refused for its CRC, so REFUSAL alone latches (R59). -/
theorem State.kinds_of_refused {r : PostFields} {c : RefusalCode} (h : s.entryCode r = some c) : c.kinds = 0x0010 := by
  rcases State.entryCode_cases h with ⟨-, rfl⟩ | ⟨-, -, rfl⟩ | ⟨f, -, -, -, -, rfl⟩ <;> rfl

/-! ### One entry -/

/-- The state after one entry of a batch. -/
def State.applyEntry (s : State) (index : Nat) (r : PostFields) : State :=
  ((BatchRun.mk s 0 none).entry index r).state

theorem State.applyEntry_of_accepted {r : PostFields} {f : Field} (index : Nat) (h : s.entryCode r = none)
    (hf : s.field? r.number.toNat = some f) :
    s.applyEntry index r = s.applyPost r.number.toNat f (.number r.value) := by
  simp [State.applyEntry, BatchRun.entry, State.checkPost_of_accepted h hf]

theorem State.applyEntry_of_refused {r : PostFields} {c : RefusalCode} {x : Frame} (index : Nat)
    (h : s.entryCode r = some c) (hx : s.msg.inHand = some x) :
    s.applyEntry index r = (s.recordFault x c (some r.number) (some index)).latch 0x0010 s.now := by
  simp [State.applyEntry, BatchRun.entry, State.checkPost_of_refused h, State.refuseEntry, hx, State.kinds_of_refused h]

theorem BatchRun.entry_of_accepted {b : BatchRun} {r : PostFields} (index : Nat) (h : b.state.entryCode r = none) :
    b.entry index r = ⟨b.state.applyEntry index r, b.accepted + 1, b.firstRefused⟩ := by
  obtain ⟨-, f, hf, -⟩ := (State.entryCode_eq_none_iff r).1 h
  simp [State.applyEntry, BatchRun.entry, State.checkPost_of_accepted h hf]

theorem BatchRun.entry_of_refused {b : BatchRun} {r : PostFields} {c : RefusalCode} (index : Nat)
    (h : b.state.entryCode r = some c) :
    b.entry index r =
      ⟨b.state.applyEntry index r, b.accepted, b.firstRefused.orElse fun _ => some (index, c)⟩ := by
  simp [State.applyEntry, BatchRun.entry, State.checkPost_of_refused h]

/-- What a refused entry leaves: the fault record and REFUSAL, and nothing else (R59). -/
structure State.skipped (s t : State) (fault : FaultRecord) : Prop where
  blocks : s.blocksKept t
  lists : s.listsKept t
  latch : s.latchedOnce t 0x0010 s.scr.frameCounter
  fault : t.aeu.faultRecord = some fault

theorem State.applyEntry_skipped {r : PostFields} {c : RefusalCode} {x : Frame} (index : Nat)
    (h : s.entryCode r = some c) (hx : s.msg.inHand = some x) :
    s.skipped (s.applyEntry index r) ⟨x.type, x.tag, c, some r.number, some index, s.now⟩ := by
  rw [State.applyEntry_of_refused index h hx]
  exact ⟨⟨by simp, by simp, by simp⟩, ⟨by simp, by simp⟩,
    State.latch_once (s := s.recordFault x c (some r.number) (some index)) 0x0010 s.now, by simp⟩

end Sys2Proof.Machine
end

section
/-! The entries of a batch in order: what they leave of the records, and what the batch comes to (R59, R60). -/

namespace Sys2Proof.Machine

variable {s : State}

/-! ### A record after some posts -/

theorem stateAfterPost_again (state : FieldState) (hold : Bool) :
    stateAfterPost (stateAfterPost state hold) hold = stateAfterPost state hold := by
  cases state <;> cases hold <;> rfl

theorem stateAfterPost_eq_retiring_iff (state : FieldState) (hold : Bool) :
    stateAfterPost state hold = .retiring ↔ state = .retiring := by
  cases state <;> cases hold <;> decide

/-- A record `g` that posts may have made of `f`: the parts that no post writes are as before, and one more post leaves the
state that one post of `f` leaves (R47 to R50). -/
structure Field.afterPosts (f g : Field) : Prop where
  rest : g = { f with
    value := g.value, lastPost := g.lastPost, zone := g.zone, alertLatched := g.alertLatched, state := g.state
    staleDeadline := g.staleDeadline }
  state : stateAfterPost g.state f.options.hold = stateAfterPost f.state f.options.hold

theorem Field.afterPosts_refl (f : Field) : f.afterPosts f := ⟨rfl, rfl⟩

theorem Field.afterPosts.format {f g : Field} (h : f.afterPosts g) : g.format = f.format := by rw [h.rest]

theorem Field.afterPosts.retiring_iff {f g : Field} (h : f.afterPosts g) : g.state = .retiring ↔ f.state = .retiring := by
  rw [← stateAfterPost_eq_retiring_iff g.state f.options.hold, h.state, stateAfterPost_eq_retiring_iff]

/-- The record after a further post, in the words of the record before all of them. -/
theorem Field.afterPosts.posted_eq {f g : Field} (h : f.afterPosts g) (v : Value) (n : FrameNo) :
    g.posted v n = { f with
      value := some v, lastPost := some n, zone := g.zoneAfter v, alertLatched := g.alertLatched || g.raises v
      state := stateAfterPost f.state f.options.hold
      staleDeadline := if stateAfterPost f.state f.options.hold = .live then ticksAfter n f.staleInterval else none } := by
  have hhold : g.options.hold = f.options.hold := by rw [h.rest]
  have hinterval : g.staleInterval = f.staleInterval := by rw [h.rest]
  rw [Field.posted, Field.revivedState_eq, hhold, h.state, hinterval]
  rw [h.rest]
  rfl

theorem Field.afterPosts.posted {f g : Field} (h : f.afterPosts g) (v : Value) (n : FrameNo) :
    f.afterPosts (g.posted v n) := by
  rw [h.posted_eq]
  exact ⟨rfl, stateAfterPost_again _ _⟩

theorem Field.afterPosts.zoneAfter_number {f g : Field} (h : f.afterPosts g) (v : Word) :
    g.zoneAfter (.number v) = zoneFor f.upper f.lower v := by
  rw [zoneFor_eq_zoneOf, h.rest]
  rfl

/-! ### The state between two entries -/

/-- What the entries of a batch leave for the next one: the records in use are those before the batch, posts apart. -/
structure State.afterEntries (s t : State) : Prop where
  records : ∀ n, Option.Rel Field.afterPosts (s.field? n) (t.field? n)
  scr : t.scr = s.scr
  line : s.leavesLine t

theorem State.afterEntries_refl (s : State) : s.afterEntries s where
  records n := by
    cases s.field? n with
    | none => exact .none
    | some f => exact .some f.afterPosts_refl
  scr := rfl
  line := ⟨rfl, rfl, s.lineKept_refl, rfl⟩

theorem State.afterEntries.exists_field? {t : State} {n : Nat} {g : Field} (h : s.afterEntries t)
    (hg : t.field? n = some g) : ∃ f, s.field? n = some f ∧ f.afterPosts g := by
  have hrel := h.records n
  rw [hg] at hrel
  cases hf : s.field? n with
  | none => rw [hf] at hrel; exact nomatch hrel
  | some f => rw [hf] at hrel; cases hrel with | some hfg => exact ⟨f, rfl, hfg⟩

/-- No entry changes how another is judged. -/
theorem State.afterEntries.entryCode_eq {t : State} (h : s.afterEntries t) (r : PostFields) :
    t.entryCode r = s.entryCode r := by
  have hrel := h.records r.number.toNat
  unfold State.entryCode
  generalize s.field? r.number.toNat = before at hrel
  generalize t.field? r.number.toNat = after at hrel
  cases hrel with
  | none => rfl
  | some hfg => simp only [hfg.retiring_iff, hfg.format]

theorem State.applyEntry_field?_of_accepted {r : PostFields} {f : Field} (index : Nat) (h : s.entryCode r = none)
    (hf : s.field? r.number.toNat = some f) :
    (s.applyEntry index r).field? r.number.toNat = some (f.posted (.number r.value) s.now) := by
  rw [State.applyEntry_of_accepted index h hf, State.field?, State.applyPost_fields, Store.find?_insert_self]

/-- An entry leaves every record but that of an accepted entry's own field. -/
theorem State.applyEntry_field?_of_other {r : PostFields} {x : Frame} {n : Nat} (index : Nat)
    (h : r.number.toNat = n → s.entryCode r ≠ none) (hx : s.msg.inHand = some x) :
    (s.applyEntry index r).field? n = s.field? n := by
  cases hc : s.entryCode r with
  | some c => rw [State.field?, (State.applyEntry_skipped index hc hx).blocks.1, State.field?]
  | none =>
    obtain ⟨-, f, hf, -⟩ := (State.entryCode_eq_none_iff r).1 hc
    rw [State.applyEntry_of_accepted index hc hf, State.field?, State.applyPost_fields,
      Store.find?_insert_ne fun hn => h hn.symm hc]
    rfl

theorem State.applyEntry_leavesLine (r : PostFields) (index : Nat) : s.leavesLine (s.applyEntry index r) := by
  unfold State.applyEntry BatchRun.entry
  split
  · unfold State.refuseEntry
    split
    · exact ⟨rfl, rfl, s.lineKept_refl, rfl⟩
    · exact ⟨by simp, by simp, by simp [State.lineKept], by simp⟩
  · exact State.applyPost_leavesLine _ _ _

theorem State.afterEntries.applyEntry {t : State} {x : Frame} (h : s.afterEntries t) (hx : s.msg.inHand = some x)
    (index : Nat) (r : PostFields) : s.afterEntries (t.applyEntry index r) where
  records n := by
    have hxt : t.msg.inHand = some x := by rw [h.line.msg, hx]
    by_cases hown : r.number.toNat = n ∧ t.entryCode r = none
    · obtain ⟨rfl, hc⟩ := hown
      obtain ⟨-, g, hg, -⟩ := (State.entryCode_eq_none_iff r).1 hc
      obtain ⟨f, hf, hfg⟩ := h.exists_field? hg
      rw [State.applyEntry_field?_of_accepted index hc hg, hf]
      exact .some (hfg.posted _ _)
    · rw [State.applyEntry_field?_of_other index (fun hn hc => hown ⟨hn, hc⟩) hxt]
      exact h.records n
  scr := by
    rw [← h.scr]
    have hxt : t.msg.inHand = some x := by rw [h.line.msg, hx]
    cases hc : t.entryCode r with
    | some c => exact (State.applyEntry_skipped index hc hxt).blocks.2.2
    | none =>
      obtain ⟨-, g, hg, -⟩ := (State.entryCode_eq_none_iff r).1 hc
      rw [State.applyEntry_of_accepted index hc hg, State.applyPost_scr]
  line := h.line.trans (State.applyEntry_leavesLine r index)

/-! ### The entries in order -/

/-- The state after some entries of a batch, the first of which has the given index. -/
def State.applyEntries (s : State) (index : Nat) : List PostFields → State
  | [] => s
  | r :: rest => (s.applyEntry index r).applyEntries (index + 1) rest

theorem State.applyEntries_append (s : State) (index : Nat) (l m : List PostFields) :
    s.applyEntries index (l ++ m) = (s.applyEntries index l).applyEntries (index + l.length) m := by
  induction l generalizing s index with
  | nil => rfl
  | cons r rest ih =>
    rw [List.cons_append, State.applyEntries, ih, State.applyEntries, List.length_cons]
    congr 1
    omega

/-- What one entry keeps, the entries of a batch keep. -/
theorem State.applyEntries_induction {motive : State → Prop} (index : Nat) (l : List PostFields) (hs : motive s)
    (hstep : ∀ t i, ∀ r ∈ l, motive t → motive (t.applyEntry i r)) : motive (s.applyEntries index l) := by
  induction l generalizing s index with
  | nil => exact hs
  | cons r rest ih =>
    exact ih _ (hstep _ _ _ List.mem_cons_self hs) fun t i q hq => hstep t i q (List.mem_cons_of_mem _ hq)

end Sys2Proof.Machine
end

section
/-! POST BATCH as one request (R58 to R60). -/

namespace Sys2Proof.Machine

variable {s : State} {x : Frame}

theorem State.afterEntries.applyEntries {t : State} (h : s.afterEntries t) (hx : s.msg.inHand = some x) (index : Nat)
    (l : List PostFields) : s.afterEntries (t.applyEntries index l) :=
  State.applyEntries_induction (motive := s.afterEntries) index l h fun _ i r _ ha => ha.applyEntry hx i r

/-- A record is as before where no entry of its field is accepted. -/
theorem State.afterEntries.field?_applyEntries {t : State} {n : Nat} {l : List PostFields} (h : s.afterEntries t)
    (hx : s.msg.inHand = some x) (index : Nat) (hl : ∀ q ∈ l, q.number.toNat = n → s.entryCode q ≠ none) :
    (t.applyEntries index l).field? n = t.field? n := by
  refine (State.applyEntries_induction (motive := fun a => s.afterEntries a ∧ a.field? n = t.field? n) index l ⟨h, rfl⟩
    fun a i r hr ⟨ha, hkept⟩ => ⟨ha.applyEntry hx i r, ?_⟩).2
  rw [State.applyEntry_field?_of_other i (fun hn => ha.entryCode_eq r ▸ hl r hr hn) (by rw [ha.line.msg, hx]), hkept]

/-- Accepted entries leave the fault record, and take no latch away (R152, R158). -/
theorem State.afterEntries.applyEntries_accepted {t : State} {l : List PostFields} (h : s.afterEntries t)
    (hx : s.msg.inHand = some x) (index : Nat) (hl : ∀ q ∈ l, s.entryCode q = none) :
    (t.applyEntries index l).aeu.faultRecord = t.aeu.faultRecord ∧
      ∀ k, t.aeu.latched.getLsbD k = true → (t.applyEntries index l).aeu.latched.getLsbD k = true := by
  refine (State.applyEntries_induction (motive := fun a => s.afterEntries a ∧ a.aeu.faultRecord = t.aeu.faultRecord ∧
    ∀ k, t.aeu.latched.getLsbD k = true → a.aeu.latched.getLsbD k = true) index l ⟨h, rfl, fun _ => id⟩
    fun a i r hr ⟨ha, hfault, hlatched⟩ => ⟨ha.applyEntry hx i r, ?_⟩).2
  have hc : a.entryCode r = none := ha.entryCode_eq r ▸ hl r hr
  obtain ⟨-, g, hg, -⟩ := (State.entryCode_eq_none_iff r).1 hc
  rw [State.applyEntry_of_accepted i hc hg, State.applyPost_faultRecord, (State.applyPost_inTurn ..).1]
  exact ⟨hfault, fun k hk => by rw [BitVec.getLsbD_or, hlatched k hk, Bool.true_or]⟩

/-- The last accepted entry of a field leaves its value there (R59). -/
theorem State.afterEntries.field?_of_last {t : State} {l : List PostFields} {r : PostFields} {f : Field}
    (h : s.afterEntries t) (hx : s.msg.inHand = some x) (index : Nat) (hr : s.entryCode r = none)
    (hf : s.field? r.number.toNat = some f)
    (hl : ∀ q ∈ l, q.number.toNat = r.number.toNat → s.entryCode q ≠ none) :
    ∃ g, f.afterPosts g ∧
      (t.applyEntries index (r :: l)).field? r.number.toNat = some (g.posted (.number r.value) s.now) := by
  have hc : t.entryCode r = none := h.entryCode_eq r ▸ hr
  obtain ⟨-, g, hg, -⟩ := (State.entryCode_eq_none_iff r).1 hc
  obtain ⟨f', hf', hfg⟩ := h.exists_field? hg
  obtain rfl := Option.some.inj (hf'.symm.trans hf)
  have hnow : t.now = s.now := by rw [State.now, h.scr, State.now]
  refine ⟨g, hfg, ?_⟩
  rw [State.applyEntries, (h.applyEntry hx index r).field?_applyEntries hx _ hl,
    State.applyEntry_field?_of_accepted index hc hg, hnow]

/-- The last refused entry leaves its fault record, and REFUSAL latched (R59, R158). -/
theorem State.afterEntries.fault_of_last {t : State} {l : List PostFields} {r : PostFields} {c : RefusalCode}
    (h : s.afterEntries t) (hx : s.msg.inHand = some x) (index : Nat) (hr : s.entryCode r = some c)
    (hl : ∀ q ∈ l, s.entryCode q = none) :
    (t.applyEntries index (r :: l)).aeu.faultRecord = some ⟨x.type, x.tag, c, some r.number, some index, s.now⟩ ∧
      (t.applyEntries index (r :: l)).aeu.latched.getLsbD 4 = true := by
  have hnow : t.now = s.now := by rw [State.now, h.scr, State.now]
  have hskipped := State.applyEntry_skipped index ((h.entryCode_eq r).trans hr) (x := x) (by rw [h.line.msg, hx])
  obtain ⟨hfault, hlatched⟩ := (h.applyEntry hx index r).applyEntries_accepted hx (index + 1) hl
  refine ⟨?_, hlatched 4 ?_⟩
  · rw [State.applyEntries, hfault, hskipped.fault, hnow]
  · rw [hskipped.latch.1, BitVec.getLsbD_or]
    exact Bool.or_true _

/-! ### The report (R60) -/

theorem BatchRun.entry_state (b : BatchRun) (index : Nat) (r : PostFields) :
    (b.entry index r).state = b.state.applyEntry index r := by
  unfold State.applyEntry BatchRun.entry
  dsimp only
  split <;> rfl

theorem BatchRun.entries_state (b : BatchRun) (index : Nat) (l : List PostFields) :
    (b.entries index l).state = b.state.applyEntries index l := by
  induction l generalizing b index with
  | nil => rfl
  | cons r rest ih => rw [BatchRun.entries, ih, BatchRun.entry_state, State.applyEntries]

theorem State.afterEntries.entry {b : BatchRun} (hb : s.afterEntries b.state) (hx : s.msg.inHand = some x) (index : Nat)
    (r : PostFields) : s.afterEntries (b.entry index r).state := by
  rw [BatchRun.entry_state]
  exact hb.applyEntry hx index r

theorem BatchRun.entries_accepted {b : BatchRun} (hb : s.afterEntries b.state) (hx : s.msg.inHand = some x) (index : Nat)
    (l : List PostFields) :
    (b.entries index l).accepted = b.accepted + (l.filter fun q => (s.entryCode q).isNone).length := by
  induction l generalizing b index with
  | nil => rfl
  | cons r rest ih =>
    rw [BatchRun.entries, ih (hb.entry hx index r)]
    cases hc : s.entryCode r with
    | none =>
      rw [BatchRun.entry_of_accepted index ((hb.entryCode_eq r).trans hc), List.filter_cons_of_pos (by simp [hc]),
        List.length_cons, Nat.add_right_comm, Nat.add_assoc]
    | some c =>
      rw [BatchRun.entry_of_refused index ((hb.entryCode_eq r).trans hc), List.filter_cons_of_neg (by simp [hc])]

theorem BatchRun.entries_firstRefused_of_accepted {b : BatchRun} (hb : s.afterEntries b.state)
    (hx : s.msg.inHand = some x) (index : Nat) {l : List PostFields} (hl : ∀ q ∈ l, s.entryCode q = none) :
    (b.entries index l).firstRefused = b.firstRefused := by
  induction l generalizing b index with
  | nil => rfl
  | cons r rest ih =>
    obtain ⟨hr, hrest⟩ := List.forall_mem_cons.1 hl
    have hc : b.state.entryCode r = none := (hb.entryCode_eq r).trans hr
    rw [BatchRun.entries, ih (hb.entry hx index r) _ hrest, BatchRun.entry_of_accepted index hc]

theorem BatchRun.entry_firstRefused_of_some {b : BatchRun} {p : Nat × RefusalCode} (h : b.firstRefused = some p)
    (index : Nat) (r : PostFields) : (b.entry index r).firstRefused = some p := by
  unfold BatchRun.entry
  split <;> simp [h]

theorem BatchRun.entries_firstRefused_of_some {b : BatchRun} {p : Nat × RefusalCode} (h : b.firstRefused = some p)
    (index : Nat) (l : List PostFields) : (b.entries index l).firstRefused = some p := by
  induction l generalizing b index with
  | nil => exact h
  | cons r rest ih => exact ih (BatchRun.entry_firstRefused_of_some h index r) _

/-- The first refusal stands, with its index, whatever follows it. -/
theorem BatchRun.entries_firstRefused_of_first {b : BatchRun} (hb : s.afterEntries b.state) (hx : s.msg.inHand = some x)
    (hnone : b.firstRefused = none) (index : Nat) {before after : List PostFields} {r : PostFields} {c : RefusalCode}
    (hr : s.entryCode r = some c) (hbefore : ∀ q ∈ before, s.entryCode q = none) :
    (b.entries index (before ++ r :: after)).firstRefused = some (index + before.length, c) := by
  induction before generalizing b index with
  | nil =>
    rw [List.nil_append, BatchRun.entries]
    refine BatchRun.entries_firstRefused_of_some ?_ _ _
    rw [BatchRun.entry_of_refused index ((hb.entryCode_eq r).trans hr), hnone]
    rfl
  | cons q rest ih =>
    obtain ⟨hq, hrest⟩ := List.forall_mem_cons.1 hbefore
    have hc : b.state.entryCode q = none := (hb.entryCode_eq q).trans hq
    rw [List.cons_append, BatchRun.entries,
      ih (hb.entry hx index q) (by rw [BatchRun.entry_of_accepted index hc, hnone]) _ hrest, List.length_cons]
    congr 2
    omega

/-- The run of a whole batch. -/
def State.batchRun (s : State) (entries : List PostFields) : BatchRun := (BatchRun.mk s 0 none).entries 0 entries

theorem State.postBatch_eq (s : State) (entries : List PostFields) :
    s.postBatch entries = (s.applyEntries 0 entries).answer (s.batchRun entries).report := by
  rw [State.postBatch, State.batchRun, BatchRun.entries_state]

theorem State.batchRun_report_of_accepted (hx : s.msg.inHand = some x) {entries : List PostFields}
    (h : ∀ q ∈ entries, s.entryCode q = none) :
    (s.batchRun entries).report = [BitVec.ofNat 8 entries.length, 0xFF, 0x00] := by
  have hfirst := BatchRun.entries_firstRefused_of_accepted (b := ⟨s, 0, none⟩) s.afterEntries_refl hx 0 h
  have haccepted := BatchRun.entries_accepted (b := ⟨s, 0, none⟩) s.afterEntries_refl hx 0 entries
  have hall : entries.filter (fun q => (s.entryCode q).isNone) = entries :=
    List.filter_eq_self.2 fun q hq => by rw [h q hq]; rfl
  rw [BatchRun.report, State.batchRun, hfirst, haccepted, hall, Nat.zero_add]
  rfl

theorem State.batchRun_report_of_first (hx : s.msg.inHand = some x) {before after : List PostFields} {r : PostFields}
    {c : RefusalCode} (hr : s.entryCode r = some c) (hbefore : ∀ q ∈ before, s.entryCode q = none) :
    (s.batchRun (before ++ r :: after)).report =
      [BitVec.ofNat 8 ((before ++ r :: after).filter fun q => (s.entryCode q).isNone).length,
        BitVec.ofNat 8 before.length, c.code] := by
  have hfirst := BatchRun.entries_firstRefused_of_first (b := ⟨s, 0, none⟩) (after := after) s.afterEntries_refl hx rfl 0
    hr hbefore
  have haccepted := BatchRun.entries_accepted (b := ⟨s, 0, none⟩) s.afterEntries_refl hx 0 (before ++ r :: after)
  rw [BatchRun.report, State.batchRun, hfirst, haccepted, Nat.zero_add, Nat.zero_add]
  rfl

end Sys2Proof.Machine
end

section
/-! The batch as the statement of R58 to R60 says it: the states between its entries, and the whole. -/

namespace Sys2Proof.Machine

variable {s : State} {x : Frame}

/-- The states between the entries of a batch, from the one before the first entry to the one after the last. -/
def State.batchStates (s : State) (entries : List PostFields) : List State :=
  (List.range (entries.length + 1)).map fun i => s.applyEntries 0 (entries.take i)

theorem State.batchStates_length (s : State) (entries : List PostFields) :
    (s.batchStates entries).length = entries.length + 1 := by simp [State.batchStates]

theorem State.eq_of_batchStates_getElem? {entries : List PostFields} {i : Nat} {a : State}
    (h : (s.batchStates entries)[i]? = some a) : a = s.applyEntries 0 (entries.take i) := by
  obtain ⟨hi, ha⟩ := List.getElem?_eq_some_iff.1 h
  subst ha
  simp [State.batchStates]

theorem State.applyEntries_take_succ {entries : List PostFields} {i : Nat} {r : PostFields} (h : entries[i]? = some r) :
    s.applyEntries 0 (entries.take (i + 1)) = (s.applyEntries 0 (entries.take i)).applyEntry i r := by
  obtain ⟨hi, -⟩ := List.getElem?_eq_some_iff.1 h
  rw [List.take_add_one, h, Option.toList_some, State.applyEntries_append, List.length_take, Nat.zero_add,
    Nat.min_eq_left hi.le]
  rfl

/-- From entry to entry: an accepted one is a post, and a refused one is skipped (R59). -/
theorem State.afterEntries.applyEntry_posted {t : State} {r : PostFields} {f : Field} (h : s.afterEntries t) (index : Nat)
    (hr : s.entryCode r = none) (hf : t.field? r.number.toNat = some f) :
    t.postedAs (t.applyEntry index r) r.number.toNat f (.number r.value) (zoneFor f.upper f.lower r.value) := by
  rw [State.applyEntry_of_accepted index ((h.entryCode_eq r).trans hr) hf, zoneFor_eq_zoneOf]
  exact t.applyPost_postedAs r.number.toNat f (.number r.value)

/-- The reply of a batch, whatever its report. -/
theorem State.postBatch_answered {c : Instr} {report : List Byte} {entries : List PostFields} (h : s.ready c = true)
    (hreport : ((s.take x).batchRun entries).report = report) :
    s.answered ((s.take x).postBatch entries) (x.type + 0x80) x.tag report := by
  rw [State.postBatch_eq, hreport]
  exact State.answered_of_leavesLine report h ((State.afterEntries_refl _).applyEntries rfl 0 entries).line

/-- Settles O33: a batch runs `applyEntry` over its entries in order, and each is judged as it would be before the batch. -/
theorem postBatchAppliesEntries : Obligations.PostBatchAppliesEntries := by
  intro s tag entries _ hready code
  have hcode : code = (s.take (goodFrame 0x19 tag (batchBytes entries))).entryCode := rfl
  clear_value code
  subst hcode
  have hexec := State.exec_of_ready (exec_postBatch tag (.fields entries) s) rfl hready
  have hframe : (Carried.fields entries).payload batchBytes = batchBytes entries := rfl
  rw [hframe] at hexec
  have htype : (goodFrame 0x19 tag (batchBytes entries)).type = 0x19 := rfl
  have htag : (goodFrame 0x19 tag (batchBytes entries)).tag = tag := rfl
  generalize goodFrame 0x19 tag (batchBytes entries) = x at *
  have hu : (s.take x).msg.inHand = some x := rfl
  have hstart := (s.take x).afterEntries_refl
  have hanswer : (s.take x).postBatch entries = ((s.take x).applyEntries 0 entries).answer _ :=
    (s.take x).postBatch_eq entries
  refine ⟨_, hexec, ?_, ?_, ?_, ?_, ?_, ?_, ?_, (s.take x).batchStates entries, State.batchStates_length _ _, ?_, ?_, ?_⟩
  · rw [hanswer, State.answer_scr]
    exact (hstart.applyEntries hu 0 entries).scr
  · rintro before r after c rfl hr hbefore
    have hreport := State.postBatch_answered hready (State.batchRun_report_of_first hu (after := after) hr hbefore)
    rwa [htype, htag] at hreport
  · intro hall
    have hreport := State.postBatch_answered hready (State.batchRun_report_of_accepted hu hall)
    rwa [htype, htag] at hreport
  · intro n hn
    rw [hanswer, State.answer_field?, hstart.field?_applyEntries hu 0 hn, State.take_field?]
  · rintro before r after f rfl hr hafter hf
    obtain ⟨g, hfg, hg⟩ := (hstart.applyEntries hu 0 before).field?_of_last hu (0 + before.length) hr hf hafter
    rw [← State.applyEntries_append] at hg
    refine ⟨_, by rw [hanswer, State.answer_field?, hg], rfl, rfl, hfg.zoneAfter_number r.value, ?_⟩
    rw [hfg.posted_eq]
    rfl
  · rintro before r after c rfl hr hafter
    have hfault := (hstart.applyEntries hu 0 before).fault_of_last hu (0 + before.length) hr hafter
    rw [← State.applyEntries_append, htype, htag, Nat.zero_add] at hfault
    rw [hanswer, State.answer_aeu]
    exact hfault
  · intro hall
    rw [hanswer, State.answer_aeu]
    exact (hstart.applyEntries_accepted hu 0 hall).1
  · intro a ha
    rw [State.eq_of_batchStates_getElem? ha]
    exact ⟨⟨rfl, rfl, rfl⟩, rfl, s.take_notice x⟩
  · intro a ha
    rw [State.eq_of_batchStates_getElem? ha, List.take_length, hanswer]
    exact ⟨⟨State.answer_fields _ _, State.answer_pnt _ _, State.answer_scr _ _⟩, State.answer_aeu _ _,
      State.answer_notice _ _⟩
  · intro i r a b hi ha hb
    obtain rfl := State.eq_of_batchStates_getElem? ha
    obtain rfl := (State.eq_of_batchStates_getElem? hb).trans (State.applyEntries_take_succ hi)
    have hbetween := hstart.applyEntries hu 0 (entries.take i)
    refine ⟨fun f hr hf => hbetween.applyEntry_posted i hr hf, fun c hr => ?_⟩
    obtain ⟨hblocks, hlists, hlatch, hfault⟩ := State.applyEntry_skipped i ((hbetween.entryCode_eq r).trans hr)
      (hbetween.line.msg ▸ hu)
    rw [State.now, hbetween.scr, htype, htag] at hfault
    rw [hbetween.scr] at hlatch
    exact ⟨hblocks, hlists, hlatch, hfault⟩

end Sys2Proof.Machine
end

section
/-! The pool of render slots (R73): what giving up, freeing and filling a slot leave of its law. -/

namespace Sys2Proof.Machine

/-! ### The law of the pool -/

/-- What R73 says of the pool by itself: at most 32 slots, each with the field part that its content asks for, one FILLING at
most, and no field with two. -/
structure slotsLaw (l : List (Nat × Slot)) : Prop where
  rising : Store.rising l = true
  each : ∀ e ∈ l, e.1 < 32 ∧ e.2.belongs
  filling : (l.filter fun e => e.2.content.isFilling).length ≤ 1
  owners : (l.filterMap fun e => e.2.field).Nodup

/-- The cells that a slot holds, or that the render in flight is to write (R73, R76). -/
def SlotContent.width : SlotContent → Nat
  | .filling inputs _ => inputs.record.width
  | .ready r => r.cells.length

@[simp] theorem SlotContent.isFilling_filling (inputs : RenderInputs) (discard : Bool) :
    (SlotContent.filling inputs discard).isFilling = true := rfl

@[simp] theorem SlotContent.isFilling_ready (r : Rendered) : (SlotContent.ready r).isFilling = false := rfl

/-- A slot's field is in use and visible, and as wide as the slot's cells are many (R73, R76). -/
def State.slotFits (s : State) (slot : Slot) : Prop :=
  ∀ n, slot.field = some n → ∃ f, s.field? n = some f ∧ s.shows f = true ∧ slot.content.width = f.width

/-- The laws of the slots are those of the pool by itself and of each slot's field. -/
theorem State.slotLaw_and_cellsLaw_iff (s : State) :
    s.slotLaw ∧ s.cellsLaw ↔ slotsLaw s.pnt.slots ∧ ∀ e ∈ s.pnt.slots, s.slotFits e.2 := by
  have hcells : s.cellsLaw ↔
      ∀ e ∈ s.pnt.slots, ∀ n f, e.2.field = some n → s.field? n = some f → e.2.content.width = f.width := by
    unfold State.cellsLaw
    refine forall₂_congr fun e _ => forall₂_congr fun n f => ?_
    cases e.2.content <;> rfl
  rw [hcells]
  constructor
  · rintro ⟨⟨hrising, heach, hfilling, howners, hscreen⟩, hwidth⟩
    refine ⟨⟨hrising, heach, hfilling, howners⟩, fun e he n hn => ?_⟩
    obtain ⟨f, hf, hv⟩ := hscreen e he n hn
    exact ⟨f, hf, hv, hwidth e he n f hn hf⟩
  · rintro ⟨⟨hrising, heach, hfilling, howners⟩, hfits⟩
    refine ⟨⟨hrising, heach, hfilling, howners, fun e he n hn => ?_⟩, fun e he n f hn hf => ?_⟩
    · obtain ⟨f, hf, hv, -⟩ := hfits e he n hn
      exact ⟨f, hf, hv⟩
    · obtain ⟨g, hg, -, hw⟩ := hfits e he n hn
      obtain rfl := Option.some.inj (hg.symm.trans hf)
      exact hw

theorem eq_of_nodup_filterMap {α β : Type} {g : α → Option β} {l : List α} (h : (l.filterMap g).Nodup) {a b : α} {x : β}
    (ha : a ∈ l) (hb : b ∈ l) (hga : g a = some x) (hgb : g b = some x) : a = b := by
  have hnotin : ∀ c rest, (List.filterMap g (c :: rest)).Nodup → g c = some x → ∀ d ∈ rest, g d ≠ some x := by
    intro c rest hnodup hgc d hd hgd
    rw [List.filterMap_cons_some hgc, List.nodup_cons] at hnodup
    exact hnodup.1 (List.mem_filterMap.2 ⟨d, hd, hgd⟩)
  induction l with
  | nil => exact nomatch ha
  | cons c rest ih =>
    rcases List.mem_cons.1 ha with rfl | ha' <;> rcases List.mem_cons.1 hb with rfl | hb'
    · rfl
    · exact absurd hgb (hnotin _ rest h hga b hb')
    · exact absurd hga (hnotin _ rest h hgb a ha')
    · exact ih (h.sublist ((List.sublist_cons_self c rest).filterMap g)) ha' hb'

/-- No field holds two slots. -/
theorem slotsLaw.owner_unique {l : List (Nat × Slot)} (h : slotsLaw l) {e d : Nat × Slot} {n : Nat} (he : e ∈ l)
    (hd : d ∈ l) (hen : e.2.field = some n) (hdn : d.2.field = some n) : e = d :=
  eq_of_nodup_filterMap (g := fun e : Nat × Slot => e.2.field) h.owners he hd hen hdn

/-! ### Slots that become FREE -/

theorem Store.erase_sublist {α : Type} (k : Nat) (l : List (Nat × α)) : (Store.erase k l).Sublist l := by
  induction l with
  | nil => exact .slnil
  | cons d rest ih =>
    unfold Store.erase
    split
    · exact List.sublist_cons_self _ _
    · exact ih.cons_cons _

theorem Store.rising_sublist {α : Type} {l m : List (Nat × α)} (h : l.Sublist m) (hm : Store.rising m = true) :
    Store.rising l = true := by
  induction h with
  | slnil => rfl
  | cons d _ ih => exact ih ((Store.rising_cons _ _).1 hm).2
  | cons_cons d hsub ih =>
    obtain ⟨hfirst, hrest⟩ := (Store.rising_cons _ _).1 hm
    exact (Store.rising_cons _ _).2 ⟨fun e he => hfirst e (hsub.subset he), ih hrest⟩

theorem slotsLaw.sublist {l m : List (Nat × Slot)} (h : slotsLaw m) (hsub : l.Sublist m) : slotsLaw l where
  rising := Store.rising_sublist hsub h.rising
  each e he := h.each e (hsub.subset he)
  filling := (hsub.filter _).length_le.trans h.filling
  owners := h.owners.sublist (hsub.filterMap _)

/-! ### Slots that are given up (R74, R79) -/

/-- What stands in a pool after some slots are given up: a slot that none of it concerns, or a FILLING one marked discard. -/
theorem mem_abandonSlots {concerns : Slot → Bool} {l : List (Nat × Slot)} {e : Nat × Slot}
    (he : e ∈ abandonSlots concerns l) :
    (e ∈ l ∧ concerns e.2 = false) ∨
      ∃ d ∈ l, d.1 = e.1 ∧ ∃ inputs discard, d.2.content = .filling inputs discard ∧ e.2 = ⟨none, .filling inputs true⟩ := by
  induction l with
  | nil => exact nomatch he
  | cons d rest ih =>
    have hrest : e ∈ abandonSlots concerns rest →
        (e ∈ d :: rest ∧ concerns e.2 = false) ∨
          ∃ c ∈ d :: rest, c.1 = e.1 ∧ ∃ inputs discard, c.2.content = .filling inputs discard ∧
            e.2 = ⟨none, .filling inputs true⟩ := fun hmem =>
      (ih hmem).imp (fun ⟨h, hc⟩ => ⟨List.mem_cons_of_mem _ h, hc⟩)
        fun ⟨c, hc, h⟩ => ⟨c, List.mem_cons_of_mem _ hc, h⟩
    obtain ⟨k, slot⟩ := d
    unfold abandonSlots at he
    split at he
    · split at he
      · exact hrest he
      · rename_i inputs discard hcontent
        rcases List.mem_cons.1 he with rfl | he
        · exact .inr ⟨(k, slot), List.mem_cons_self, rfl, inputs, discard, hcontent, rfl⟩
        · exact hrest he
    · rcases List.mem_cons.1 he with rfl | he
      · exact .inl ⟨List.mem_cons_self, by simpa using ‹¬concerns slot = true›⟩
      · exact hrest he

theorem abandonSlots_rising (concerns : Slot → Bool) {l : List (Nat × Slot)} (h : Store.rising l = true) :
    Store.rising (abandonSlots concerns l) = true := by
  induction l with
  | nil => rfl
  | cons d rest ih =>
    obtain ⟨k, slot⟩ := d
    obtain ⟨hfirst, hrest⟩ := (Store.rising_cons _ _).1 h
    have hkeys : ∀ e ∈ abandonSlots concerns rest, k < e.1 := by
      intro e he
      rcases mem_abandonSlots he with ⟨he, -⟩ | ⟨c, hc, hk, -⟩
      · exact hfirst e he
      · exact hk ▸ hfirst c hc
    unfold abandonSlots
    split
    · split
      · exact ih hrest
      · exact (Store.rising_cons _ _).2 ⟨hkeys, ih hrest⟩
    · exact (Store.rising_cons _ _).2 ⟨hkeys, ih hrest⟩

/-- Giving slots up starts and ends no render. -/
theorem abandonSlots_filling_length (concerns : Slot → Bool) (l : List (Nat × Slot)) :
    ((abandonSlots concerns l).filter fun e => e.2.content.isFilling).length =
      (l.filter fun e => e.2.content.isFilling).length := by
  induction l with
  | nil => rfl
  | cons d rest ih =>
    obtain ⟨k, slot⟩ := d
    cases hc : concerns slot <;> cases hs : slot.content <;>
      simp [abandonSlots, hc, hs, List.filter_cons, ih]

theorem abandonSlots_owners_sublist (concerns : Slot → Bool) (l : List (Nat × Slot)) :
    ((abandonSlots concerns l).filterMap fun e => e.2.field).Sublist (l.filterMap fun e => e.2.field) := by
  induction l with
  | nil => exact .slnil
  | cons d rest ih =>
    obtain ⟨k, slot⟩ := d
    have hskip : (rest.filterMap fun e => e.2.field).Sublist (((k, slot) :: rest).filterMap fun e => e.2.field) :=
      (List.sublist_cons_self _ _).filterMap _
    unfold abandonSlots
    split
    · split
      · exact ih.trans hskip
      · exact ih.trans hskip
    · cases hf : slot.field with
      | none => simpa [hf] using ih
      | some n => simpa [hf] using ih

theorem slotsLaw.abandon {l : List (Nat × Slot)} (h : slotsLaw l) (concerns : Slot → Bool) :
    slotsLaw (abandonSlots concerns l) where
  rising := abandonSlots_rising concerns h.rising
  each e he := by
    rcases mem_abandonSlots he with ⟨he, -⟩ | ⟨d, hd, hk, inputs, discard, -, heq⟩
    · exact h.each e he
    · exact ⟨hk ▸ (h.each d hd).1, by rw [heq]; rfl⟩
  filling := (abandonSlots_filling_length concerns l).trans_le h.filling
  owners := h.owners.sublist (abandonSlots_owners_sublist concerns l)

/-! ### A slot that is written -/

theorem Store.insert_perm {α : Type} (k : Nat) (v : α) {l : List (Nat × α)} (h : Store.rising l = true) :
    (Store.insert k v l).Perm ((k, v) :: Store.erase k l) := by
  induction l with
  | nil => exact .refl _
  | cons d rest ih =>
    obtain ⟨j, w⟩ := d
    obtain ⟨hfirst, hrest⟩ := (Store.rising_cons _ _).1 h
    rcases Nat.lt_trichotomy k j with hlt | rfl | hgt
    · have hne : j ≠ k := by omega
      have hsame : Store.erase k rest = rest := by
        have hno : ∀ e ∈ rest, e.1 ≠ k := fun e he => by have := hfirst e he; simp only at this; omega
        clear ih h hfirst hrest
        induction rest with
        | nil => rfl
        | cons e more ih =>
          rw [List.forall_mem_cons] at hno
          rw [Store.erase, if_neg hno.1, ih hno.2]
      simp [Store.insert, Store.erase, hlt, hne, hsame]
    · simp [Store.insert, Store.erase]
    · have hne : j ≠ k := by omega
      have hnlt : ¬k < j := by omega
      simp only [Store.insert, Store.erase, hne, hnlt, if_false]
      exact ((ih hrest).cons _).trans (.swap _ _ _)

/-- A field's render is written to a slot: the pool keeps its law where no other slot is the field's, and where a FILLING
content finds no other. -/
theorem slotsLaw.insert {l : List (Nat × Slot)} (h : slotsLaw l) {k n : Nat} {content : SlotContent} (hk : k < 32)
    (hown : ∀ e ∈ l, e.2.field = some n → e.1 = k) (hbelongs : Slot.belongs ⟨some n, content⟩)
    (hfilling : content.isFilling = true → ∀ e ∈ l, e.2.content.isFilling = false) :
    slotsLaw (Store.insert k ⟨some n, content⟩ l) := by
  have hperm := Store.insert_perm k (⟨some n, content⟩ : Slot) h.rising
  have herased := h.sublist (Store.erase_sublist k l)
  refine ⟨Store.rising_insert _ _ h.rising, fun e he => ?_, ?_, ?_⟩
  · rcases Store.mem_insert he with rfl | he
    · exact ⟨hk, hbelongs⟩
    · exact h.each e he
  · rw [(hperm.filter _).length_eq]
    cases hc : content.isFilling with
    | false => simpa [List.filter_cons, hc] using herased.filling
    | true =>
      have hnone : (Store.erase k l).filter (fun e => e.2.content.isFilling) = [] :=
        List.filter_eq_nil_iff.2 fun e he => by simp [hfilling hc e (Store.mem_erase he)]
      simp [hc, hnone]
  · rw [(hperm.filterMap _).nodup_iff]
    change (n :: (Store.erase k l).filterMap fun e => e.2.field).Nodup
    refine List.nodup_cons.2 ⟨fun hmem => ?_, herased.owners⟩
    obtain ⟨e, he, hn⟩ := List.mem_filterMap.1 hmem
    exact Store.ne_of_mem_erase h.rising he (hown e (Store.mem_erase he) hn)

end Sys2Proof.Machine
end

section
/-! The paint queue (R65 to R71): what one request and one removal do to it. -/

namespace Sys2Proof.Machine

variable (s : State)

theorem State.mem_scanOrder_iff (n : Nat) :
    n ∈ s.scanOrder ↔ n ∈ s.pnt.urgent ∨ n ∈ s.pnt.routine.map RoutineEntry.field := List.mem_append

theorem State.length_scanOrder : s.scanOrder.length = s.queuedTotal := by simp [State.scanOrder, State.queuedTotal]

theorem Paint.eq_of_parts {p q : Paint} (hurgent : p.urgent = q.urgent) (hroutine : p.routine = q.routine)
    (hslots : p.slots = q.slots) (hage : p.ageLimit = q.ageLimit) (hthreshold : p.lagThreshold = q.lagThreshold)
    (hlagging : p.lagging = q.lagging) : p = q := by
  cases p
  cases q
  simp_all

/-! ### A request (R66) -/

/-- PNT after a request of an URGENT cause or class for a field in ROUTINE. -/
def Paint.promote (p : Paint) (n : Nat) : Paint :=
  { p with urgent := p.urgent ++ [n], routine := p.routine.filter fun e => e.field != n }

/-- PNT after a request for a field that is not in the queue: its entry, and LAGGING judged (R71). -/
def Paint.append (p : Paint) (n : Nat) (urgent : Bool) : Paint :=
  { p with
    urgent := if urgent then p.urgent ++ [n] else p.urgent
    routine := if urgent then p.routine else p.routine ++ [⟨n, 0⟩]
    lagging := lagAfter p.lagging p.lagThreshold (p.urgent.length + p.routine.length + 1) }

/-- What a request leaves of PNT, with what is then known of the field (R66). -/
theorem State.enqueue_pnt_cases (n : Nat) (u : Bool) :
    ((s.enqueue n u).pnt = s.pnt ∧
      ∀ f, s.field? n = some f → s.shows f = true →
        n ∈ s.pnt.urgent ∨ n ∈ s.pnt.routine.map RoutineEntry.field ∧ f.options.urgent = false) ∨
    (∃ f, s.field? n = some f ∧ s.shows f = true ∧ n ∉ s.pnt.urgent ∧
      ((n ∈ s.pnt.routine.map RoutineEntry.field ∧ (u || f.options.urgent) = true ∧
          (s.enqueue n u).pnt = s.pnt.promote n) ∨
        (n ∉ s.pnt.routine.map RoutineEntry.field ∧
          (s.enqueue n u).pnt = s.pnt.append n (u || f.options.urgent)))) := by
  cases hf : s.field? n with
  | none => exact .inl ⟨by rw [State.enqueue_of_free u hf], fun g hg => nomatch hg⟩
  | some f =>
    obtain ⟨hslots, hage, hthreshold, hlists⟩ := State.enqueue_enqueued u hf
    by_cases hstays : s.shows f = false ∨ n ∈ s.pnt.urgent
    · rw [if_pos hstays] at hlists
      refine .inl ⟨hlists, fun g hg hv => .inl (hstays.resolve_left fun hno => ?_)⟩
      obtain rfl := Option.some.inj hg
      exact absurd hv (by simp [hno])
    · obtain ⟨hv, hu⟩ := not_or.1 hstays
      rw [if_neg hstays] at hlists
      by_cases hr : n ∈ s.pnt.routine.map RoutineEntry.field
      · rw [if_pos hr] at hlists
        cases hc : (u || f.options.urgent) with
        | false =>
          rw [hc] at hlists
          refine .inl ⟨hlists, fun g hg _ => .inr ⟨hr, ?_⟩⟩
          obtain rfl := Option.some.inj hg
          exact (Bool.or_eq_false_iff.1 hc).2
        | true =>
          rw [hc] at hlists
          obtain ⟨ku, kr, kl⟩ := hlists
          refine .inr ⟨f, rfl, by simpa using hv, hu, .inl ⟨hr, hc, ?_⟩⟩
          exact Paint.eq_of_parts ku kr hslots hage hthreshold kl
      · rw [if_neg hr] at hlists
        obtain ⟨klists, kl⟩ := hlists
        refine .inr ⟨f, rfl, by simpa using hv, hu, .inr ⟨hr, ?_⟩⟩
        cases hc : (u || f.options.urgent) <;> rw [hc] at klists <;> obtain ⟨ku, kr⟩ := klists <;>
          exact Paint.eq_of_parts ku kr hslots hage hthreshold kl

/-! ### The queue as a whole (R65, R71) -/

theorem perm_cons_filter_ne {l : List Nat} {n : Nat} (h : l.Nodup) (hn : n ∈ l) :
    l.Perm (n :: l.filter fun m => m != n) := by
  rw [← h.erase_eq_filter]
  exact List.perm_cons_erase hn

theorem map_field_filter_ne (l : List RoutineEntry) (n : Nat) :
    (l.filter fun e => e.field != n).map RoutineEntry.field = (l.map RoutineEntry.field).filter fun m => m != n := by
  rw [List.filter_map]; rfl

variable {s}

/-- LAGGING judged on the total as it stands afterwards obeys its law (R71). -/
theorem State.lagLaw_of_judged {t : State} {lagging : Bool} (hlow : 1 ≤ t.pnt.lagThreshold)
    (h : t.pnt.lagging = lagAfter lagging t.pnt.lagThreshold t.queuedTotal) : t.lagLaw :=
  ⟨hlow, by rw [h, lagAfter_again _ _ _ hlow]⟩

/-- A request leaves the fields of the queue and LAGGING as they are, or adds its own field and judges LAGGING (R66, R71). -/
theorem State.enqueue_scan_cases (h : s.scanOrder.Nodup) (n : Nat) (u : Bool) :
    ((s.enqueue n u).scanOrder.Perm s.scanOrder ∧ (s.enqueue n u).pnt.lagging = s.pnt.lagging ∧
        (s.onScreen n → n ∈ s.scanOrder)) ∨
      (n ∉ s.scanOrder ∧ s.onScreen n ∧ (s.enqueue n u).scanOrder.Perm (n :: s.scanOrder) ∧
        (s.enqueue n u).pnt.lagging =
          lagAfter s.pnt.lagging s.pnt.lagThreshold (s.enqueue n u).queuedTotal) := by
  have hscan : ∀ t : State, t.scanOrder = t.pnt.urgent ++ t.pnt.routine.map RoutineEntry.field := fun _ => rfl
  rcases s.enqueue_pnt_cases n u with ⟨hpnt, hin⟩ | ⟨f, hf, hv, hu, ⟨hr, -, hpnt⟩ | ⟨hr, hpnt⟩⟩
  · refine .inl ⟨by rw [hscan, hscan, hpnt], by rw [hpnt], fun ⟨f, hf, hv⟩ => ?_⟩
    exact (s.mem_scanOrder_iff n).2 ((hin f hf hv).imp id And.left)
  · refine .inl ⟨?_, by rw [hpnt]; rfl, fun _ => (s.mem_scanOrder_iff n).2 (.inr hr)⟩
    have hroutine := perm_cons_filter_ne (h.sublist (List.sublist_append_right _ _)) hr
    rw [hscan, hscan, hpnt, Paint.promote, map_field_filter_ne, List.append_assoc]
    exact (hroutine.symm).append_left _
  · have hout : n ∉ s.scanOrder := fun hmem => ((s.mem_scanOrder_iff n).1 hmem).elim hu hr
    have hperm : (s.enqueue n u).scanOrder.Perm (n :: s.scanOrder) := by
      rw [hscan, hscan, hpnt, Paint.append]
      cases u || f.options.urgent
      · simpa using (List.perm_append_comm (l₁ := s.pnt.urgent ++ s.pnt.routine.map RoutineEntry.field) (l₂ := [n]))
      · simp [List.perm_middle]
    refine .inr ⟨hout, ⟨f, hf, hv⟩, hperm, ?_⟩
    have htotal : (s.enqueue n u).queuedTotal = s.pnt.urgent.length + s.pnt.routine.length + 1 := by
      rw [← State.length_scanOrder, hperm.length_eq, List.length_cons, State.length_scanOrder, State.queuedTotal]
    rw [htotal, hpnt, Paint.append]

/-- The queue after a field's entry is taken off it. -/
theorem State.removeEntry_scanOrder (n : Nat) (at_ : FrameNo) :
    (s.removeEntry n at_).scanOrder = s.scanOrder.filter fun m => m != n := by
  obtain ⟨hurgent, hroutine, -⟩ := s.removeEntry_dequeued n at_
  rw [State.scanOrder, hurgent, hroutine, map_field_filter_ne, ← List.filter_append, State.scanOrder]

theorem State.removeEntry_lagLaw (n : Nat) (at_ : FrameNo) (h : s.lagLaw) : (s.removeEntry n at_).lagLaw := by
  obtain ⟨-, -, -, hthreshold, hlagging⟩ := s.removeEntry_dequeued n at_
  by_cases hn : n ∈ s.scanOrder
  · rw [if_pos hn, ← hthreshold] at hlagging
    exact State.lagLaw_of_judged (by simpa using h.1) hlagging
  · rw [if_neg hn] at hlagging
    have hscan : (s.removeEntry n at_).scanOrder = s.scanOrder := by
      rw [State.removeEntry_scanOrder, List.filter_eq_self.2]
      exact fun m hm => bne_iff_ne.2 fun hmn => hn (hmn ▸ hm)
    refine ⟨by simpa using h.1, ?_⟩
    rw [hlagging, hthreshold, ← State.length_scanOrder, hscan, State.length_scanOrder]
    exact h.2

end Sys2Proof.Machine
end

section
/-! The laws of PNT as one statement about a change of state (R65, R66, R71, R73). -/

namespace Sys2Proof.Machine

/-! ### The laws -/

/-- The laws of the queue and of the slots with their cells (R65, R73). -/
structure State.paintLaw (s : State) : Prop where
  queue : s.queueLaw
  slots : slotsLaw s.pnt.slots
  fits : ∀ e ∈ s.pnt.slots, s.slotFits e.2

/-- The law of LAGGING, with thresholds in their range: the one in effect, and the one that a CONFIGURE DISPLAY waits with (R71,
R72, R114). -/
structure State.thresholdLaw (s : State) : Prop where
  lag : s.lagLaw
  waiting : ∀ c, s.msg.pendingConfigure = some c → 1 ≤ c.lagThreshold

/-- A change of state that keeps the laws of PNT. -/
structure State.keepsPaintLaws (s t : State) : Prop where
  laws : s.paintLaw → t.paintLaw
  routine : s.paintLaw → s.routineLaw → t.routineLaw
  threshold : s.paintLaw → s.thresholdLaw → t.thresholdLaw

theorem State.keepsPaintLaws.trans {s t u : State} (h : s.keepsPaintLaws t) (k : t.keepsPaintLaws u) :
    s.keepsPaintLaws u :=
  ⟨fun a => k.laws (h.laws a), fun a b => k.routine (h.laws a) (h.routine a b),
    fun a b => k.threshold (h.laws a) (h.threshold a b)⟩

/-! ### What the laws see of a record -/

/-- What the laws of PNT see of a record. -/
def Field.face (f : Field) : Page × Nat × Bool := (f.page, f.width, f.options.urgent)

/-- The records in use have the faces that they had, and the same page is selected. -/
structure State.sameFaces (s t : State) : Prop where
  page : t.scr.page = s.scr.page
  face : ∀ n, (t.field? n).map Field.face = (s.field? n).map Field.face

theorem State.sameFaces_of_fields {s t : State} (hpage : t.scr.page = s.scr.page) (hfields : t.fields = s.fields) :
    s.sameFaces t :=
  ⟨hpage, fun n => by rw [State.field?, hfields, State.field?]⟩

theorem State.sameFaces.symm {s t : State} (h : s.sameFaces t) : t.sameFaces s :=
  ⟨h.page.symm, fun n => (h.face n).symm⟩

theorem State.sameFaces.trans {s t u : State} (h : s.sameFaces t) (k : t.sameFaces u) : s.sameFaces u :=
  ⟨k.page.trans h.page, fun n => (k.face n).trans (h.face n)⟩

theorem State.sameFaces.exists_field? {s t : State} {n : Nat} {f : Field} (h : s.sameFaces t) (hf : s.field? n = some f) :
    ∃ g, t.field? n = some g ∧ t.shows g = s.shows f ∧ g.width = f.width ∧ g.options.urgent = f.options.urgent := by
  have hface := h.face n
  rw [hf] at hface
  obtain ⟨g, hg, heq⟩ := Option.map_eq_some_iff.1 hface
  obtain ⟨hpage, hrest⟩ := Prod.mk.inj heq
  obtain ⟨hwidth, hurgent⟩ := Prod.mk.inj hrest
  exact ⟨g, hg, by rw [State.shows, State.shows, hpage, h.page], hwidth, hurgent⟩

theorem State.sameFaces.onScreen {s t : State} {n : Nat} (h : s.sameFaces t) (hn : s.onScreen n) : t.onScreen n := by
  obtain ⟨f, hf, hv⟩ := hn
  obtain ⟨g, hg, hshows, -, -⟩ := h.exists_field? hf
  exact ⟨g, hg, hshows.trans hv⟩

theorem State.sameFaces.slotFits {s t : State} {slot : Slot} (h : s.sameFaces t) (hs : s.slotFits slot) : t.slotFits slot := by
  intro n hn
  obtain ⟨f, hf, hv, hw⟩ := hs n hn
  obtain ⟨g, hg, hshows, hwidth, -⟩ := h.exists_field? hf
  exact ⟨g, hg, hshows.trans hv, hw.trans hwidth.symm⟩

theorem State.sameFaces.routineLaw {s t : State} (h : s.sameFaces t) (hsub : ∀ e ∈ t.pnt.routine, ∃ d ∈ s.pnt.routine,
    d.field = e.field) (hs : s.routineLaw) : t.routineLaw := by
  intro e he g hg
  obtain ⟨d, hd, hfield⟩ := hsub e he
  obtain ⟨f, hf, -, -, hurgent⟩ := h.symm.exists_field? hg
  exact hurgent ▸ hs d hd f (hfield ▸ hf)

/-- The fields of the queue, the classes of ROUTINE and the slots are as before, in whatever order aging has put the entries. -/
theorem State.keepsPaintLaws_of_scan {s t : State} (hfaces : s.sameFaces t) (hscan : t.scanOrder.Perm s.scanOrder)
    (hroutine : ∀ e ∈ t.pnt.routine, ∃ d ∈ s.pnt.routine, d.field = e.field) (hslots : t.pnt.slots = s.pnt.slots)
    (hthreshold : s.thresholdLaw → t.thresholdLaw) : s.keepsPaintLaws t where
  laws := by
    rintro ⟨⟨hnodup, hscreen⟩, hlaw, hfits⟩
    refine ⟨⟨hscan.nodup_iff.2 hnodup, fun n hn => hfaces.onScreen (hscreen n (hscan.mem_iff.1 hn))⟩, by rwa [hslots], ?_⟩
    rw [hslots]
    exact fun e he => hfaces.slotFits (hfits e he)
  routine _ := hfaces.routineLaw hroutine
  threshold _ := hthreshold

/-! ### Changes that leave PNT alone -/

/-- PNT, the page and the records' faces are as before, and no other configuration waits. -/
structure State.samePaint (s t : State) : Prop extends s.sameFaces t where
  pnt : t.pnt = s.pnt
  waiting : t.msg.pendingConfigure = s.msg.pendingConfigure

theorem State.samePaint.keeps {s t : State} (h : s.samePaint t) : s.keepsPaintLaws t := by
  refine State.keepsPaintLaws_of_scan h.tosameFaces (.of_eq ?_) (fun e he => ⟨e, h.pnt ▸ he, rfl⟩) (by rw [h.pnt])
    fun hlag => ⟨?_, fun c hc => hlag.waiting c (h.waiting ▸ hc)⟩
  · rw [State.scanOrder, h.pnt, State.scanOrder]
  · rw [State.lagLaw, State.queuedTotal, h.pnt]
    exact hlag.lag

theorem State.samePaint_refl (s : State) : s.samePaint s := ⟨⟨rfl, fun _ => rfl⟩, rfl, rfl⟩

theorem State.keepsPaintLaws_refl (s : State) : s.keepsPaintLaws s := s.samePaint_refl.keeps

theorem State.samePaint_of {s t : State} (hfields : t.fields = s.fields) (hpage : t.scr.page = s.scr.page)
    (hpnt : t.pnt = s.pnt) (hwaiting : t.msg.pendingConfigure = s.msg.pendingConfigure) : s.samePaint t :=
  ⟨State.sameFaces_of_fields hpage hfields, hpnt, hwaiting⟩

/-- A record written in place of one with the same face. -/
theorem State.putField_samePaint {s : State} {n : Nat} {f g : Field} (h : s.field? n = some f) (hface : g.face = f.face) :
    s.samePaint (s.putField n g) := by
  refine ⟨⟨rfl, fun m => ?_⟩, rfl, rfl⟩
  by_cases hm : m = n
  · subst hm
    rw [State.putField_field?_self, h, Option.map_some, Option.map_some, hface]
  · rw [State.putField_otherFieldsKept _ _ _ m hm]

/-! ### The queue -/

variable (s : State)

@[simp] theorem State.enqueueAtBoundary_pnt (n : Nat) (u : Bool) : (s.enqueueAtBoundary n u).pnt = (s.enqueue n u).pnt := by
  unfold State.enqueueAtBoundary
  dsimp only
  split <;> rfl

theorem State.enqueue_field? (n m : Nat) (u : Bool) : (s.enqueue n u).field? m = s.field? m := by
  rw [State.field?, State.enqueue_fields, State.field?]

variable {s}

/-- The law of ROUTINE holds of every entry but those of one field. -/
def State.routineLawBut (s : State) (n : Nat) : Prop :=
  ∀ e ∈ s.pnt.routine, e.field ≠ n → ∀ f, s.field? e.field = some f → f.options.urgent = false

/-- A request by class or of an URGENT cause puts its own field where R66 wants it. -/
theorem State.enqueue_routineLaw (hqueue : s.queueLaw) (n : Nat) (u : Bool) (h : s.routineLawBut n) :
    (s.enqueue n u).routineLaw := by
  intro e he f hf
  rw [State.enqueue_field?] at hf
  rcases s.enqueue_pnt_cases n u with ⟨hpnt, hin⟩ | ⟨g, hg, hv, hu, ⟨hr, -, hpnt⟩ | ⟨hr, hpnt⟩⟩
  · rw [hpnt] at he
    by_cases hn : e.field = n
    · have hmem : n ∈ s.pnt.routine.map RoutineEntry.field := hn ▸ List.mem_map_of_mem he
      obtain ⟨k, hk, hkv⟩ := hqueue.2 n ((s.mem_scanOrder_iff n).2 (.inr hmem))
      obtain rfl := Option.some.inj ((hn ▸ hf).symm.trans hk)
      refine (hin f hk hkv).elim (fun hurgent => ?_) And.right
      exact absurd hmem ((List.nodup_append'.1 hqueue.1).2.2 hurgent)
    · exact h e he hn f hf
  · rw [hpnt] at he
    obtain ⟨he, hn⟩ := List.mem_filter.1 he
    exact h e he (bne_iff_ne.1 hn) f hf
  · rw [hpnt, Paint.append] at he
    have hold : e ∈ s.pnt.routine → f.options.urgent = false := fun hmem =>
      h e hmem (fun hn => hr (hn ▸ List.mem_map_of_mem hmem)) f hf
    cases hc : (u || g.options.urgent) with
    | true => simp only [hc, if_true] at he; exact hold he
    | false =>
      simp only [hc, Bool.false_eq_true, if_false] at he
      refine (List.mem_append.1 he).elim hold fun hlast => ?_
      obtain rfl := List.mem_singleton.1 hlast
      obtain rfl := Option.some.inj (hg.symm.trans hf)
      exact (Bool.or_eq_false_iff.1 hc).2

theorem State.routineLaw.but {n : Nat} (h : s.routineLaw) : s.routineLawBut n := fun e he _ => h e he

/-- A request keeps the laws, and puts its own field where R66 wants it, wherever its class left it. -/
theorem State.enqueue_paint (n : Nat) (u : Bool) : s.keepsPaintLaws (s.enqueue n u) where
  laws := by
    rintro ⟨hqueue, hslots, hfits⟩
    have hfaces : s.sameFaces (s.enqueue n u) := State.sameFaces_of_fields (by simp) (by simp)
    refine ⟨?_, by simpa using hslots, fun e he => hfaces.slotFits (hfits e (by simpa using he))⟩
    rcases State.enqueue_scan_cases hqueue.1 n u with ⟨hperm, -, -⟩ | ⟨hout, hn, hperm, -⟩
    · exact ⟨hperm.nodup_iff.2 hqueue.1, fun m hm => hfaces.onScreen (hqueue.2 m (hperm.mem_iff.1 hm))⟩
    · refine ⟨hperm.nodup_iff.2 (List.nodup_cons.2 ⟨hout, hqueue.1⟩), fun m hm => hfaces.onScreen ?_⟩
      exact (List.mem_cons.1 (hperm.mem_iff.1 hm)).elim (fun h => h ▸ hn) (hqueue.2 m)
  routine h hr := State.enqueue_routineLaw h.queue n u hr.but
  threshold h hlag := by
    refine ⟨?_, by simpa using hlag.waiting⟩
    rcases State.enqueue_scan_cases h.queue.1 n u with ⟨hperm, hlagging, -⟩ | ⟨-, -, -, hlagging⟩
    · refine ⟨by simpa using hlag.lag.1, ?_⟩
      rw [hlagging, State.enqueue_pnt.lagThreshold, ← State.length_scanOrder, hperm.length_eq, State.length_scanOrder]
      exact hlag.lag.2
    · rw [← State.enqueue_pnt.lagThreshold (n := n) (u := u)] at hlagging
      exact State.lagLaw_of_judged (by simpa using hlag.lag.1) hlagging

theorem State.removeEntry_paint (n : Nat) (at_ : FrameNo) : s.keepsPaintLaws (s.removeEntry n at_) where
  laws := by
    rintro ⟨⟨hnodup, hscreen⟩, hslots, hfits⟩
    have hfaces : s.sameFaces (s.removeEntry n at_) := State.sameFaces_of_fields (by simp) (by simp)
    refine ⟨⟨?_, fun m hm => ?_⟩, by simpa using hslots, fun e he => hfaces.slotFits (hfits e (by simpa using he))⟩
    · rw [State.removeEntry_scanOrder]
      exact hnodup.filter _
    · rw [State.removeEntry_scanOrder] at hm
      exact hfaces.onScreen (hscreen m (List.mem_filter.1 hm).1)
  routine _ := State.sameFaces.routineLaw (State.sameFaces_of_fields (by simp) (by simp)) fun e he => by
    rw [(s.removeEntry_dequeued n at_).2.1] at he
    exact ⟨e, (List.mem_filter.1 he).1, rfl⟩
  threshold _ hlag := ⟨State.removeEntry_lagLaw n at_ hlag.lag, by simpa using hlag.waiting⟩

/-! ### The slots -/

/-- Slots become FREE or are given up, and nothing else that the laws see changes. -/
theorem State.keepsPaintLaws_of_slots {t : State} {slots : List (Nat × Slot)} (hfaces : s.sameFaces t)
    (hpnt : t.pnt = { s.pnt with slots := slots }) (hwaiting : t.msg.pendingConfigure = s.msg.pendingConfigure)
    (hlaw : slotsLaw s.pnt.slots → slotsLaw slots) (howned : ∀ e ∈ slots, ∀ n, e.2.field = some n → e ∈ s.pnt.slots) :
    s.keepsPaintLaws t where
  laws := by
    rintro ⟨⟨hnodup, hscreen⟩, hslots, hfits⟩
    have hscan : t.scanOrder = s.scanOrder := by rw [State.scanOrder, hpnt, State.scanOrder]
    refine ⟨⟨hscan ▸ hnodup, fun n hn => hfaces.onScreen (hscreen n (hscan ▸ hn))⟩, by rw [hpnt]; exact hlaw hslots, ?_⟩
    rw [hpnt]
    exact fun e he n hn => hfaces.slotFits (hfits e (howned e he n hn)) n hn
  routine _ := hfaces.routineLaw fun e he => ⟨e, by rw [hpnt] at he; exact he, rfl⟩
  threshold _ hlag := by
    refine ⟨?_, fun c hc => hlag.waiting c (hwaiting ▸ hc)⟩
    rw [State.lagLaw, State.queuedTotal, hpnt]
    exact hlag.lag

theorem State.keepsPaintLaws_of_abandon {t : State} {concerns : Slot → Bool} (hfaces : s.sameFaces t)
    (hpnt : t.pnt = { s.pnt with slots := abandonSlots concerns s.pnt.slots })
    (hwaiting : t.msg.pendingConfigure = s.msg.pendingConfigure) : s.keepsPaintLaws t :=
  State.keepsPaintLaws_of_slots hfaces hpnt hwaiting (fun h => h.abandon concerns)
    fun _ he _ hn => (abandonSlots_owner he hn).1

theorem State.keepsPaintLaws_of_erase {t : State} {k : Nat} (hfaces : s.sameFaces t)
    (hpnt : t.pnt = { s.pnt with slots := Store.erase k s.pnt.slots })
    (hwaiting : t.msg.pendingConfigure = s.msg.pendingConfigure) : s.keepsPaintLaws t :=
  State.keepsPaintLaws_of_slots hfaces hpnt hwaiting (fun h => h.sublist (Store.erase_sublist k _))
    fun _ he _ _ => Store.mem_erase he

/-! ### Fields that go FREE (R23) -/

/-- A field without an entry and without a slot goes FREE. -/
theorem State.eraseField_paint {t : State} {n : Nat} (hfields : t.fields = Store.erase n s.fields)
    (hpage : t.scr.page = s.scr.page) (hpnt : t.pnt = s.pnt)
    (hwaiting : t.msg.pendingConfigure = s.msg.pendingConfigure) (hentry : n ∉ s.scanOrder)
    (hslot : ∀ e ∈ s.pnt.slots, e.2.field ≠ some n) : s.keepsPaintLaws t := by
  have hscan : t.scanOrder = s.scanOrder := by rw [State.scanOrder, hpnt, State.scanOrder]
  have hother : ∀ m, m ≠ n → t.field? m = s.field? m := fun m hm => by
    rw [State.field?, hfields, Store.find?_erase_ne hm, State.field?]
  have hshows : t.shows = s.shows := by funext f; rw [State.shows, hpage, State.shows]
  refine ⟨?_, fun _ hr e he => ?_, fun _ hlag => ⟨?_, fun c hc => hlag.waiting c (hwaiting ▸ hc)⟩⟩
  · rintro ⟨⟨hnodup, hscreen⟩, hslots, hfits⟩
    refine ⟨⟨hscan ▸ hnodup, fun m hm => ?_⟩, by rwa [hpnt], ?_⟩
    · rw [hscan] at hm
      obtain ⟨f, hf, hv⟩ := hscreen m hm
      exact ⟨f, (hother m fun h => hentry (h ▸ hm)).trans hf, hshows ▸ hv⟩
    · rw [hpnt]
      intro e he m hm
      obtain ⟨f, hf, hv, hw⟩ := hfits e he m hm
      exact ⟨f, (hother m fun h => hslot e he (h ▸ hm)).trans hf, hshows ▸ hv, hw⟩
  · rw [hpnt] at he
    rw [hother]
    · exact hr e he
    · exact fun h => hentry ((s.mem_scanOrder_iff n).2 (.inr (h ▸ List.mem_map_of_mem he)))
  · rw [State.lagLaw, State.queuedTotal, hpnt]
    exact hlag.lag

/-- The state after a field's entry and slot are given up, before its record goes (R23). -/
def State.vacate (s : State) (n : Nat) (at_ : FrameNo) : State :=
  let t := s.removeEntry n at_
  { t with pnt := { t.pnt with slots := abandonSlots (fun slot => slot.field == some n) t.pnt.slots } }

theorem State.vacate_paint (n : Nat) (at_ : FrameNo) : s.keepsPaintLaws (s.vacate n at_) :=
  (State.removeEntry_paint n at_).trans
    (State.keepsPaintLaws_of_abandon (State.sameFaces_of_fields rfl rfl) rfl rfl)

theorem State.release_paint (n : Nat) (at_ : FrameNo) : s.keepsPaintLaws (s.release n at_) := by
  refine (State.vacate_paint n at_).trans (State.eraseField_paint (n := n) rfl rfl rfl rfl (fun hn => ?_) fun e he hn => ?_)
  · have hn : n ∈ (s.removeEntry n at_).scanOrder := hn
    simp [State.removeEntry_scanOrder] at hn
  · simpa [hn] using (abandonSlots_owner he hn).2

theorem State.releaseAll_paint (at_ : FrameNo) (l : List Nat) : s.keepsPaintLaws (s.releaseAll at_ l) := by
  induction l generalizing s with
  | nil => exact s.keepsPaintLaws_refl
  | cons n rest ih => exact (State.release_paint n at_).trans ih

end Sys2Proof.Machine
end

section
/-! The laws of PNT at a frame boundary (R69, R86, R87, R103, R107 to R109, R112, R115, R116, R125 to R129). -/

namespace Sys2Proof.Machine

variable (s : State)

/-! ### Latches and the record of the boundary -/

theorem State.latch_samePaint (kinds : EventSet) (n : FrameNo) : s.samePaint (s.latch kinds n) :=
  State.samePaint_of (by simp) (by simp) (by simp) (by simp)

theorem State.latchOpen_samePaint (groups : List (List EventSet)) (n : FrameNo) : s.samePaint (s.latchOpen groups n) :=
  State.samePaint_of (by simp) (by simp) (by simp) (by simp)

theorem State.latchLagRise_samePaint (before : State) (n : FrameNo) : s.samePaint (s.latchLagRise before n) :=
  State.samePaint_of (by simp) (by simp) (by simp) (by simp)

theorem State.latchFrameIf_samePaint (now : Bool) (n : FrameNo) : s.samePaint (s.latchFrameIf now n) := by
  unfold State.latchFrameIf
  split
  · exact s.latch_samePaint _ _
  · exact s.samePaint_refl

theorem State.openBoundary_samePaint : s.samePaint s.openBoundary :=
  State.samePaint_of (by simp) (by simp) (by simp) (by simp)

theorem State.markExamined_samePaint (n : Nat) : s.samePaint (s.markExamined n) := State.samePaint_of rfl rfl rfl rfl

theorem State.startBoundary_samePaint (n : FrameNo) : s.samePaint (s.startBoundary n) := by
  unfold State.startBoundary State.applyMode
  dsimp only
  split <;> exact State.samePaint_of rfl rfl rfl rfl

theorem State.expireFreeze_samePaint (n : FrameNo) : s.samePaint (s.expireFreeze n) := by
  unfold State.expireFreeze
  split
  · exact State.samePaint_of (by simp) (by simp) (by simp) (by simp)
  · exact s.samePaint_refl

theorem State.judgeBlink_samePaint (n : FrameNo) : s.samePaint (s.judgeBlink n) := by
  unfold State.judgeBlink
  split <;> exact State.samePaint_of rfl rfl rfl rfl

/-! ### Requests and removals -/

theorem State.enqueueAtBoundary_paint (n : Nat) (u : Bool) : s.keepsPaintLaws (s.enqueueAtBoundary n u) :=
  (State.enqueue_paint n u).trans (State.samePaint_of (by simp) (by simp) (by simp) (by simp)).keeps

theorem State.enqueueAllAtBoundary_paint (at_ : FrameNo) (l : List Nat) :
    s.keepsPaintLaws (s.enqueueAllAtBoundary at_ l) := by
  induction l generalizing s with
  | nil => exact s.keepsPaintLaws_refl
  | cons n rest ih =>
    exact (s.enqueueAtBoundary_paint n false).trans ((State.latchLagRise_samePaint _ s at_).keeps.trans (ih _))

theorem State.removeEntries_paint (at_ : FrameNo) (l : List Nat) : s.keepsPaintLaws (s.removeEntries at_ l) := by
  induction l generalizing s with
  | nil => exact s.keepsPaintLaws_refl
  | cons n rest ih => exact (State.removeEntry_paint n at_).trans (ih _)

theorem State.removeEntries_urgent (at_ : FrameNo) (l : List Nat) :
    (s.removeEntries at_ l).pnt.urgent = s.pnt.urgent.filter fun m => m ∉ l := by
  induction l generalizing s with
  | nil => simp [State.removeEntries]
  | cons n rest ih =>
    rw [State.removeEntries, ih, (s.removeEntry_dequeued n at_).1, List.filter_filter]
    exact List.filter_congr fun m _ => Bool.eq_iff_iff.2 (by simp [and_comm])

theorem State.removeEntries_routine (at_ : FrameNo) (l : List Nat) :
    (s.removeEntries at_ l).pnt.routine = s.pnt.routine.filter fun e => e.field ∉ l := by
  induction l generalizing s with
  | nil => simp [State.removeEntries]
  | cons n rest ih =>
    rw [State.removeEntries, ih, (s.removeEntry_dequeued n at_).2.1, List.filter_filter]
    exact List.filter_congr fun e _ => Bool.eq_iff_iff.2 (by simp [and_comm])

theorem State.removeEntries_scanOrder (at_ : FrameNo) (l : List Nat) :
    (s.removeEntries at_ l).scanOrder = s.scanOrder.filter fun m => m ∉ l := by
  rw [State.scanOrder, State.removeEntries_urgent, State.removeEntries_routine, State.scanOrder, List.filter_append,
    List.filter_map]
  rfl

theorem State.removeEntries_lagLaw (at_ : FrameNo) (l : List Nat) (h : s.lagLaw) : (s.removeEntries at_ l).lagLaw := by
  induction l generalizing s with
  | nil => exact h
  | cons n rest ih => exact ih _ (State.removeEntry_lagLaw n at_ h)

/-! ### Aging (R69) -/

/-- Aging only reorders the fields of the queue: each entry is promoted or stays. -/
theorem State.age_scan_perm : s.age.scanOrder.Perm s.scanOrder := by
  unfold State.age
  split
  · exact .refl _
  · rename_i b _
    split
    · exact .refl _
    · have hurgent := List.filter_append_perm (fun m => b.fresh.contains m) s.pnt.urgent
      have hroutine := (List.filter_append_perm (RoutineEntry.promoted b.fresh s.pnt.ageLimit) s.pnt.routine).map
        RoutineEntry.field
      have haged : ∀ e : RoutineEntry, (e.aged b.fresh).field = e.field := fun e => by unfold RoutineEntry.aged; split <;> rfl
      refine List.Perm.trans ?_ (hurgent.append hroutine)
      simp only [State.scanOrder, List.map_map, List.map_append, Function.comp_def, haged, ← List.append_assoc]
      exact .append_right _ (List.perm_append_comm.trans (.of_eq (List.append_assoc ..).symm))

theorem State.age_pnt : s.age.pnt.slots = s.pnt.slots ∧ s.age.pnt.lagging = s.pnt.lagging ∧
    s.age.pnt.lagThreshold = s.pnt.lagThreshold := by
  unfold State.age
  split
  · exact ⟨rfl, rfl, rfl⟩
  · split <;> exact ⟨rfl, rfl, rfl⟩

theorem State.age_routine {e : RoutineEntry} (he : e ∈ s.age.pnt.routine) : ∃ d ∈ s.pnt.routine, d.field = e.field := by
  unfold State.age at he
  split at he
  · exact ⟨e, he, rfl⟩
  · split at he
    · exact ⟨e, he, rfl⟩
    · obtain ⟨d, hd, rfl⟩ := List.mem_map.1 he
      exact ⟨d, (List.mem_filter.1 hd).1, by unfold RoutineEntry.aged; split <;> rfl⟩

theorem State.age_paint : s.keepsPaintLaws s.age := by
  have htable := s.age_sameTable
  obtain ⟨hslots, hlagging, hthreshold⟩ := s.age_pnt
  have hmsg : s.age.msg = s.msg := by
    unfold State.age
    split
    · rfl
    · split <;> rfl
  refine State.keepsPaintLaws_of_scan (State.sameFaces_of_fields htable.page htable.fields) s.age_scan_perm
    (fun _ => s.age_routine) hslots fun hlag => ⟨?_, fun c hc => hlag.waiting c (hmsg ▸ hc)⟩
  rw [State.lagLaw, ← State.length_scanOrder, s.age_scan_perm.length_eq, State.length_scanOrder, hlagging, hthreshold]
  exact hlag.lag

/-! ### Expiries (R125 to R129) -/

theorem State.expireField_paint {m : Nat} {f : Field} (n : FrameNo) (h : s.field? m = some f) :
    s.keepsPaintLaws (s.expireField m f n) := by
  have hput : s.samePaint (s.putField m (f.expired n)) := State.putField_samePaint h rfl
  unfold State.expireField
  dsimp only
  refine hput.keeps.trans (.trans ?_ (State.latchOpen_samePaint _ _ n).keeps)
  refine .trans (State.samePaint.keeps ?_) (State.enqueueAtBoundary_paint _ m false)
  split <;> exact State.samePaint_of rfl rfl rfl rfl

theorem State.examine_paint (n : FrameNo) (m : Nat) : s.keepsPaintLaws (s.examine n m) := by
  unfold State.examine
  split
  · split
    · exact s.expireField_paint n ‹_›
    · exact s.keepsPaintLaws_refl
  · exact s.keepsPaintLaws_refl

theorem State.examineAll_paint (n : FrameNo) (l : List Nat) : s.keepsPaintLaws (s.examineAll n l) := by
  induction l generalizing s with
  | nil => exact s.keepsPaintLaws_refl
  | cons m rest ih => exact (s.examine_paint n m).trans (ih _)

theorem State.takeExpiries_paint (n : FrameNo) : s.keepsPaintLaws (s.takeExpiries n) := by
  unfold State.takeExpiries
  split
  · exact s.keepsPaintLaws_refl
  · split
    · exact (s.markExamined_samePaint _).keeps
    · exact (s.examineAll_paint _ _).trans (State.markExamined_samePaint _ _).keeps

/-! ### Commits (R107 to R109) -/

theorem State.putCells_paint (k : Nat) (f : Field) (r : Rendered) : s.keepsPaintLaws (s.putCells k f r) :=
  State.keepsPaintLaws_of_erase (k := k) (State.sameFaces_of_fields rfl rfl) rfl rfl

theorem State.commitSlot_paint (n : FrameNo) (k : Nat) : s.keepsPaintLaws (s.commitSlot n k) := by
  rcases s.commitSlot_cases n k with h | ⟨m, r, f, -, hf, h | h⟩ <;> rw [h]
  · exact s.keepsPaintLaws_refl
  · exact (s.putCells_paint k f r).trans (State.samePaint.keeps (State.putField_samePaint (f := f) hf rfl))
  · exact (s.putCells_paint k f r).trans (State.release_paint m n)

theorem State.commitSlots_paint (n : FrameNo) (l : List Nat) : s.keepsPaintLaws (s.commitSlots n l) := by
  induction l generalizing s with
  | nil => exact s.keepsPaintLaws_refl
  | cons k rest ih => exact (s.commitSlot_paint n k).trans (ih _)

theorem State.commitAll_paint (n : FrameNo) : s.keepsPaintLaws (s.commitAll n) := by
  unfold State.commitAll
  split
  · exact s.keepsPaintLaws_refl
  · exact s.commitSlots_paint _ _

/-! ### Page change (R86, R112) -/

theorem Field.leaving_face (p : BitVec 2) (f : Field) : (f.leaving p).face = f.face := by
  unfold Field.leaving
  split <;> rfl

theorem State.clearPage_paint (p : BitVec 2) : s.keepsPaintLaws (s.clearPage p) := by
  refine State.keepsPaintLaws_of_abandon ⟨rfl, fun n => ?_⟩ rfl rfl
  rw [State.clearPage_field?, Option.map_map]
  exact congrArg (fun g => (s.field? n).map g) (funext fun f => f.leaving_face p)

/-- The part with the page left cleared and its RETIRING fields FREE, before the new page is selected (R112). -/
def State.clearedPage (n : FrameNo) : State :=
  (s.clearPage s.scr.page).releaseAll n (s.retiringOfPage s.scr.page)

theorem State.clearedPage_paint (n : FrameNo) : s.keepsPaintLaws (s.clearedPage n) :=
  (s.clearPage_paint _).trans (State.releaseAll_paint n _)

@[simp] theorem State.clearedPage_page (n : FrameNo) : (s.clearedPage n).scr.page = s.scr.page := by
  simp [State.clearedPage, State.clearPage]

/-- After R112 step 2 only COMMON fields hold slots. -/
theorem State.clearedPage_owners (n : FrameNo) (h : s.paintLaw) :
    (s.clearedPage n).ownersAre fun f => f.page = .common := by
  refine State.releaseAll_ownersAre _ n _ (s.clearPage_owners fun e he m hm => ?_)
  obtain ⟨f, hf, hv, -⟩ := h.fits e he m hm
  exact ⟨f, hf, hv⟩

/-- The part with the new page selected and the entries of the page left off the queue, before those of the new page come (R86,
R112). -/
def State.leavePage (q : BitVec 2) (n : FrameNo) : State :=
  if q = s.scr.page then s.turnPage q n
  else (s.turnPage q n).removeEntries n ((s.turnPage q n).numbersOfPage s.scr.page)

theorem State.changePage_eq (r : PendingPage) (n : FrameNo) :
    s.changePage r n =
      let removed := s.leavePage r.page n
      let queued := removed.enqueueAllAtBoundary n (removed.numbersOfPage r.page)
      { queued with msg := { queued.msg with pendingPage := none } }.fillReply 0x86 r.tag
        (r.page.zeroExtend 8 :: bytesOfCount (removed.numbersOfPage r.page).length) queued.lnk.placings := rfl

variable {s}

theorem State.mem_numbersOfPage_of_field? {n : Nat} {f : Field} {p : BitVec 2} (hf : s.field? n = some f)
    (hp : f.page = .numbered p) : n ∈ s.numbersOfPage p :=
  List.mem_map.2 ⟨(n, f), List.mem_filter.2 ⟨Store.mem_of_find? hf, by simpa using hp⟩, rfl⟩

/-- A field that is visible on a page other than its own number is COMMON, and visible on every page (R7). -/
theorem Page.eq_common_of_visibleOn {x : Page} {p : BitVec 2} (hv : x.visibleOn p = true) (hp : x ≠ .numbered p) :
    x = .common := by
  by_contra hc
  simp [Page.visibleOn_of_ne hc hp] at hv

variable (s)

theorem State.leavePage_paint_of_ne {q : BitVec 2} (n : FrameNo) (hq : q ≠ s.scr.page) :
    s.keepsPaintLaws (s.leavePage q n) := by
  have hcleared := s.clearedPage_paint n
  have hpage := s.clearedPage_page n
  have howners := s.clearedPage_owners n
  rw [State.leavePage, if_neg hq]
  generalize hleft : (s.turnPage q n).removeEntries n ((s.turnPage q n).numbersOfPage s.scr.page) = left
  have hfields : left.fields = (s.clearedPage n).fields := by rw [← hleft]; simp [State.turnPage, State.clearedPage]
  have hfield? : ∀ m, left.field? m = (s.clearedPage n).field? m := fun m => by rw [State.field?, hfields, State.field?]
  have hselected : left.scr.page = q := by rw [← hleft]; simp [State.turnPage]
  have hslots : left.pnt.slots = (s.clearedPage n).pnt.slots := by rw [← hleft]; simp [State.turnPage, State.clearedPage]
  have hshows : ∀ f : Field, f.page = .common → left.shows f = true := fun f hf => by simp [State.shows, hf, Page.visibleOn]
  refine ⟨fun hs => ?_, fun hs hr e he f hf => ?_, fun hs hlag => ⟨?_, ?_⟩⟩
  · obtain ⟨⟨hnodup, hscreen⟩, hlaw, hfits⟩ := hcleared.laws hs
    have hscan : left.scanOrder =
        (s.clearedPage n).scanOrder.filter fun m => m ∉ (s.clearedPage n).numbersOfPage s.scr.page := by
      rw [← hleft, State.removeEntries_scanOrder]; rfl
    refine ⟨⟨hscan ▸ hnodup.filter _, fun m hm => ?_⟩, by rwa [hslots], ?_⟩
    · rw [hscan] at hm
      obtain ⟨hm, hout⟩ := List.mem_filter.1 hm
      obtain ⟨f, hf, hv⟩ := hscreen m hm
      rw [State.shows, hpage] at hv
      have hnot : f.page ≠ .numbered s.scr.page := fun hp =>
        of_decide_eq_true hout (State.mem_numbersOfPage_of_field? hf hp)
      exact ⟨f, (hfield? m).trans hf, hshows f (Page.eq_common_of_visibleOn hv hnot)⟩
    · rw [hslots]
      intro e he m hm
      obtain ⟨f, hf, -, hw⟩ := hfits e he m hm
      obtain ⟨g, hg, hcommon⟩ := howners hs e he m hm
      obtain rfl := Option.some.inj (hf.symm.trans hg)
      exact ⟨f, (hfield? m).trans hf, hshows f hcommon, hw⟩
  · rw [← hleft, State.removeEntries_routine] at he
    exact hcleared.routine hs hr e (List.mem_filter.1 he).1 f ((hfield? _).symm.trans hf)
  · rw [← hleft]
    exact State.removeEntries_lagLaw _ _ _ (hcleared.threshold hs hlag).lag
  · rw [← hleft, State.removeEntries_msg]
    exact (hcleared.threshold hs hlag).waiting

theorem State.leavePage_paint (q : BitVec 2) (n : FrameNo) : s.keepsPaintLaws (s.leavePage q n) := by
  by_cases hq : q = s.scr.page
  · rw [State.leavePage, if_pos hq]
    exact (s.clearedPage_paint n).trans
      (State.samePaint.keeps (State.samePaint_of rfl (hq.trans (s.clearedPage_page n).symm) rfl rfl))
  · exact s.leavePage_paint_of_ne n hq

theorem State.changePage_paint (r : PendingPage) (n : FrameNo) : s.keepsPaintLaws (s.changePage r n) :=
  (s.leavePage_paint r.page n).trans <| (State.enqueueAllAtBoundary_paint _ n _).trans
    (State.samePaint.keeps (State.samePaint_of rfl rfl rfl rfl))

theorem State.applyPendingPage_paint (n : FrameNo) : s.keepsPaintLaws (s.applyPendingPage n) := by
  unfold State.applyPendingPage
  split
  · split
    · exact s.keepsPaintLaws_refl
    · exact s.changePage_paint _ _
  · exact s.keepsPaintLaws_refl

/-! ### Geometry change (R87, R115, R116) -/

theorem State.takeParameters_pnt (c : PendingConfigure) (n : FrameNo) :
    (s.takeParameters c n).pnt =
      { s.pnt with ageLimit := c.ageLimit, lagThreshold := c.lagThreshold,
                   lagging := lagAfter s.pnt.lagging c.lagThreshold s.queuedTotal } := by
  rw [State.takeParameters, State.latchLagRise_pnt, State.judgeLagging_pnt]
  exact Paint.eq_of_parts rfl rfl rfl rfl rfl (State.judgeLagging_lagging _)

theorem State.takeParameters_paint {c : PendingConfigure} (n : FrameNo) (h : s.msg.pendingConfigure = some c) :
    s.keepsPaintLaws (s.takeParameters c n) := by
  have hpnt := s.takeParameters_pnt c n
  have htable := s.takeParameters_sameTable c n
  have hmsg : (s.takeParameters c n).msg = s.msg := by simp [State.takeParameters]
  refine State.keepsPaintLaws_of_scan (State.sameFaces_of_fields htable.page htable.fields) (.of_eq ?_)
    (fun e he => ⟨e, by rw [hpnt] at he; exact he, rfl⟩) htable.slots fun hlag => ⟨?_, by rw [hmsg]; exact hlag.waiting⟩
  · rw [State.scanOrder, hpnt, State.scanOrder]
  · refine State.lagLaw_of_judged (lagging := s.pnt.lagging) (by rw [hpnt]; exact hlag.waiting c h) ?_
    rw [State.queuedTotal, hpnt, State.queuedTotal]

theorem State.clearForGeometry_field? (g : Geometry) (n : Nat) :
    (s.clearForGeometry g).field? n = (s.field? n).map Field.unshown :=
  Store.find?_map (fun _ => Field.unshown) n s.fields

theorem State.clearForGeometry_paint (g : Geometry) : s.keepsPaintLaws (s.clearForGeometry g) := by
  refine State.keepsPaintLaws_of_abandon ⟨rfl, fun n => ?_⟩ rfl rfl
  rw [State.clearForGeometry_field?, Option.map_map]
  rfl

theorem State.changeGeometry_paint (g : Geometry) (n : FrameNo) : s.keepsPaintLaws (s.changeGeometry g n) :=
  (s.clearForGeometry_paint g).trans <| (State.releaseAll_paint n _).trans <|
    (State.removeEntries_paint _ n _).trans (State.enqueueAllAtBoundary_paint _ n _)

/-- A configuration that has been applied waits no more. -/
theorem State.configured_paint (payload : List Byte) (tag : Byte) (placed : Nat) :
    s.keepsPaintLaws (({ s with msg := { s.msg with pendingConfigure := none } } : State).fillReply 0x83 tag payload placed) where
  laws := fun ⟨hqueue, hslots, hfits⟩ => ⟨hqueue, hslots, hfits⟩
  routine _ h := h
  threshold _ h := ⟨h.lag, fun _ hc => nomatch hc⟩

theorem State.applyConfigure_paint {c : PendingConfigure} (n : FrameNo) (h : s.msg.pendingConfigure = some c) :
    s.keepsPaintLaws (s.applyConfigure c n) := by
  refine (s.takeParameters_paint n h).trans ?_
  unfold State.applyConfigure
  dsimp only
  split
  · exact State.configured_paint _ _ _ _
  · exact (State.changeGeometry_paint _ c.geometry n).trans (State.configured_paint _ _ _ _)

theorem State.applyPendingConfigure_paint (n : FrameNo) : s.keepsPaintLaws (s.applyPendingConfigure n) := by
  unfold State.applyPendingConfigure
  split
  · split
    · exact s.keepsPaintLaws_refl
    · exact s.applyConfigure_paint _ ‹_›
  · exact s.keepsPaintLaws_refl

/-! ### The boundary as a whole (R103, R106) -/

theorem State.screenWork_paint (agingFirst : Bool) (n : FrameNo) : s.keepsPaintLaws (s.screenWork agingFirst n) := by
  unfold State.screenWork
  have haged : s.keepsPaintLaws (if agingFirst then s.age else s) := by
    split
    · exact s.age_paint
    · exact s.keepsPaintLaws_refl
  exact haged.trans <| (State.expireFreeze_samePaint _ n).keeps.trans <| (State.applyPendingPage_paint _ n).trans <|
    (State.applyPendingConfigure_paint _ n).trans <| (State.age_paint _).trans <|
    (State.judgeBlink_samePaint _ n).keeps.trans (State.commitAll_paint _ n)

theorem State.takeBoundary_paint (order : BoundaryOrder) : s.keepsPaintLaws (s.takeBoundary order) := by
  unfold State.takeBoundary
  dsimp only
  generalize s.boundaryNumber = n
  have hstarted : s.keepsPaintLaws ((s.openBoundary.startBoundary n).latchFrameIf order.frameFirst n) :=
    s.openBoundary_samePaint.keeps.trans <| (State.startBoundary_samePaint _ n).keeps.trans
      (State.latchFrameIf_samePaint _ _ n).keeps
  generalize (s.openBoundary.startBoundary n).latchFrameIf order.frameFirst n = started at hstarted ⊢
  have hearly : s.keepsPaintLaws (if order.ftuFirst then started.takeExpiries n else started) := by
    split
    · exact hstarted.trans (State.takeExpiries_paint _ n)
    · exact hstarted
  exact hearly.trans <| (State.screenWork_paint _ _ n).trans <| (State.takeExpiries_paint _ n).trans <|
    (State.latchFrameIf_samePaint _ _ n).keeps.trans (State.samePaint.keeps (State.samePaint_of rfl rfl rfl rfl))

theorem State.settle_paint : s.keepsPaintLaws s.settle := by
  unfold State.settle
  split
  · exact s.keepsPaintLaws_refl
  · exact s.takeBoundary_paint _

end Sys2Proof.Machine
end

section
/-! The laws of PNT under the line, the requests and the painter (chapters 1, 3, 4, 8 to 10), and under every step. -/

namespace Sys2Proof.Machine

variable (s : State)

/-! ### The line -/

theorem State.receiveByte_samePaint (b : Byte) : s.samePaint (s.receiveByte b) := by
  unfold State.receiveByte
  split
  · split
    · split <;> exact State.samePaint_of (by simp [State.latchLine]) (by simp [State.latchLine]) (by simp [State.latchLine])
        (by simp [State.latchLine])
    · exact s.samePaint_refl
  · split <;> exact State.samePaint_of (by simp [State.latchLine]) (by simp [State.latchLine]) (by simp [State.latchLine])
      (by simp [State.latchLine])
  · split <;> exact State.samePaint_of rfl rfl rfl rfl

theorem State.receiveSignal_paint (x : LineSignal) : s.keepsPaintLaws (s.receiveSignal x) := by
  cases x with
  | character c =>
    simp only [State.receiveSignal]
    split
    · exact s.keepsPaintLaws_refl
    · exact (s.receiveByte_samePaint _).keeps
  | heldLow =>
    simp only [State.receiveSignal]
    split
    · exact s.keepsPaintLaws_refl
    · exact (s.receiveByte_samePaint _).keeps.trans (State.samePaint.keeps (State.samePaint_of rfl rfl rfl rfl))
  | returnsHigh => exact State.samePaint.keeps (State.samePaint_of rfl rfl rfl rfl)

theorem State.receiveSignals_paint (l : List LineSignal) : s.keepsPaintLaws (s.receiveSignals l) := by
  induction l generalizing s with
  | nil => exact s.keepsPaintLaws_refl
  | cons x rest ih => exact (s.receiveSignal_paint x).trans (ih _)

theorem reset_lagLaw : State.reset.lagLaw := ⟨by decide, rfl⟩

/-- A reset part has no entry, no slot and no configuration that waits. -/
theorem State.beginReset_paint (cause : ResetCause) (level : Bool) (straps : Straps) :
    s.keepsPaintLaws (s.beginReset cause level straps) where
  laws _ := ⟨⟨List.nodup_nil, fun _ hn => (nomatch hn)⟩,
    ⟨rfl, fun _ he => (nomatch he), Nat.zero_le _, List.nodup_nil⟩, fun _ he => (nomatch he)⟩
  routine _ _ _ he := nomatch he
  threshold _ _ := ⟨reset_lagLaw, fun _ hc => nomatch hc⟩

/-! ### Replies and refusals -/

theorem State.answer_waiting (payload : List Byte) :
    (s.answer payload).msg.pendingConfigure = s.msg.pendingConfigure := by
  unfold State.answer
  split <;> rfl

theorem State.answer_samePaint (payload : List Byte) : s.samePaint (s.answer payload) :=
  State.samePaint_of (by simp) (by simp) (by simp) (s.answer_waiting payload)

theorem State.refuse_samePaint (code : RefusalCode) (number : Option Half) : s.samePaint (s.refuse code number) := by
  unfold State.refuse
  split
  · exact s.samePaint_refl
  · exact State.samePaint_of (by simp) (by simp) (by simp) (by simp)

theorem State.refuseEntry_samePaint (code : RefusalCode) (number : Half) (index : Nat) :
    s.samePaint (s.refuseEntry code number index) := by
  unfold State.refuseEntry
  split
  · exact s.samePaint_refl
  · exact State.samePaint_of (by simp) (by simp) (by simp) (by simp)

variable {s}

theorem State.answer_paint (payload : List Byte) : s.keepsPaintLaws (s.answer payload) := (s.answer_samePaint payload).keeps

theorem State.refuse_paint (code : RefusalCode) (number : Option Half) : s.keepsPaintLaws (s.refuse code number) :=
  (s.refuse_samePaint code number).keeps

/-- A state that differs from another outside what the laws see, answered. -/
theorem State.samePaint.answer_paint {t : State} (h : s.samePaint t) (payload : List Byte) :
    s.keepsPaintLaws (t.answer payload) :=
  h.keeps.trans (State.answer_paint payload)

/-! ### The field requests -/

/-- A record is written and its field enqueued. The record may be of another class (R15), or of a field that was FREE (R13):
the request puts the entry where R66 wants it. -/
theorem State.putAndEnqueue_paint {n : Nat} {g : Field} (u : Bool)
    (h : ∀ f, s.field? n = some f → g.page = f.page ∧ g.width = f.width) :
    s.keepsPaintLaws ((s.putField n g).enqueue n u) := by
  have hself := s.putField_field?_self n g
  have hother := s.putField_otherFieldsKept n g
  have hfield? : ∀ m f, s.field? m = some f →
      ∃ k, (s.putField n g).field? m = some k ∧ k.page = f.page ∧ k.width = f.width := by
    intro m f hf
    by_cases hm : m = n
    · subst hm
      exact ⟨g, hself, h f hf⟩
    · exact ⟨f, (hother m hm).trans hf, rfl, rfl⟩
  have hlaws : s.paintLaw → (s.putField n g).paintLaw := by
    rintro ⟨⟨hnodup, hscreen⟩, hslots, hfits⟩
    refine ⟨⟨hnodup, fun m hm => ?_⟩, hslots, fun e he m hm => ?_⟩
    · obtain ⟨f, hf, hv⟩ := hscreen m hm
      obtain ⟨k, hk, hpage, -⟩ := hfield? m f hf
      exact ⟨k, hk, by rw [State.shows, hpage]; exact hv⟩
    · obtain ⟨f, hf, hv, hw⟩ := hfits e he m hm
      obtain ⟨k, hk, hpage, hwidth⟩ := hfield? m f hf
      exact ⟨k, hk, by rw [State.shows, hpage]; exact hv, hw.trans hwidth.symm⟩
  have henqueue := State.enqueue_paint (s := s.putField n g) n u
  refine ⟨fun hs => henqueue.laws (hlaws hs), fun hs hr => ?_, fun hs hlag =>
    henqueue.threshold (hlaws hs) ⟨hlag.lag, hlag.waiting⟩⟩
  exact State.enqueue_routineLaw (hlaws hs).queue n u fun e he hn f hf => hr e he f ((hother _ hn).symm.trans hf)

theorem State.putAndAnswer_paint {n : Nat} {g : Field} (u : Bool) (at_ : FrameNo) (payload : List Byte)
    (h : ∀ f, s.field? n = some f → g.page = f.page ∧ g.width = f.width) :
    s.keepsPaintLaws (((s.putField n g).enqueueAndLatch n u at_).answer payload) :=
  (State.putAndEnqueue_paint u h).trans <| (State.latchLagRise_samePaint _ (s.putField n g) at_).keeps.trans
    (State.answer_paint payload)

/-- The record that stands under a number has the page and the width of one that keeps them. -/
theorem Field.mayBecome.placed {n : Nat} {f g : Field} (hf : s.field? n = some f) (hm : f.mayBecome g) :
    ∀ k, s.field? n = some k → g.page = k.page ∧ g.width = k.width := by
  intro k hk
  obtain rfl := Option.some.inj (hf.symm.trans hk)
  exact ⟨hm.page, hm.width⟩

theorem State.onField_paint {number : Half} {act : Nat → Field → State}
    (h : ∀ f, s.field? number.toNat = some f → s.keepsPaintLaws (act number.toNat f)) :
    s.keepsPaintLaws (s.onField number act) := by
  unfold State.onField
  split
  · exact State.refuse_paint _ _
  · split
    · exact State.refuse_paint _ _
    · split
      · exact State.refuse_paint _ _
      · exact h _ ‹_›

theorem State.restyle_paint (r : RestyleFields) : s.keepsPaintLaws (s.restyle r) :=
  State.onField_paint fun f hf => State.putAndAnswer_paint _ _ _ ((f.restyled_mayBecome r).placed hf)

theorem State.setLimits_paint (r : LimitFields) : s.keepsPaintLaws (s.setLimits r) := by
  refine State.onField_paint fun f hf => ?_
  split
  · exact State.refuse_paint _ _
  · split
    · exact State.refuse_paint _ _
    · exact (State.putField_samePaint hf (by rfl)).answer_paint _

theorem State.delete_paint (number : Half) : s.keepsPaintLaws (s.delete number) := by
  refine State.onField_paint fun f hf => ?_
  split
  · exact State.putAndAnswer_paint _ _ _ (f.retired_mayBecome.placed hf)
  · exact (State.release_paint _ _).trans (State.answer_paint _)

theorem State.readField_paint (number : Half) : s.keepsPaintLaws (s.readField number) := by
  unfold State.readField
  split
  · exact State.refuse_paint _ _
  · split
    · exact State.refuse_paint _ _
    · exact State.answer_paint _

theorem State.unhold_paint (number : Half) : s.keepsPaintLaws (s.unhold number) := by
  refine State.onField_paint fun f hf => ?_
  split
  · exact State.putAndAnswer_paint _ _ _ ((Field.unheld_mayBecome _ ‹_›).placed hf)
  · exact State.refuse_paint _ _

theorem State.define_paint (r : DefineFields) : s.keepsPaintLaws (s.define r) := by
  unfold State.define
  split
  · exact State.refuse_paint _ _
  · split
    · exact State.refuse_paint _ _
    · rename_i page format hok
      obtain ⟨hfree, -⟩ := State.checkDefine_ok hok
      dsimp only
      split
      · exact State.refuse_paint _ _
      · split
        · exact State.refuse_paint _ _
        · split
          · exact State.refuse_paint _ _
          · exact State.putAndAnswer_paint _ _ _ fun f hf => nomatch hfree.symm.trans hf

/-! ### Posts -/

theorem State.postQueued_paint (n : Nat) (own raised : Bool) : s.keepsPaintLaws (s.postQueued n own raised) := by
  cases own with
  | false =>
    cases raised with
    | false => exact s.keepsPaintLaws_refl
    | true => exact State.enqueue_paint n true
  | true =>
    cases raised with
    | false => exact State.enqueue_paint n false
    | true => exact (State.enqueue_paint n false).trans (State.enqueue_paint n true)

theorem State.applyPost_paint {n : Nat} {f : Field} (v : Value) (h : s.field? n = some f) :
    s.keepsPaintLaws (s.applyPost n f v) := by
  obtain ⟨groups, -, happly⟩ := s.applyPost_eq n f v
  rw [happly]
  have hput : s.samePaint (s.putField n (f.posted v s.now)) := State.putField_samePaint h rfl
  have hrecorded : (s.putField n (f.posted v s.now)).samePaint (s.postRecorded n f v) := State.samePaint_of rfl rfl rfl rfl
  exact hput.keeps.trans <| hrecorded.keeps.trans <| (State.postQueued_paint n _ _).trans
    (State.latchOpen_samePaint _ groups s.now).keeps

theorem State.post_paint (r : PostFields) : s.keepsPaintLaws (s.post r) := by
  unfold State.post
  split
  · exact State.refuse_paint _ _
  · exact (State.applyPost_paint _ (State.checkPost_ok ‹_›).1).trans (State.answer_paint _)

theorem State.postText_paint (r : TextFields) : s.keepsPaintLaws (s.postText r) := by
  unfold State.postText
  split
  · exact State.refuse_paint _ _
  · exact (State.applyPost_paint _ (State.checkPost_ok ‹_›).1).trans (State.answer_paint _)

theorem BatchRun.entry_paint (b : BatchRun) (index : Nat) (r : PostFields) :
    b.state.keepsPaintLaws (b.entry index r).state := by
  unfold BatchRun.entry
  split
  · exact (b.state.refuseEntry_samePaint _ _ _).keeps
  · exact State.applyPost_paint _ (State.checkPost_ok ‹_›).1

theorem BatchRun.entries_paint (b : BatchRun) (index : Nat) (l : List PostFields) :
    b.state.keepsPaintLaws (b.entries index l).state := by
  induction l generalizing b index with
  | nil => exact b.state.keepsPaintLaws_refl
  | cons r rest ih => exact (b.entry_paint index r).trans (ih _ _)

theorem State.postBatch_paint (entries : List PostFields) : s.keepsPaintLaws (s.postBatch entries) :=
  (BatchRun.entries_paint ⟨s, 0, none⟩ 0 entries).trans (State.answer_paint _)

/-! ### ACK ALERT -/

theorem State.clearLatch_paint {n : Nat} {f : Field} (h : s.field? n = some f) : s.keepsPaintLaws (s.clearLatch n f) := by
  have hput : s.samePaint (s.putField n { f with alertLatched := false }) := State.putField_samePaint h rfl
  refine hput.keeps.trans ?_
  unfold State.clearLatch State.enqueueAndLatch
  refine .trans (State.samePaint.keeps ?_) <| (State.enqueue_paint n false).trans
    (State.samePaint.keeps (State.latchLagRise_samePaint _ _ _))
  exact State.samePaint_of rfl rfl rfl rfl

theorem State.clearLatches_paint (l : List Nat) : s.keepsPaintLaws (s.clearLatches l) := by
  induction l generalizing s with
  | nil => exact s.keepsPaintLaws_refl
  | cons n rest ih =>
    unfold State.clearLatches
    split
    · exact (State.clearLatch_paint ‹_›).trans ih
    · exact ih

theorem State.ackAll_paint : s.keepsPaintLaws s.ackAll := (State.clearLatches_paint _).trans (State.answer_paint _)

theorem State.ack_paint (number : Half) : s.keepsPaintLaws (s.ack number) := by
  unfold State.ack
  split
  · exact State.ackAll_paint
  · refine State.onField_paint fun f hf => ?_
    split
    · exact (State.clearLatch_paint hf).trans (State.answer_paint _)
    · exact State.answer_paint _

/-! ### The screen and attention requests -/

theorem State.setPalette_paint (r : PaletteFields) : s.keepsPaintLaws (s.setPalette r) := by
  unfold State.setPalette
  split
  · exact State.refuse_paint _ _
  · exact State.samePaint.answer_paint (State.samePaint_of (by rfl) (by rfl) (by rfl) (by rfl)) _

theorem State.stageMode_paint (r : ModeFields) : s.keepsPaintLaws (s.stageMode r) := by
  unfold State.stageMode
  split
  · exact State.refuse_paint _ _
  · exact State.samePaint.answer_paint (State.samePaint_of (by rfl) (by rfl) (by rfl) (by rfl)) _

theorem State.selectPage_paint (page : Byte) : s.keepsPaintLaws (s.selectPage page) := by
  unfold State.selectPage
  split
  · exact State.refuse_paint _ _
  · split
    · exact State.refuse_paint _ _
    · split
      · exact State.refuse_paint _ _
      · exact State.samePaint.keeps (State.samePaint_of rfl rfl rfl rfl)

/-- CONFIGURE DISPLAY clamps the threshold that it waits with to at least 1 (R114). -/
theorem State.configure_paint (r : ConfigureFields) : s.keepsPaintLaws (s.configure r) := by
  unfold State.configure
  split
  · exact State.refuse_paint _ _
  · split
    · exact State.refuse_paint _ _
    · split
      · exact State.refuse_paint _ _
      · refine ⟨fun ⟨hqueue, hslots, hfits⟩ => ⟨hqueue, hslots, hfits⟩, fun _ h => h, fun _ h => ⟨h.lag, fun c hc => ?_⟩⟩
        obtain rfl := Option.some.inj hc
        exact Nat.le_max_left _ _

theorem State.freeze_paint (r : FreezeFields) : s.keepsPaintLaws (s.freeze r) :=
  State.samePaint.answer_paint (State.samePaint_of (by rfl) (by rfl) (by rfl) (by rfl)) _

theorem State.thaw_paint : s.keepsPaintLaws s.thaw := by
  unfold State.thaw
  split
  · exact State.samePaint.answer_paint (State.samePaint_of (by rfl) (by rfl) (by rfl) (by rfl)) _
  · exact State.refuse_paint _ _

theorem State.readCells_paint (r : CellFields) : s.keepsPaintLaws (s.readCells r) := by
  unfold State.readCells
  dsimp only
  split
  · exact State.refuse_paint _ _
  · split
    · exact State.refuse_paint _ _
    · split
      · exact State.refuse_paint _ _
      · exact State.answer_paint _

theorem State.readWatch_paint : s.keepsPaintLaws s.readWatch :=
  State.samePaint.answer_paint (State.samePaint_of (by rfl) (by rfl) (by rfl) (by rfl)) _

theorem State.renotify_samePaint (s : State) : s.samePaint s.renotify := by
  unfold State.renotify
  split
  · exact State.samePaint_of rfl rfl rfl rfl
  · exact s.samePaint_refl

theorem State.samePaint.renotify_answer_paint {t : State} (h : s.samePaint t) (payload : List Byte) :
    s.keepsPaintLaws (t.renotify.answer payload) :=
  h.keeps.trans (t.renotify_samePaint.answer_paint payload)

theorem State.clearEvents_paint (kinds : EventSet) : s.keepsPaintLaws (s.clearEvents kinds) :=
  State.samePaint.renotify_answer_paint (State.samePaint_of (by rfl) (by rfl) (by rfl) (by rfl)) _

theorem State.setNoticeMask_paint (kinds : EventSet) : s.keepsPaintLaws (s.setNoticeMask kinds) :=
  State.samePaint.renotify_answer_paint (State.samePaint_of (by rfl) (by rfl) (by rfl) (by rfl)) _

/-! ### The painter (R75 to R79) -/

theorem slotOf_mem {n : Nat} {l : List (Nat × Slot)} {e : Nat × Slot} (h : slotOf n l = some e) :
    e ∈ l ∧ e.2.field = some n := by
  induction l with
  | nil => exact nomatch h
  | cons d rest ih =>
    unfold slotOf at h
    split at h
    · obtain rfl := Option.some.inj h
      exact ⟨List.mem_cons_self, ‹_›⟩
    · exact (ih h).imp_left (List.mem_cons_of_mem _)

theorem slotOf_eq_none_iff {n : Nat} {l : List (Nat × Slot)} : slotOf n l = none ↔ ∀ e ∈ l, e.2.field ≠ some n := by
  rw [← Option.not_isSome_iff_eq_none, slotOf_isSome_iff]
  exact ⟨fun h e he hn => h ⟨e, he, hn⟩, fun h ⟨e, he, hn⟩ => h e he hn⟩

/-- The slot that a render takes is one of the 32, and no other slot is its field's (R76). -/
theorem State.slotFor_spec {n k : Nat} (hslots : slotsLaw s.pnt.slots) (h : s.slotFor n = some k) :
    k < 32 ∧ ∀ e ∈ s.pnt.slots, e.2.field = some n → e.1 = k := by
  unfold State.slotFor at h
  split at h
  · rename_i j slot hslot
    obtain rfl := Option.some.inj h
    obtain ⟨hmem, hown⟩ := slotOf_mem hslot
    exact ⟨(hslots.each _ hmem).1, fun e he hn => by rw [hslots.owner_unique he hmem hn hown]⟩
  · rename_i hnone
    exact ⟨List.mem_range.1 (List.mem_of_find?_eq_some h), fun e he hn => absurd hn (slotOf_eq_none_iff.1 hnone e he)⟩

/-- What is shown of a change with the laws at hand. -/
theorem State.keepsPaintLaws_of_laws {t : State} (h : s.paintLaw → s.keepsPaintLaws t) : s.keepsPaintLaws t :=
  ⟨fun hs => (h hs).laws hs, fun hs => (h hs).routine hs, fun hs => (h hs).threshold hs⟩

/-- A visible field's content is written to its slot. -/
theorem State.insertSlot_paint {t : State} {k n : Nat} {f : Field} {content : SlotContent} (hfaces : s.sameFaces t)
    (hpnt : t.pnt = { s.pnt with slots := Store.insert k ⟨some n, content⟩ s.pnt.slots })
    (hwaiting : t.msg.pendingConfigure = s.msg.pendingConfigure) (hf : s.field? n = some f) (hv : s.shows f = true)
    (hw : content.width = f.width) (hlaw : slotsLaw (Store.insert k ⟨some n, content⟩ s.pnt.slots)) :
    s.keepsPaintLaws t where
  laws := by
    rintro ⟨⟨hnodup, hscreen⟩, -, hfits⟩
    have hscan : t.scanOrder = s.scanOrder := by rw [State.scanOrder, hpnt, State.scanOrder]
    refine ⟨⟨hscan ▸ hnodup, fun m hm => hfaces.onScreen (hscreen m (hscan ▸ hm))⟩, by rw [hpnt]; exact hlaw, ?_⟩
    rw [hpnt]
    intro e he
    rcases Store.mem_insert he with rfl | he
    · refine hfaces.slotFits fun m hm => ?_
      obtain rfl := Option.some.inj hm
      exact ⟨f, hf, hv, hw⟩
    · exact hfaces.slotFits (hfits e he)
  routine _ := hfaces.routineLaw fun e he => ⟨e, by rw [hpnt] at he; exact he, rfl⟩
  threshold _ hlag := by
    refine ⟨?_, fun c hc => hlag.waiting c (hwaiting ▸ hc)⟩
    rw [State.lagLaw, State.queuedTotal, hpnt]
    exact hlag.lag

theorem State.rendering_eq_false_iff : s.rendering = false ↔ ∀ e ∈ s.pnt.slots, e.2.content.isFilling = false := by
  rw [State.rendering, Option.isSome_eq_false_iff, Option.isNone_iff_eq_none, fillingSlot_eq_none_iff]

/-- A render begins: its field's entry leaves the queue, and its slot is FILLING where none was. -/
theorem State.beginRender_paint {n k : Nat} {f : Field} (hidle : s.rendering = false) (hn : n ∈ s.scanOrder)
    (hf : s.field? n = some f) (hk : s.slotFor n = some k) : s.keepsPaintLaws (s.beginRender n k f) := by
  refine State.keepsPaintLaws_of_laws fun hs => (State.removeEntry_paint n s.now).trans ?_
  obtain ⟨hbelow, hown⟩ := State.slotFor_spec hs.slots hk
  obtain ⟨g, hg, hv⟩ := hs.queue.2 n hn
  obtain rfl := Option.some.inj (hg.symm.trans hf)
  have hslots : (s.removeEntry n s.now).pnt.slots = s.pnt.slots := by simp
  refine State.insertSlot_paint (f := g) (State.sameFaces_of_fields rfl rfl) rfl rfl ?_ ?_ rfl ?_
  · rw [State.field?, State.removeEntry_fields]; exact hg
  · rw [State.shows, State.removeEntry_scr]; exact hv
  · rw [hslots]
    exact hs.slots.insert hbelow hown rfl fun _ => State.rendering_eq_false_iff.1 hidle

theorem State.paintNext_paint (s : State) : s.keepsPaintLaws s.paintNext := by
  unfold State.paintNext
  split
  · exact s.keepsPaintLaws_refl
  · rename_i hidle
    split
    · exact s.keepsPaintLaws_refl
    · rename_i n hserved
      split
      · simp only [Bool.or_eq_true, not_or, Bool.not_eq_true] at hidle
        exact State.beginRender_paint hidle.2 (List.mem_of_find?_eq_some hserved) ‹_› ‹_›
      · exact s.keepsPaintLaws_refl

/-- A render writes as many cells as its field was wide when it began (R26, R85). -/
theorem RenderInputs.rendered_length (i : RenderInputs) : i.rendered.cells.length = i.record.width := by
  unfold RenderInputs.rendered
  split
  · exact List.length_replicate
  · rw [List.length_map, formatValue_length]

theorem fillingSlot_mem {l : List (Nat × Slot)} {e : Nat × Slot} (h : fillingSlot l = some e) : e ∈ l :=
  List.mem_of_find?_eq_some (fillingSlot_eq_find? l ▸ h)

theorem State.finishRender_paint (s : State) : s.keepsPaintLaws s.finishRender := by
  unfold State.finishRender
  split
  · rename_i k n inputs hfilling
    refine State.keepsPaintLaws_of_laws fun hs => ?_
    have hmem := fillingSlot_mem hfilling
    obtain ⟨f, hf, hv, hw⟩ := hs.fits _ hmem n rfl
    have hinsert : slotsLaw (Store.insert k ⟨some n, .ready inputs.rendered⟩ s.pnt.slots) :=
      hs.slots.insert (hs.slots.each _ hmem).1 (fun e he hn => by rw [hs.slots.owner_unique he hmem hn rfl]) rfl
        fun hready => nomatch hready
    have hwritten := State.insertSlot_paint (s := s) (content := .ready inputs.rendered)
      (t := { s with pnt := { s.pnt with slots := Store.insert k ⟨some n, .ready inputs.rendered⟩ s.pnt.slots } })
      (State.sameFaces_of_fields rfl rfl) rfl rfl hf hv (inputs.rendered_length.trans hw) hinsert
    dsimp only
    split
    · rename_i g hg
      exact hwritten.trans (State.samePaint.keeps (State.putField_samePaint (f := g) hg rfl))
    · exact hwritten
  · exact State.keepsPaintLaws_of_erase (State.sameFaces_of_fields rfl rfl) rfl rfl
  · exact s.keepsPaintLaws_refl

end Sys2Proof.Machine
end

section
/-! Every step keeps the laws of PNT. -/

namespace Sys2Proof.Machine

variable {s : State}

theorem State.checkLength_paint {α : Type} {p : Carried α} {act : α → State → State}
    (h : ∀ a u, State.keepsPaintLaws u (act a u)) (u : State) : u.keepsPaintLaws (u.checkLength p act) := by
  cases p with
  | fields a => exact h a u
  | wrongLength _ => exact State.refuse_paint _ _

theorem State.take_paint {c : Instr} {act : State → State} {t : State} (hc : exec c s = s.takeThen c act)
    (h : ∀ u, State.keepsPaintLaws u (act u)) (ht : exec c s = .next t) : s.keepsPaintLaws t := by
  rw [hc] at ht
  rcases s.takeThen_cases c act with hsame | ⟨f, -, -, htaken⟩
  · obtain rfl := Host.Outcome.next.inj (hsame.symm.trans ht)
    exact s.keepsPaintLaws_refl
  · obtain rfl := Host.Outcome.next.inj (htaken.symm.trans ht)
    have htake : s.settle.samePaint (s.settle.take f) := State.samePaint_of rfl rfl rfl rfl
    exact s.settle_paint.trans (htake.keeps.trans (h _))

/-- A request whose own rule keeps the laws keeps them with its take and its checks. -/
theorem State.request_paint {α : Type} {c : Instr} {p : Carried α} {act : α → State → State} {t : State}
    (hc : exec c s = s.takeThen c fun u => u.checkLength p act) (h : ∀ a u, State.keepsPaintLaws u (act a u))
    (ht : exec c s = .next t) : s.keepsPaintLaws t :=
  State.take_paint hc (State.checkLength_paint h) ht

/-- A command that, unless something stands against it, takes the part to a state. -/
theorem State.paint_of_unless {t u : State} {stopped : Prop} [Decidable stopped]
    (ht : (if stopped then .next s else .next u : Host.Outcome State Fault Refusal) = .next t) (h : s.keepsPaintLaws u) :
    s.keepsPaintLaws t := by
  split at ht
  · obtain rfl := Host.Outcome.next.inj ht
    exact s.keepsPaintLaws_refl
  · obtain rfl := Host.Outcome.next.inj ht
    exact h

theorem execGapTimeout_paint {t : State} (h : execGapTimeout s = .next t) : s.keepsPaintLaws t :=
  State.paint_of_unless h (State.samePaint.keeps (State.samePaint_of (by simp [State.latchLine]) (by simp [State.latchLine])
    (by simp [State.latchLine]) (by simp [State.latchLine])))

theorem execTransmitComplete_paint {t : State} (h : execTransmitComplete s = .next t) : s.keepsPaintLaws t := by
  unfold execTransmitComplete at h
  split at h <;> obtain rfl := Host.Outcome.next.inj h <;> exact State.samePaint.keeps (State.samePaint_of rfl rfl rfl rfl)

theorem execResetDone_paint {t : State} (h : execResetDone s = .next t) : s.keepsPaintLaws t := by
  unfold execResetDone at h
  split at h <;> obtain rfl := Host.Outcome.next.inj h <;> exact State.samePaint.keeps (State.samePaint_of rfl rfl rfl rfl)

/-- One field's expiries taken ahead of the rest of the boundary, if they are next (R127, R128). -/
theorem State.expiryAhead_paint {t : State} {m : Nat} {f : Field} {due : Prop} [Decidable due]
    (hf : s.openBoundary.field? m = some f)
    (h : (if due then .next ((s.openBoundary.expireField m f s.boundaryNumber).markExamined (m + 1)) else .next s :
      Host.Outcome State Fault Refusal) = .next t) : s.keepsPaintLaws t := by
  split at h
  · obtain rfl := Host.Outcome.next.inj h
    exact s.openBoundary_samePaint.keeps.trans <| (State.expireField_paint _ _ hf).trans
      (State.markExamined_samePaint _ _).keeps
  · obtain rfl := Host.Outcome.next.inj h
    exact s.keepsPaintLaws_refl

theorem execStaleExpiry_paint {t : State} {m : Nat} (h : execStaleExpiry m s = .next t) : s.keepsPaintLaws t := by
  unfold execStaleExpiry at h
  dsimp only at h
  split at h
  · exact State.expiryAhead_paint ‹_› h
  · obtain rfl := Host.Outcome.next.inj h
    exact s.keepsPaintLaws_refl

theorem execFlashExpiry_paint {t : State} {m : Nat} (h : execFlashExpiry m s = .next t) : s.keepsPaintLaws t := by
  unfold execFlashExpiry at h
  dsimp only at h
  split at h
  · exact State.expiryAhead_paint ‹_› h
  · obtain rfl := Host.Outcome.next.inj h
    exact s.keepsPaintLaws_refl

theorem exec_paint (c : Instr) {t : State} (h : exec c s = .next t) : s.keepsPaintLaws t := by
  cases c with
  | identify => exact State.request_paint (exec_identify ..) (fun _ _ => State.answer_paint _) h
  | readStatus => exact State.request_paint (exec_readStatus ..) (fun _ _ => State.answer_paint _) h
  | configureDisplay => exact State.request_paint (exec_configureDisplay ..) (fun r _ => State.configure_paint r) h
  | setPalette => exact State.request_paint (exec_setPalette ..) (fun r _ => State.setPalette_paint r) h
  | displayMode => exact State.request_paint (exec_displayMode ..) (fun r _ => State.stageMode_paint r) h
  | selectPage => exact State.request_paint (exec_selectPage ..) (fun page _ => State.selectPage_paint page) h
  | freeze => exact State.request_paint (exec_freeze ..) (fun r _ => State.freeze_paint r) h
  | thaw => exact State.request_paint (exec_thaw ..) (fun _ _ => State.thaw_paint) h
  | reset => exact State.request_paint (exec_reset ..) (fun _ u => u.beginReset_paint _ _ _) h
  | defineField => exact State.request_paint (exec_defineField ..) (fun r _ => State.define_paint r) h
  | restyleField => exact State.request_paint (exec_restyleField ..) (fun r _ => State.restyle_paint r) h
  | setLimits => exact State.request_paint (exec_setLimits ..) (fun r _ => State.setLimits_paint r) h
  | deleteField => exact State.request_paint (exec_deleteField ..) (fun number _ => State.delete_paint number) h
  | readField => exact State.request_paint (exec_readField ..) (fun number _ => State.readField_paint number) h
  | post => exact State.request_paint (exec_post ..) (fun r _ => State.post_paint r) h
  | postBatch => exact State.request_paint (exec_postBatch ..) (fun entries _ => State.postBatch_paint entries) h
  | postText => exact State.request_paint (exec_postText ..) (fun r _ => State.postText_paint r) h
  | unhold => exact State.request_paint (exec_unhold ..) (fun number _ => State.unhold_paint number) h
  | ackAlert => exact State.request_paint (exec_ackAlert ..) (fun number _ => State.ack_paint number) h
  | ackAlertAll => exact State.take_paint (exec_ackAlertAll ..) (fun _ => State.ackAll_paint) h
  | readAlerts => exact State.request_paint (exec_readAlerts ..) (fun _ _ => State.answer_paint _) h
  | readWatch => exact State.request_paint (exec_readWatch ..) (fun _ _ => State.readWatch_paint) h
  | clearEvents => exact State.request_paint (exec_clearEvents ..) (fun kinds _ => State.clearEvents_paint kinds) h
  | setNoticeMask =>
    exact State.request_paint (exec_setNoticeMask ..) (fun kinds _ => State.setNoticeMask_paint kinds) h
  | readFault => exact State.request_paint (exec_readFault ..) (fun _ _ => State.answer_paint _) h
  | readCells => exact State.request_paint (exec_readCells ..) (fun r _ => State.readCells_paint r) h
  | unknownType => exact State.take_paint (exec_unknownType ..) (fun _ => State.refuse_paint _ _) h
  | badCheck => exact State.take_paint (exec_badCheck ..) (fun _ => State.refuse_paint _ _) h
  | frameReceived signals => exact State.paint_of_unless h (s.receiveSignals_paint signals)
  | gapTimeout => exact execGapTimeout_paint h
  | transmitBegin => exact State.paint_of_unless h (State.samePaint.keeps (State.samePaint_of rfl rfl rfl rfl))
  | transmitComplete => exact execTransmitComplete_paint h
  | resetn straps =>
    obtain rfl := Host.Outcome.next.inj h
    exact s.beginReset_paint _ _ straps
  | resetDone => exact execResetDone_paint h
  | frameBoundary order => exact State.paint_of_unless h (s.takeBoundary_paint order)
  | blinkToggle =>
    exact State.paint_of_unless h (s.openBoundary_samePaint.keeps.trans (State.judgeBlink_samePaint _ _).keeps)
  | freezeExpired =>
    exact State.paint_of_unless h (s.openBoundary_samePaint.keeps.trans (State.expireFreeze_samePaint _ _).keeps)
  | staleExpiry => exact execStaleExpiry_paint h
  | flashExpiry => exact execFlashExpiry_paint h
  | aging => exact State.paint_of_unless h (s.openBoundary_samePaint.keeps.trans (State.age_paint _))
  | pageChange =>
    exact State.paint_of_unless h (s.openBoundary_samePaint.keeps.trans (State.applyPendingPage_paint _ _))
  | configurationApply =>
    exact State.paint_of_unless h (s.openBoundary_samePaint.keeps.trans (State.applyPendingConfigure_paint _ _))
  | renderBegin => exact State.paint_of_unless h (s.settle_paint.trans (State.paintNext_paint _))
  | renderComplete => exact State.paint_of_unless h (s.settle_paint.trans (State.finishRender_paint _))

theorem step_paint {t : State} (h : step s = .next t) : s.keepsPaintLaws t := by
  unfold step at h
  split at h
  · obtain rfl := Host.Outcome.next.inj h
    exact s.keepsPaintLaws_refl
  · rename_i c rest _
    have hrest : s.keepsPaintLaws { s with pending := rest } := State.samePaint.keeps (State.samePaint_of rfl rfl rfl rfl)
    exact hrest.trans (exec_paint c h)

/-- Settles O58: every change that a step can make is one that `keepsPaintLaws` names. LAGGING's law is carried with the
threshold of a configuration that waits, which CONFIGURE DISPLAY clamps (R114). -/
theorem everyStepKeepsPaintLaws : Obligations.EveryStepKeepsPaintLaws := by
  intro s t _ hqueue hslots hcells hstep
  have h := step_paint hstep
  obtain ⟨hpool, hfits⟩ := s.slotLaw_and_cellsLaw_iff.1 ⟨hslots, hcells⟩
  have hs : s.paintLaw := ⟨hqueue, hpool, hfits⟩
  obtain ⟨hqueue', hpool', hfits'⟩ := h.laws hs
  refine ⟨⟨hqueue', t.slotLaw_and_cellsLaw_iff.2 ⟨hpool', hfits'⟩⟩, h.routine hs, fun hscreen hlag => ?_⟩
  obtain ⟨-, -, -, -, -, -, -, -, -, -, hwaiting, -⟩ := hscreen
  refine (h.threshold hs ⟨hlag, fun c hc => ?_⟩).lag
  obtain ⟨-, -, -, -, -, hthreshold, -⟩ := hwaiting c hc
  exact hthreshold

end Sys2Proof.Machine
end

section
/-! The painter's choice of an entry and of a slot (R68, R75, R76, R78, R80). -/

namespace Sys2Proof.Machine

variable {s : State}

/-! ### The slot (R76) -/

theorem State.freeSlot_isSome_iff : s.freeSlot.isSome = true ↔ ∃ k < 32, Store.find? k s.pnt.slots = none := by
  simp [State.freeSlot, slotCount]

theorem State.freeSlot_eq_some {k : Nat} (hk : k < 32) (hfree : Store.find? k s.pnt.slots = none)
    (hlowest : ∀ j < k, Store.find? j s.pnt.slots ≠ none) : s.freeSlot = some k := by
  rw [State.freeSlot, slotCount, List.find?_range_eq_some]
  refine ⟨by simp [hfree], List.mem_range.2 hk, fun j hj => ?_⟩
  simpa [Option.isSome_iff_ne_none] using hlowest j hj

theorem slotsLaw.slotOf_eq {l : List (Nat × Slot)} (h : slotsLaw l) {e : Nat × Slot} {n : Nat} (he : e ∈ l)
    (hn : e.2.field = some n) : slotOf n l = some e :=
  slotOf_eq_some he hn fun _ hd hdn => h.owner_unique hd he hdn hn

theorem SlotContent.isReady_eq (c : SlotContent) : c.isReady = !c.isFilling := by cases c <;> rfl

/-- The slot of the field, or the lowest FREE one where it holds none. -/
theorem State.slotFor_eq_some (hslots : slotsLaw s.pnt.slots) {n k : Nat}
    (h : (∃ slot, (k, slot) ∈ s.pnt.slots ∧ slot.field = some n) ∨
      ((∀ e ∈ s.pnt.slots, e.2.field ≠ some n) ∧ k < 32 ∧ Store.find? k s.pnt.slots = none ∧
        ∀ j < k, Store.find? j s.pnt.slots ≠ none)) : s.slotFor n = some k := by
  unfold State.slotFor
  rcases h with ⟨slot, hmem, hown⟩ | ⟨hnone, hk, hfree, hlowest⟩
  · rw [hslots.slotOf_eq hmem hown]
  · rw [slotOf_eq_none hnone]
    exact State.freeSlot_eq_some hk hfree hlowest

/-! ### The entry (R75) -/

/-- An entry can be served where its field holds a READY slot or a slot is FREE. -/
theorem State.servable_iff (hslots : slotsLaw s.pnt.slots) (n : Nat) :
    s.servable n = true ↔
      (∃ e ∈ s.pnt.slots, e.2.field = some n ∧ e.2.content.isFilling = false) ∨
        ∃ k < 32, Store.find? k s.pnt.slots = none := by
  rw [State.servable, Bool.or_eq_true, State.freeSlot_isSome_iff]
  refine or_congr_left ?_
  simp only [State.holdsReadySlot, Option.any_eq_true, SlotContent.isReady_eq, Bool.not_eq_true']
  constructor
  · rintro ⟨e, he, hready⟩
    obtain ⟨hmem, hn⟩ := slotOf_mem he
    exact ⟨e, hmem, hn, hready⟩
  · rintro ⟨e, he, hn, hready⟩
    exact ⟨e, hslots.slotOf_eq he hn, hready⟩

theorem State.nextServed_of_none (h : ∀ n ∈ s.scanOrder, ¬s.servable n = true) : s.nextServed = none :=
  List.find?_eq_none.2 h

theorem State.nextServed_of_first {before after : List Nat} {n : Nat} (hscan : s.scanOrder = before ++ n :: after)
    (hbefore : ∀ m ∈ before, ¬s.servable m = true) (hn : s.servable n = true) : s.nextServed = some n :=
  List.find?_eq_some_iff_append.2 ⟨hn, before, after, hscan, fun m hm => by simpa using hbefore m hm⟩

/-- The field whose slot or FREE slot is found can be served. -/
theorem State.servable_of_slotFor (hslots : slotsLaw s.pnt.slots) (hidle : ∀ e ∈ s.pnt.slots, e.2.content.isFilling = false)
    {n k : Nat} (h : s.slotFor n = some k) : s.servable n = true := by
  rw [State.servable_iff hslots]
  unfold State.slotFor at h
  split at h
  · rename_i slot hslot
    obtain ⟨hmem, hn⟩ := slotOf_mem hslot
    exact .inl ⟨_, hmem, hn, hidle _ hmem⟩
  · exact .inr (State.freeSlot_isSome_iff.1 (Option.isSome_of_eq_some h))

/-! ### RENDER_BEGIN -/

theorem exec_renderBegin_of_between (hreset : s.resetCause = none) (hboundary : s.boundary = none) :
    exec .renderBegin s = .next s.paintNext := by
  have hexec : exec .renderBegin s = if s.inReset then .next s else .next s.settle.paintNext := rfl
  simp [hexec, State.inReset, hreset, State.settle_of_none hboundary]

theorem State.paintNext_of_busy (h : s.scr.frozen = true ∨ s.rendering = true) : s.paintNext = s :=
  if_pos (Bool.or_eq_true_iff.2 h)

theorem State.paintNext_of_unserved (h : s.nextServed = none) : s.paintNext = s := by
  unfold State.paintNext
  rw [h]
  split <;> rfl

theorem State.paintNext_of_served {n k : Nat} {f : Field} (hfrozen : s.scr.frozen = false) (hidle : s.rendering = false)
    (hn : s.nextServed = some n) (hf : s.field? n = some f) (hk : s.slotFor n = some k) :
    s.paintNext = s.beginRender n k f := by
  simp [State.paintNext, hfrozen, hidle, hn, hf, hk]

/-- Settles O42: the first servable entry is the one that `nextServed` finds, and its slot the one of `slotFor`. -/
theorem renderBeginsFirstServable : Obligations.RenderBeginsFirstServable := by
  intro s hreset hboundary hlaw rendering servable
  obtain ⟨hrising, heach, hfilling, howners, -⟩ := hlaw
  have hslots : slotsLaw s.pnt.slots := ⟨hrising, heach, hfilling, howners⟩
  have hrendering : s.rendering = false ↔ ¬rendering := by
    simp only [State.rendering_eq_false_iff, rendering, not_exists, not_and, Bool.not_eq_true]
  have hservable : ∀ n, ¬servable n → ¬s.servable n = true := fun n => mt (State.servable_iff hslots n).1
  rw [exec_renderBegin_of_between hreset hboundary]
  refine ⟨fun h => ?_, fun hfrozen hidle before n after f k hscan hbefore hf hslot => ?_⟩
  · rcases h with hfrozen | hbusy | hnone
    · rw [State.paintNext_of_busy (.inl hfrozen)]
    · rw [State.paintNext_of_busy (.inr (by simpa using mt hrendering.1 (not_not.2 hbusy)))]
    · rw [State.paintNext_of_unserved (State.nextServed_of_none fun n hn => hservable n (hnone n hn))]
  · have hk := State.slotFor_eq_some hslots hslot
    have hpainter := hrendering.2 hidle
    have hn := State.servable_of_slotFor hslots (State.rendering_eq_false_iff.1 hpainter) hk
    have hserved := State.nextServed_of_first hscan (fun m hm => hservable m (hbefore m hm)) hn
    have hpaint := State.paintNext_of_served hfrozen hpainter hserved hf hk
    refine ⟨_, congrArg _ hpaint, ?_, s.removeEntry_dequeued n s.now, ?_, ?_, ?_, ⟨?_, ?_⟩,
      s.removeEntry_reported n s.now, hpaint ▸ s.paintNext_line, ?_, ?_⟩ <;>
      simp [State.beginRender, State.renderInputs, State.now, hboundary]

end Sys2Proof.Machine
end

section
/-! What a render shows, and in which colours (R81 to R84). -/

namespace Sys2Proof.Machine

/-! ### The tick (R82, R83) -/

/-- The direction in which the current value has moved from the shown one (R82). -/
def Field.moved (f : Field) : Option Direction :=
  match f.value, f.shown with
  | some (.number v), some (.number u) =>
    if u.toInt < v.toInt then some .up else if v.toInt < u.toInt then some .down else none
  | _, _ => none

theorem Field.tick_eq (f : Field) : f.tick = if f.state = .live ∧ f.format ≠ .text then f.moved else none := by
  simp only [Field.tick, Bool.and_eq_true, decide_eq_true_eq, bne_iff_ne]
  rfl

theorem Field.flashStarts_iff (f : Field) :
    f.flashStarts = true ↔ (f.state = .live ∧ f.format ≠ .text ∧ f.moved ≠ none) ∧ f.flashLength ≠ 0 := by
  rw [Field.flashStarts, Field.tick_eq, Bool.and_eq_true, bne_iff_ne]
  by_cases hticks : f.state = .live ∧ f.format ≠ .text
  · simp [hticks, Option.isSome_iff_ne_none]
  · rw [if_neg hticks]
    simp only [Option.isSome_none, Bool.false_eq_true, false_and, false_iff]
    exact fun h => hticks ⟨h.1.1, h.1.2.1⟩

theorem Field.renderDirection_eq (f : Field) :
    f.renderDirection = if f.state = .live ∧ f.format ≠ .text then f.moved.getD f.direction else f.direction := by
  rw [Field.renderDirection, Field.tick_eq]
  split <;> rfl

/-! ### The cells (R84) -/

/-- A field flashes while it is LIVE and its flash starts or its deadline is not reached (R84). -/
def Field.flashes (f : Field) (began : FrameNo) : Bool :=
  f.state = .live && (f.flashStarts || f.flashDeadline.any fun e => !reached e began)

theorem Field.flashes_iff (f : Field) (began : FrameNo) :
    f.flashes began = true ↔
      f.state = .live ∧ (f.flashStarts = true ∨
        ∃ d, f.flashDeadline = some d ∧ ¬deadlineReached (some d) began) := by
  simp [Field.flashes, Option.any_eq_true, deadlineReached, reached]

/-- The foreground of a cell: the stale colour, the background colour while flashing, or that of step 2 (R84). -/
theorem Field.cellStyle_fg (f : Field) (began : FrameNo) :
    (f.cellStyle began).fg =
      if f.state = .stale ∨ f.state = .held then f.style.stale
      else if f.flashes began = true then f.style.b
      else tint f.style f.style.f (if f.format = .change then signOf f.display else f.renderDirection) := by
  simp [Field.cellStyle, Field.flashes]

/-- The background of a cell, which a latched alert overrides (R84). -/
theorem Field.cellStyle_bg (f : Field) (began : FrameNo) :
    (f.cellStyle began).bg =
      if f.alertLatched = true then f.style.alert
      else if f.state = .stale ∨ f.state = .held then f.style.b
      else if f.flashes began = true then tint f.style f.style.b f.renderDirection
      else f.style.b := by
  simp [Field.cellStyle, Field.flashes]

/-- Settles O45: each part of the render is the model's, in the words of R81 to R84. -/
theorem renderShowsStateAndColours : Obligations.RenderShowsStateAndColours := by
  intro f began cell y moved ticks direction sign flashing of
  have hstarts : f.flashStarts = true ↔ ticks ∧ f.flashLength ≠ 0 := f.flashStarts_iff
  have hdirection : f.renderDirection = direction := f.renderDirection_eq
  have hflashes : f.flashes began = true ↔ flashing := by rw [Field.flashes_iff, hstarts]
  have hof : ∀ c d, tint f.style c d = of c d := fun c d => by cases d <;> rfl
  have hsign : signOf f.display = sign := by unfold signOf; rfl
  refine ⟨?_, hdirection, hstarts, fun hquiet => ?_, fun hlive => ?_, fun halert => ?_, rfl, ?_⟩
  · unfold Field.display; rfl
  · exact ⟨(f.cellStyle_fg began).trans (if_pos hquiet), fun hcalm => by
      rw [f.cellStyle_bg, hcalm, if_neg Bool.false_ne_true, if_pos hquiet]⟩
  · have hloud : ¬(f.state = .stale ∨ f.state = .held) := by simp [hlive]
    have hfg := (f.cellStyle_fg began).trans (if_neg hloud)
    have hbg := fun hcalm : f.alertLatched = false =>
      (f.cellStyle_bg began).trans ((if_neg (by simp [hcalm])).trans (if_neg hloud))
    rw [hof, hsign, hdirection] at hfg
    rw [hof, hdirection] at hbg
    refine ⟨fun hyes => ?_, fun hno => ?_⟩
    · have hyes := hflashes.2 hyes
      exact ⟨hfg.trans (if_pos hyes), fun hcalm => (hbg hcalm).trans (if_pos hyes)⟩
    · have hno := mt hflashes.1 hno
      exact ⟨hfg.trans (if_neg hno), fun hcalm => (hbg hcalm).trans (if_neg hno)⟩
  · exact (f.cellStyle_bg began).trans (if_pos halert)
  · exact decide_eq_true_iff

end Sys2Proof.Machine
end

section
/-! Aging (R69). -/

namespace Sys2Proof.Machine

variable {s : State}

theorem exec_aging_of_running (hreset : s.resetCause = none) : exec .aging s = .next s.openBoundary.age := by
  have hexec : exec .aging s = if s.inReset then .next s else .next s.openBoundary.age := rfl
  simp [hexec, State.inReset, hreset]

/-- The first block to take a part of the next boundary begins it, and the others find it begun. -/
theorem State.openBoundary_eq (s : State) : s.openBoundary = { s with boundary := some s.begun } := by
  unfold State.openBoundary State.begun
  cases hb : s.boundary with
  | none => rfl
  | some b => dsimp only; rw [← hb]

theorem State.openBoundary_of_some {b : Boundary} (h : s.boundary = some b) : s.openBoundary = s := by
  rw [State.openBoundary, h]

theorem State.age_of_aged {b : Boundary} (h : s.boundary = some b) (haged : b.aged = true) : s.age = s := by
  simp [State.age, h, haged]

/-- What aging leaves of PNT, where the boundary has not aged ROUTINE yet. -/
theorem State.age_of_unaged {b : Boundary} (h : s.boundary = some b) (haged : b.aged = false) :
    s.age = { s with
      pnt := { s.pnt with
        urgent :=
          s.pnt.urgent.filter (fun m => !b.fresh.contains m) ++
            (s.pnt.routine.filter (RoutineEntry.promoted b.fresh s.pnt.ageLimit)).map RoutineEntry.field ++
            s.pnt.urgent.filter (fun m => b.fresh.contains m)
        routine :=
          (s.pnt.routine.filter fun e => !e.promoted b.fresh s.pnt.ageLimit).map (RoutineEntry.aged b.fresh) }
      boundary := some { b with aged := true } } := by
  simp [State.age, h, haged]

theorem RoutineEntry.promoted_iff (fresh : List Nat) (limit : Nat) (e : RoutineEntry) :
    e.promoted fresh limit = true ↔ e.field ∉ fresh ∧ limit ≤ e.wait + 1 := by
  simp [RoutineEntry.promoted]

theorem RoutineEntry.promoted_nil (limit : Nat) : RoutineEntry.promoted [] limit = fun e => decide (limit ≤ e.wait + 1) := by
  funext e
  simp [RoutineEntry.promoted]

theorem RoutineEntry.aged_nil : RoutineEntry.aged [] = fun e => { e with wait := e.wait + 1 } := rfl

theorem RoutineEntry.aged_of_fresh {fresh : List Nat} {e : RoutineEntry} (h : e.field ∈ fresh) : e.aged fresh = e := by
  simp [RoutineEntry.aged, h]

theorem RoutineEntry.aged_of_old {fresh : List Nat} {e : RoutineEntry} (h : e.field ∉ fresh) :
    e.aged fresh = { e with wait := e.wait + 1 } := by
  simp [RoutineEntry.aged, h]

/-- Settles O50: AGING is `age` on the boundary that it opens or finds begun. -/
theorem agingPromotesEntries : Obligations.AgingPromotesEntries := by
  intro s hreset
  rw [exec_aging_of_running hreset]
  refine ⟨fun hnone => ?_, fun b hb haged => ?_, fun b hb hunaged => ?_⟩
  · have hbegun : s.begun =
        { held := s.scr.frozen && s.scr.timerHold, aged := false, toggled := false, examined := 0, fresh := [] } := by
      rw [State.begun, hnone]
    rw [State.openBoundary_eq, hbegun, State.age_of_unaged rfl rfl]
    simp [RoutineEntry.promoted_nil, RoutineEntry.aged_nil, ← decide_not]
  · rw [State.openBoundary_of_some hb, State.age_of_aged hb haged]
  · rw [State.openBoundary_of_some hb, State.age_of_unaged hb hunaged]
    have hstays : ∀ e ∈ s.pnt.routine, (e.field ∈ b.fresh ∨ e.wait + 1 < s.pnt.ageLimit) → e.aged b.fresh ∈
        (s.pnt.routine.filter fun e => !e.promoted b.fresh s.pnt.ageLimit).map (RoutineEntry.aged b.fresh) := by
      intro e he hkept
      refine List.mem_map_of_mem (List.mem_filter.2 ⟨he, ?_⟩)
      rw [Bool.not_eq_true', ← Bool.not_eq_true, RoutineEntry.promoted_iff]
      rintro ⟨hold, hlimit⟩
      exact hkept.elim hold fun hlow => by omega
    refine ⟨_, rfl, rfl, rfl, rfl, rfl, rfl, rfl, fun e he hfresh => ?_, fun e he hold hlow => ?_,
      fun e he hold hlimit => ?_, fun m hm => ?_⟩
    · have := hstays e he (.inl hfresh)
      rwa [RoutineEntry.aged_of_fresh hfresh] at this
    · have := hstays e he (.inr hlow)
      rwa [RoutineEntry.aged_of_old hold] at this
    · have hpromoted := (RoutineEntry.promoted_iff b.fresh s.pnt.ageLimit e).2 ⟨hold, hlimit⟩
      exact List.mem_append_left _ (List.mem_append_right _ (List.mem_map_of_mem (List.mem_filter.2 ⟨he, hpromoted⟩)))
    · by_cases hfresh : m ∈ b.fresh <;> simp [hm, hfresh]

end Sys2Proof.Machine
end

section
/-! LAGGING and its event over several changes of the queue in a row (R71, R152, R153). -/

namespace Sys2Proof.Machine

variable {s : State}

/-! ### Latching the same kind again -/

theorem EventSet.or_none (k : EventSet) : k ||| 0 = k := BitVec.or_zero

theorem EventSet.none_or (k : EventSet) : 0 ||| k = k := BitVec.zero_or

/-- Two changes in a row that hand over the same kinds, or of which one hands over none, are one change to AEU. -/
theorem State.latchedOnce_trans {t u : State} {k l : EventSet} {n : FrameNo} (h : s.latchedOnce t k n)
    (h' : t.latchedOnce u l n) (hkinds : k = l ∨ k = 0 ∨ l = 0) : s.latchedOnce u (k ||| l) n := by
  obtain ⟨hlatched, hmask, hnotice⟩ := h
  obtain ⟨hlatched', hmask', hnotice'⟩ := h'
  refine ⟨by rw [hlatched', hlatched, BitVec.or_assoc], hmask'.trans hmask, ?_⟩
  rw [hlatched, hmask] at hnotice'
  rcases hkinds with rfl | rfl | rfl
  · have hagain : k &&& ~~~(s.aeu.latched ||| k) &&& s.aeu.noticeMask = 0 := by ext i hi; simp; grind
    rw [if_neg (by simp [hagain])] at hnotice'
    rw [BitVec.or_self]
    split at hnotice <;> rename_i hdue
    · obtain ⟨hout, placed, hslot⟩ := hnotice
      rw [if_pos hdue]
      exact ⟨hnotice'.1.trans hout, placed, hnotice'.2.trans hslot⟩
    · rw [if_neg hdue]
      exact ⟨hnotice'.1.trans hnotice.1, hnotice'.2.trans hnotice.2⟩
  · rw [if_neg (by simp)] at hnotice
    rw [hnotice.1, hnotice.2, EventSet.or_none] at hnotice'
    rwa [EventSet.none_or]
  · rw [if_neg (by simp)] at hnotice'
    rwa [EventSet.or_none, hnotice'.1, hnotice'.2]

/-- A change that leaves latches and notice alone hands over no kind. -/
theorem State.latchedOnce_none {t : State} {n : FrameNo} (hlatched : t.aeu.latched = s.aeu.latched)
    (hmask : t.aeu.noticeMask = s.aeu.noticeMask) (hout : t.aeu.noticeOutstanding = s.aeu.noticeOutstanding)
    (hslot : t.lnk.notice = s.lnk.notice) : s.latchedOnce t 0 n :=
  ⟨by rw [hlatched, EventSet.or_none], hmask, by rw [if_neg (by simp)]; exact ⟨hout, hslot⟩⟩

/-- The kinds that a rise of LAGGING hands over (R71). -/
def riseKinds (before after : Bool) : EventSet := if before = false ∧ after = true then 0x0200 else 0

theorem riseKinds_self (x : Bool) : riseKinds x x = 0 := by cases x <;> rfl

theorem State.latchedOnce_of_lagReported {t : State} {n : FrameNo} (h : s.lagReported t n) :
    s.latchedOnce t (riseKinds s.pnt.lagging t.pnt.lagging) n := by
  obtain ⟨h, -⟩ := h
  unfold riseKinds
  split at h <;> rename_i hrise
  · rwa [if_pos hrise]
  · obtain ⟨hlatched, hmask, hout, hslot⟩ := h
    rw [if_neg hrise]
    exact State.latchedOnce_none hlatched hmask hout hslot

/-- Where LAGGING does not go back, its rises in a row are one. -/
theorem State.latchedOnce_rise_trans {t u : State} {n : FrameNo}
    (h : s.latchedOnce t (riseKinds s.pnt.lagging t.pnt.lagging) n)
    (h' : t.latchedOnce u (riseKinds t.pnt.lagging u.pnt.lagging) n)
    (hback : t.pnt.lagging = s.pnt.lagging ∨ t.pnt.lagging = u.pnt.lagging) :
    s.latchedOnce u (riseKinds s.pnt.lagging u.pnt.lagging) n := by
  rcases hback with hback | hback <;> rw [hback] at h h' <;> rw [riseKinds_self] at *
  · simpa using State.latchedOnce_trans h h' (.inr (.inl rfl))
  · simpa using State.latchedOnce_trans h h' (.inr (.inr rfl))

/-! ### LAGGING along growing or shrinking totals -/

theorem lagAfter_false (threshold total : Nat) : lagAfter false threshold total = decide (threshold ≤ total) := rfl

/-- True LAGGING falls below half the threshold, and at 0 (R71, R72). -/
theorem lagAfter_true (threshold total : Nat) :
    lagAfter true threshold total = decide (1 ≤ total ∧ threshold / 2 ≤ total) := by
  by_cases htotal : threshold / 2 ≤ total <;> by_cases hhalf : threshold / 2 = 0 <;> by_cases hzero : total = 0 <;>
    simp [lagAfter, htotal, hhalf, hzero, Nat.one_le_iff_ne_zero] <;> omega

/-- LAGGING that stands as a total leaves it goes back on no larger total once it is true, and on no smaller one once it is
false: judging it on the way changes nothing. -/
theorem lagAfter_on_the_way {lagging : Bool} {threshold a b c : Nat} (hlow : 1 ≤ threshold)
    (ha : lagging = lagAfter lagging threshold a) (horder : (a ≤ b ∧ b ≤ c) ∨ (b ≤ a ∧ c ≤ b)) :
    lagAfter (lagAfter lagging threshold b) threshold c = lagAfter lagging threshold c ∧
      (lagAfter lagging threshold b = lagging ∨ lagAfter lagging threshold b = lagAfter lagging threshold c) := by
  cases lagging with
  | false =>
    have hno : ¬threshold ≤ a := by simpa [lagAfter_false] using ha
    by_cases hb : threshold ≤ b
    · have hc : threshold ≤ c := by omega
      have hkept : 1 ≤ c ∧ threshold / 2 ≤ c := by omega
      simp only [lagAfter_false, lagAfter_true, decide_eq_true hb, decide_eq_true hc, decide_eq_true hkept, or_true, and_true]
    · simp only [lagAfter_false, decide_eq_false hb, true_or, and_true]
  | true =>
    have hyes : 1 ≤ a ∧ threshold / 2 ≤ a := by simpa [lagAfter_true] using ha
    by_cases hb : 1 ≤ b ∧ threshold / 2 ≤ b
    · simp only [lagAfter_true, decide_eq_true hb, true_or, and_true]
    · have hc : ¬(1 ≤ c ∧ threshold / 2 ≤ c) := by omega
      have hlow : ¬threshold ≤ c := by omega
      simp only [lagAfter_false, lagAfter_true, decide_eq_false hb, decide_eq_false hc, decide_eq_false hlow, or_true, and_true]

/-- What a change of the queue does to LAGGING that obeyed its law: it is judged on the total that the change comes to, and
PAINT_LAG latches where it has risen (R71). -/
structure State.lagFollows (s t : State) (n : FrameNo) : Prop where
  threshold : t.pnt.lagThreshold = s.pnt.lagThreshold
  lagging : t.pnt.lagging = lagAfter s.pnt.lagging s.pnt.lagThreshold t.queuedTotal
  latched : s.latchedOnce t (riseKinds s.pnt.lagging t.pnt.lagging) n

theorem State.lagFollows.lagLaw {t : State} {n : FrameNo} (h : s.lagFollows t n) (hs : s.lagLaw) : t.lagLaw :=
  State.lagLaw_of_judged (lagging := s.pnt.lagging) (h.threshold ▸ hs.1) (h.threshold ▸ h.lagging)

theorem State.lagFollows.trans {t u : State} {n : FrameNo} (h : s.lagFollows t n) (k : t.lagFollows u n) (hs : s.lagLaw)
    (horder : (s.queuedTotal ≤ t.queuedTotal ∧ t.queuedTotal ≤ u.queuedTotal) ∨
      (t.queuedTotal ≤ s.queuedTotal ∧ u.queuedTotal ≤ t.queuedTotal)) : s.lagFollows u n := by
  obtain ⟨hjudged, hback⟩ := lagAfter_on_the_way hs.1 hs.2 horder
  have hlagging : u.pnt.lagging = lagAfter s.pnt.lagging s.pnt.lagThreshold u.queuedTotal := by
    rw [k.lagging, h.lagging, h.threshold, hjudged]
  refine ⟨k.threshold.trans h.threshold, hlagging, State.latchedOnce_rise_trans h.latched k.latched ?_⟩
  rw [hlagging, h.lagging]
  exact hback

theorem State.lagFollows_refl (n : FrameNo) (h : s.lagLaw) : s.lagFollows s n := by
  refine ⟨rfl, h.2, ?_⟩
  rw [riseKinds_self]
  exact State.latchedOnce_none rfl rfl rfl rfl

/-- `lagFollows` sees the lists and LAGGING of PNT, and the latches and the notice slot, alone. -/
theorem State.lagFollows_congr {t t' : State} {n : FrameNo} (hurgent : t'.pnt.urgent = t.pnt.urgent)
    (hroutine : t'.pnt.routine = t.pnt.routine) (hthreshold : t'.pnt.lagThreshold = t.pnt.lagThreshold)
    (hlagging : t'.pnt.lagging = t.pnt.lagging) (hlatched : t'.aeu.latched = t.aeu.latched)
    (hmask : t'.aeu.noticeMask = t.aeu.noticeMask) (hout : t'.aeu.noticeOutstanding = t.aeu.noticeOutstanding)
    (hslot : t'.lnk.notice = t.lnk.notice) (h : s.lagFollows t n) : s.lagFollows t' n := by
  obtain ⟨h1, h2, h3⟩ := h
  refine ⟨hthreshold.trans h1, ?_, ?_⟩
  · rw [State.queuedTotal, hlagging, hurgent, hroutine]
    exact h2
  · simpa only [State.latchedOnce, hlagging, hlatched, hmask, hout, hslot] using h3

/-! ### Entries that leave the queue -/

theorem State.removeEntry_total_le (n : Nat) (at_ : FrameNo) : (s.removeEntry n at_).queuedTotal ≤ s.queuedTotal := by
  rw [← State.length_scanOrder, State.removeEntry_scanOrder, ← State.length_scanOrder]
  exact List.length_filter_le _ _

theorem State.removeEntry_lagFollows (n : Nat) (at_ : FrameNo) (hs : s.lagLaw) : s.lagFollows (s.removeEntry n at_) at_ := by
  obtain ⟨-, -, -, hthreshold, hlagging⟩ := s.removeEntry_dequeued n at_
  refine ⟨hthreshold, ?_, State.latchedOnce_of_lagReported (s.removeEntry_reported n at_)⟩
  split at hlagging
  · exact hlagging
  · have hlaw := (State.removeEntry_lagLaw n at_ hs).2
    rw [hthreshold, hlagging] at hlaw
    exact hlagging.trans hlaw

theorem State.removeEntries_lagFollows (at_ : FrameNo) (l : List Nat) (hs : s.lagLaw) :
    s.lagFollows (s.removeEntries at_ l) at_ ∧ (s.removeEntries at_ l).queuedTotal ≤ s.queuedTotal := by
  induction l generalizing s with
  | nil => exact ⟨State.lagFollows_refl at_ hs, le_rfl⟩
  | cons n rest ih =>
    have hfirst := State.removeEntry_lagFollows n at_ hs
    have hle := State.removeEntry_total_le (s := s) n at_
    obtain ⟨hrest, hrestle⟩ := ih (hfirst.lagLaw hs)
    exact ⟨hfirst.trans hrest hs (.inr ⟨hle, hrestle⟩), hrestle.trans hle⟩

theorem State.releaseAll_lagFollows (at_ : FrameNo) (l : List Nat) (hs : s.lagLaw) :
    s.lagFollows (s.releaseAll at_ l) at_ ∧ (s.releaseAll at_ l).queuedTotal ≤ s.queuedTotal := by
  induction l generalizing s with
  | nil => exact ⟨State.lagFollows_refl at_ hs, le_rfl⟩
  | cons n rest ih =>
    have hfirst : s.lagFollows (s.release n at_) at_ :=
      State.lagFollows_congr (t := s.removeEntry n at_) rfl rfl rfl rfl rfl rfl rfl rfl (State.removeEntry_lagFollows n at_ hs)
    have hle : (s.release n at_).queuedTotal ≤ s.queuedTotal := State.removeEntry_total_le (s := s) n at_
    obtain ⟨hrest, hrestle⟩ := ih (hfirst.lagLaw hs)
    exact ⟨hfirst.trans hrest hs (.inr ⟨hle, hrestle⟩), hrestle.trans hle⟩

/-! ### Entries that come into the queue at a boundary -/

/-- One request of those made in a row at a boundary (R86, R87). -/
def State.enqueueInRow (s : State) (n : Nat) (at_ : FrameNo) : State := (s.enqueueAtBoundary n false).latchLagRise s at_

theorem State.enqueueInRow_pnt (n : Nat) (at_ : FrameNo) : (s.enqueueInRow n at_).pnt = (s.enqueue n false).pnt := by
  simp [State.enqueueInRow]

theorem State.enqueueInRow_field? (n m : Nat) (at_ : FrameNo) : (s.enqueueInRow n at_).field? m = s.field? m := by
  simp [State.enqueueInRow, State.field?]

theorem State.enqueueInRow_shows (n : Nat) (at_ : FrameNo) (f : Field) : (s.enqueueInRow n at_).shows f = s.shows f := by
  simp [State.enqueueInRow, State.shows]

theorem State.enqueueInRow_scanOrder (n : Nat) (at_ : FrameNo) :
    (s.enqueueInRow n at_).scanOrder = (s.enqueue n false).scanOrder := by
  rw [State.scanOrder, State.enqueueInRow_pnt, State.scanOrder]

theorem State.enqueueInRow_onScreen (n m : Nat) (at_ : FrameNo) : (s.enqueueInRow n at_).onScreen m ↔ s.onScreen m := by
  simp only [State.onScreen, State.enqueueInRow_field?, State.enqueueInRow_shows]

theorem State.enqueueInRow_nodup (n : Nat) (at_ : FrameNo) (h : s.scanOrder.Nodup) :
    (s.enqueueInRow n at_).scanOrder.Nodup := by
  rw [State.enqueueInRow_scanOrder]
  rcases State.enqueue_scan_cases h n false with ⟨hperm, -, -⟩ | ⟨hout, -, hperm, -⟩
  · exact hperm.nodup_iff.2 h
  · exact hperm.nodup_iff.2 (List.nodup_cons.2 ⟨hout, h⟩)

theorem State.mem_enqueueInRow_scanOrder (n m : Nat) (at_ : FrameNo) (h : s.scanOrder.Nodup) :
    m ∈ (s.enqueueInRow n at_).scanOrder ↔ m ∈ s.scanOrder ∨ m = n ∧ s.onScreen m := by
  rw [State.enqueueInRow_scanOrder]
  rcases State.enqueue_scan_cases h n false with ⟨hperm, -, hin⟩ | ⟨hout, hn, hperm, -⟩
  · rw [hperm.mem_iff]
    exact ⟨.inl, fun hm => hm.elim id fun ⟨hmn, hm⟩ => hmn ▸ hin (hmn ▸ hm)⟩
  · rw [hperm.mem_iff, List.mem_cons]
    exact ⟨fun hm => hm.elim (fun hmn => .inr ⟨hmn, hmn ▸ hn⟩) .inl, fun hm => hm.elim .inr fun hm => .inl hm.1⟩

theorem State.enqueueInRow_lagFollows (n : Nat) (at_ : FrameNo) (hs : s.lagLaw) (hnodup : s.scanOrder.Nodup) :
    s.lagFollows (s.enqueueInRow n at_) at_ ∧ s.queuedTotal ≤ (s.enqueueInRow n at_).queuedTotal := by
  have hpnt := State.enqueueInRow_pnt (s := s) n at_
  have htotal : (s.enqueueInRow n at_).queuedTotal = (s.enqueue n false).queuedTotal := by
    rw [State.queuedTotal, hpnt, State.queuedTotal]
  have hreported : s.lagReported (s.enqueueInRow n at_) at_ := State.latchLagRise_reported (by simp) (by simp) at_
  rw [htotal]
  refine ⟨⟨by simp [hpnt], ?_, State.latchedOnce_of_lagReported hreported⟩, ?_⟩
  · rw [htotal, hpnt]
    rcases State.enqueue_scan_cases hnodup n false with ⟨hperm, hlagging, -⟩ | ⟨-, -, -, hlagging⟩
    · rw [hlagging, ← State.length_scanOrder, hperm.length_eq, State.length_scanOrder]
      exact hs.2
    · exact hlagging
  · rw [← State.length_scanOrder, ← State.length_scanOrder]
    rcases State.enqueue_scan_cases hnodup n false with ⟨hperm, -, -⟩ | ⟨-, -, hperm, -⟩ <;> rw [hperm.length_eq]
    simp

theorem State.enqueueAllAtBoundary_cons (n : Nat) (at_ : FrameNo) (rest : List Nat) :
    s.enqueueAllAtBoundary at_ (n :: rest) = (s.enqueueInRow n at_).enqueueAllAtBoundary at_ rest := rfl

theorem State.enqueueAllAtBoundary_lagFollows (at_ : FrameNo) (l : List Nat) (hs : s.lagLaw) (hnodup : s.scanOrder.Nodup) :
    s.lagFollows (s.enqueueAllAtBoundary at_ l) at_ ∧ s.queuedTotal ≤ (s.enqueueAllAtBoundary at_ l).queuedTotal := by
  induction l generalizing s with
  | nil => exact ⟨State.lagFollows_refl at_ hs, le_rfl⟩
  | cons n rest ih =>
    obtain ⟨hfirst, hle⟩ := State.enqueueInRow_lagFollows n at_ hs hnodup
    obtain ⟨hrest, hrestle⟩ := ih (hfirst.lagLaw hs) (State.enqueueInRow_nodup n at_ hnodup)
    exact ⟨hfirst.trans hrest hs (.inl ⟨hle, hrestle⟩), hle.trans hrestle⟩

end Sys2Proof.Machine
end

section
/-! What several releases in a row, and several requests in a row, leave of the tables (R23, R66, R69, R86, R87). -/

namespace Sys2Proof.Machine

/-! ### Tables without some keys -/

theorem Store.erase_eq_filter {α : Type} (k : Nat) {l : List (Nat × α)} (h : Store.rising l = true) :
    Store.erase k l = l.filter fun e => e.1 != k := by
  induction l with
  | nil => rfl
  | cons d rest ih =>
    obtain ⟨hlow, hrest⟩ := (Store.rising_cons _ _).1 h
    by_cases hd : d.1 = k
    · have hall : rest.filter (fun e => e.1 != k) = rest :=
        List.filter_eq_self.2 fun e he => bne_iff_ne.2 (hd ▸ (hlow e he).ne')
      simp [Store.erase, hd, hall]
    · simp [Store.erase, hd, ih hrest]

theorem Store.find?_filter_key {α : Type} (keep : Nat → Bool) (k : Nat) (l : List (Nat × α)) :
    Store.find? k (l.filter fun e => keep e.1) = if keep k then Store.find? k l else none := by
  induction l with
  | nil => simp
  | cons d rest ih =>
    rw [List.filter_cons]
    by_cases hd : d.1 = k
    · cases hkeep : keep k <;> simp [hd, hkeep, Store.find?, ih]
    · cases keep d.1 <;> simp [hd, Store.find?, ih]

theorem Store.nodup_keys {α : Type} {l : List (Nat × α)} (h : Store.rising l = true) : (l.map Prod.fst).Nodup := by
  induction l with
  | nil => exact List.nodup_nil
  | cons d rest ih =>
    obtain ⟨hlow, hrest⟩ := (Store.rising_cons _ _).1 h
    refine List.nodup_cons.2 ⟨fun hin => ?_, ih hrest⟩
    obtain ⟨e, he, heq⟩ := List.mem_map.1 hin
    exact absurd heq (hlow e he).ne'

theorem abandonSlots_eq_self {concerns : Slot → Bool} {l : List (Nat × Slot)} (h : ∀ e ∈ l, concerns e.2 = false) :
    abandonSlots concerns l = l := by
  induction l with
  | nil => rfl
  | cons d rest ih =>
    obtain ⟨hd, hrest⟩ := List.forall_mem_cons.1 h
    rw [abandonSlots, hd, ih hrest, if_neg Bool.false_ne_true]

variable {s : State}

/-! ### Fields that go FREE in a row (R23) -/

theorem State.releaseAll_fields (at_ : FrameNo) (l : List Nat) (h : Store.rising s.fields = true) :
    (s.releaseAll at_ l).fields = s.fields.filter fun e => e.1 ∉ l := by
  induction l generalizing s with
  | nil => simp [State.releaseAll]
  | cons n rest ih =>
    rw [State.releaseAll, ih (by simpa using Store.rising_erase n h), State.release_fields, Store.erase_eq_filter n h,
      List.filter_filter]
    exact List.filter_congr fun e _ => Bool.eq_iff_iff.2 (by simp [and_comm])

theorem State.releaseAll_field? (at_ : FrameNo) (l : List Nat) (h : Store.rising s.fields = true) (m : Nat) :
    (s.releaseAll at_ l).field? m = if m ∈ l then none else s.field? m := by
  rw [State.field?, State.releaseAll_fields at_ l h, Store.find?_filter_key (fun k => k ∉ l), State.field?]
  by_cases hm : m ∈ l <;> simp [hm]

/-- Releases take the entries of their fields off the queue, as removals do. -/
theorem State.releaseAll_lists (at_ : FrameNo) (l : List Nat) :
    (s.releaseAll at_ l).pnt.urgent = s.pnt.urgent.filter (fun m => m ∉ l) ∧
      (s.releaseAll at_ l).pnt.routine = s.pnt.routine.filter (fun e => e.field ∉ l) := by
  induction l generalizing s with
  | nil => simp [State.releaseAll]
  | cons n rest ih =>
    obtain ⟨hurgent, hroutine⟩ := ih (s := s.release n at_)
    have hfirst : (s.release n at_).pnt.urgent = s.pnt.urgent.filter (fun m => m != n) := (s.removeEntry_dequeued n at_).1
    have hsecond : (s.release n at_).pnt.routine = s.pnt.routine.filter (fun e => e.field != n) :=
      (s.removeEntry_dequeued n at_).2.1
    rw [State.releaseAll, hurgent, hroutine, hfirst, hsecond, List.filter_filter, List.filter_filter]
    exact ⟨List.filter_congr fun m _ => Bool.eq_iff_iff.2 (by simp [and_comm]),
      List.filter_congr fun e _ => Bool.eq_iff_iff.2 (by simp [and_comm])⟩

theorem State.releaseAll_alertList (at_ : FrameNo) (l : List Nat) :
    (s.releaseAll at_ l).aeu.alertList = s.aeu.alertList.filter fun m => m ∉ l := by
  induction l generalizing s with
  | nil => simp [State.releaseAll]
  | cons n rest ih =>
    have hfirst : (s.release n at_).aeu.alertList = s.aeu.alertList.filter (fun m => m != n) := by simp [State.release]
    rw [State.releaseAll, ih, hfirst, List.filter_filter]
    exact List.filter_congr fun m _ => Bool.eq_iff_iff.2 (by simp [and_comm])

theorem State.releaseAll_watchList (at_ : FrameNo) (l : List Nat) :
    (s.releaseAll at_ l).aeu.watchList = s.aeu.watchList.filter fun w => w.field ∉ l := by
  induction l generalizing s with
  | nil => simp [State.releaseAll]
  | cons n rest ih =>
    have hfirst : (s.release n at_).aeu.watchList = s.aeu.watchList.filter (fun w => w.field != n) := by simp [State.release]
    rw [State.releaseAll, ih, hfirst, List.filter_filter]
    exact List.filter_congr fun w _ => Bool.eq_iff_iff.2 (by simp [and_comm])

theorem State.releaseAll_faultRecord (at_ : FrameNo) (l : List Nat) :
    (s.releaseAll at_ l).aeu.faultRecord = s.aeu.faultRecord := by
  induction l generalizing s with
  | nil => rfl
  | cons n rest ih => rw [State.releaseAll, ih]; simp [State.release]

theorem State.releaseAll_parameters (at_ : FrameNo) (l : List Nat) :
    (s.releaseAll at_ l).pnt.ageLimit = s.pnt.ageLimit ∧ (s.releaseAll at_ l).pnt.lagThreshold = s.pnt.lagThreshold := by
  induction l generalizing s with
  | nil => exact ⟨rfl, rfl⟩
  | cons n rest ih => rw [State.releaseAll, ih.1, ih.2]; simp [State.release]

theorem State.releaseAll_leavesLine (at_ : FrameNo) (l : List Nat) : s.leavesLine (s.releaseAll at_ l) := by
  induction l generalizing s with
  | nil => exact ⟨rfl, rfl, s.lineKept_refl, rfl⟩
  | cons n rest ih => exact (s.release_leavesLine n at_).trans ih

/-- Fields that hold no slot give none up. -/
theorem State.releaseAll_slots_of_unowned (at_ : FrameNo) (l : List Nat)
    (h : ∀ e ∈ s.pnt.slots, ∀ m, e.2.field = some m → m ∉ l) : (s.releaseAll at_ l).pnt.slots = s.pnt.slots := by
  induction l generalizing s with
  | nil => rfl
  | cons n rest ih =>
    have hfirst : (s.release n at_).pnt.slots = s.pnt.slots := by
      rw [State.release_slots]
      exact abandonSlots_eq_self fun e he => beq_eq_false_iff_ne.2 fun hn => h e he n hn List.mem_cons_self
    rw [State.releaseAll, ih fun e he m hm => ?_, hfirst]
    exact fun hin => h e (hfirst ▸ he) m hm (List.mem_cons_of_mem _ hin)

/-! ### Requests in a row at a boundary: the fields of the queue -/

theorem State.mem_enqueueAllAtBoundary_scanOrder (at_ : FrameNo) (l : List Nat) (m : Nat) (h : s.scanOrder.Nodup) :
    m ∈ (s.enqueueAllAtBoundary at_ l).scanOrder ↔ m ∈ s.scanOrder ∨ m ∈ l ∧ s.onScreen m := by
  induction l generalizing s with
  | nil => simp [State.enqueueAllAtBoundary]
  | cons n rest ih =>
    rw [State.enqueueAllAtBoundary_cons, ih (State.enqueueInRow_nodup n at_ h), State.mem_enqueueInRow_scanOrder n m at_ h,
      State.enqueueInRow_onScreen, List.mem_cons]
    tauto

/-! ### The lists: fields that had no entry -/

theorem State.enqueueInRow_new {n : Nat} {f : Field} (at_ : FrameNo) (hf : s.field? n = some f) (hv : s.shows f = true)
    (hout : n ∉ s.scanOrder) : (s.enqueueInRow n at_).pnt = s.pnt.append n f.options.urgent := by
  rw [State.mem_scanOrder_iff, not_or] at hout
  rw [State.enqueueInRow_pnt]
  rcases s.enqueue_pnt_cases n false with ⟨-, hin⟩ | ⟨g, hg, -, -, ⟨hr, -, -⟩ | ⟨-, hpnt⟩⟩
  · exact ((hin f hf hv).elim hout.1 fun hr => hout.2 hr.1).elim
  · exact (hout.2 hr).elim
  · obtain rfl := Option.some.inj (hf.symm.trans hg)
    exact hpnt

/-- Visible fields without an entry are appended by class, in the order of their requests (R66, R67). -/
theorem State.enqueueAllAtBoundary_lists (at_ : FrameNo) (es : List (Nat × Field)) (hdistinct : (es.map Prod.fst).Nodup)
    (hnew : ∀ e ∈ es, s.field? e.1 = some e.2 ∧ s.shows e.2 = true ∧ e.1 ∉ s.scanOrder) (hnodup : s.scanOrder.Nodup) :
    (s.enqueueAllAtBoundary at_ (es.map Prod.fst)).pnt.urgent =
        s.pnt.urgent ++ (es.filter fun e => e.2.options.urgent).map Prod.fst ∧
      (s.enqueueAllAtBoundary at_ (es.map Prod.fst)).pnt.routine =
        s.pnt.routine ++ (es.filter fun e => !e.2.options.urgent).map fun e => ⟨e.1, 0⟩ := by
  induction es generalizing s with
  | nil => simp [State.enqueueAllAtBoundary]
  | cons d rest ih =>
    obtain ⟨hd, hrest⟩ := List.forall_mem_cons.1 hnew
    obtain ⟨hdout, hdistinct⟩ := List.nodup_cons.1 hdistinct
    have hpnt := State.enqueueInRow_new at_ hd.1 hd.2.1 hd.2.2
    have hnew' : ∀ e ∈ rest, (s.enqueueInRow d.1 at_).field? e.1 = some e.2 ∧
        (s.enqueueInRow d.1 at_).shows e.2 = true ∧ e.1 ∉ (s.enqueueInRow d.1 at_).scanOrder := fun e he => by
      rw [State.enqueueInRow_field?, State.enqueueInRow_shows, State.mem_enqueueInRow_scanOrder _ _ at_ hnodup, not_or]
      exact ⟨(hrest e he).1, (hrest e he).2.1, (hrest e he).2.2, fun h => hdout (h.1 ▸ List.mem_map_of_mem he)⟩
    obtain ⟨hurgent, hroutine⟩ := ih hdistinct hnew' (State.enqueueInRow_nodup d.1 at_ hnodup)
    rw [List.map_cons, State.enqueueAllAtBoundary_cons, hurgent, hroutine, hpnt, Paint.append]
    cases hclass : d.2.options.urgent <;> simp [hclass]

/-! ### The lists: entries that stand -/

theorem State.enqueueInRow_urgent {m : Nat} (n : Nat) (at_ : FrameNo) (h : m ∈ s.pnt.urgent) :
    m ∈ (s.enqueueInRow n at_).pnt.urgent := by
  rw [State.enqueueInRow_pnt]
  rcases s.enqueue_pnt_cases n false with ⟨hpnt, -⟩ | ⟨g, -, -, -, ⟨-, -, hpnt⟩ | ⟨-, hpnt⟩⟩ <;> rw [hpnt]
  · exact h
  · exact List.mem_append_left _ h
  · rw [Paint.append]
    cases false || g.options.urgent
    · exact h
    · exact List.mem_append_left _ h

/-- A request moves an entry of ROUTINE where it is the request's own and of class URGENT, and no other (R66). -/
theorem State.enqueueInRow_routine {e : RoutineEntry} {f : Field} (n : Nat) (at_ : FrameNo) (he : e ∈ s.pnt.routine)
    (hf : s.field? e.field = some f) (hv : s.shows f = true) :
    if e.field = n ∧ f.options.urgent = true then e.field ∈ (s.enqueueInRow n at_).pnt.urgent
    else e ∈ (s.enqueueInRow n at_).pnt.routine := by
  have hin : e.field ∈ s.pnt.routine.map RoutineEntry.field := List.mem_map_of_mem he
  rw [State.enqueueInRow_pnt]
  rcases s.enqueue_pnt_cases n false with ⟨hpnt, hstays⟩ | ⟨g, hg, -, -, ⟨-, hclass, hpnt⟩ | ⟨hout, hpnt⟩⟩ <;> rw [hpnt]
  · split
    · rename_i hmoves
      obtain ⟨rfl, hclass⟩ := hmoves
      exact (hstays f hf hv).elim id fun h => absurd (hclass.symm.trans h.2) (by decide)
    · exact he
  · by_cases hn : e.field = n
    · obtain rfl := Option.some.inj (hf.symm.trans (hn ▸ hg))
      rw [if_pos ⟨hn, by simpa using hclass⟩]
      exact List.mem_append_right _ (by simp [hn])
    · rw [if_neg fun h => hn h.1]
      exact List.mem_filter.2 ⟨he, by simpa using hn⟩
  · rw [if_neg fun h : e.field = n ∧ _ => hout (h.1 ▸ hin), Paint.append]
    cases false || g.options.urgent
    · exact List.mem_append_left _ he
    · exact he

theorem State.enqueueAllAtBoundary_urgent {m : Nat} (at_ : FrameNo) (l : List Nat) (h : m ∈ s.pnt.urgent) :
    m ∈ (s.enqueueAllAtBoundary at_ l).pnt.urgent := by
  induction l generalizing s with
  | nil => exact h
  | cons n rest ih => exact ih (State.enqueueInRow_urgent n at_ h)

theorem State.enqueueAllAtBoundary_routine {e : RoutineEntry} {f : Field} (at_ : FrameNo) (l : List Nat)
    (he : e ∈ s.pnt.routine) (hf : s.field? e.field = some f) (hv : s.shows f = true) :
    if e.field ∈ l ∧ f.options.urgent = true then e.field ∈ (s.enqueueAllAtBoundary at_ l).pnt.urgent
    else e ∈ (s.enqueueAllAtBoundary at_ l).pnt.routine := by
  induction l generalizing s with
  | nil => simpa [State.enqueueAllAtBoundary] using he
  | cons n rest ih =>
    have hfirst := State.enqueueInRow_routine n at_ he hf hv
    rw [State.enqueueAllAtBoundary_cons]
    by_cases hmoves : e.field = n ∧ f.options.urgent = true
    · rw [if_pos hmoves] at hfirst
      rw [if_pos ⟨hmoves.1 ▸ List.mem_cons_self, hmoves.2⟩]
      exact State.enqueueAllAtBoundary_urgent at_ rest hfirst
    · rw [if_neg hmoves] at hfirst
      have hlater := ih hfirst ((State.enqueueInRow_field? ..).trans hf) ((State.enqueueInRow_shows ..).trans hv)
      have hsame : (e.field ∈ n :: rest ∧ f.options.urgent = true) ↔ e.field ∈ rest ∧ f.options.urgent = true := by
        rw [List.mem_cons]
        tauto
      simpa only [hsame] using hlater

/-! ### The record of the fresh entries (R69) -/

theorem State.membershipCode_eq_zero_iff (m : Nat) : s.membershipCode m = 0 ↔ m ∉ s.scanOrder := by
  rw [State.mem_scanOrder_iff, ← State.mem_urgent_iff, ← State.mem_routine_iff, State.membershipCode]
  cases s.inUrgent m <;> cases s.inRoutine m <;> simp

/-- The boundary is as before but for its record of fresh entries: that gains every field that comes into the queue, and nothing
but fields of a list. -/
def State.freshGrows (s t : State) (l : List Nat) : Prop :=
  ∀ b, s.boundary = some b → ∃ fresh, t.boundary = some { b with fresh := fresh } ∧ (∀ m ∈ b.fresh, m ∈ fresh) ∧
    (∀ m ∈ t.scanOrder, m ∉ s.scanOrder → m ∈ fresh) ∧ ∀ m ∈ fresh, m ∈ b.fresh ∨ m ∈ l

theorem State.enqueueInRow_freshGrows (n : Nat) (at_ : FrameNo) (h : s.scanOrder.Nodup) :
    s.freshGrows (s.enqueueInRow n at_) [n] := by
  intro b hb
  have hboundary : (s.enqueueInRow n at_).boundary = (s.enqueueAtBoundary n false).boundary := by simp [State.enqueueInRow]
  have hcode : (s.enqueue n false).membershipCode n = 0 ↔ n ∉ (s.enqueueInRow n at_).scanOrder := by
    rw [State.membershipCode_eq_zero_iff, State.enqueueInRow_scanOrder]
  rw [hboundary, State.enqueueAtBoundary]
  split
  · rename_i hsame
    refine ⟨b.fresh, by simpa using hb, fun m => id, fun m hm hout => ?_, fun m => .inl⟩
    obtain ⟨rfl, -⟩ := ((State.mem_enqueueInRow_scanOrder n m at_ h).1 hm).resolve_left hout
    rw [← State.membershipCode_eq_zero_iff, ← hsame] at hout
    exact absurd hm (hcode.1 hout)
  · refine ⟨n :: b.fresh, by simp [hb], fun m => List.mem_cons_of_mem _, fun m hm hout => ?_, fun m hm => ?_⟩
    · obtain ⟨rfl, -⟩ := ((State.mem_enqueueInRow_scanOrder n m at_ h).1 hm).resolve_left hout
      exact List.mem_cons_self
    · exact (List.mem_cons.1 hm).elim (fun hmn => .inr (hmn ▸ List.mem_cons_self)) .inl

theorem State.enqueueAllAtBoundary_freshGrows (at_ : FrameNo) (l : List Nat) (h : s.scanOrder.Nodup) :
    s.freshGrows (s.enqueueAllAtBoundary at_ l) l := by
  induction l generalizing s with
  | nil => exact fun b hb => ⟨b.fresh, hb, fun m => id, fun m hm hout => absurd hm hout, fun m => .inl⟩
  | cons n rest ih =>
    intro b hb
    obtain ⟨fresh, hb, hkept, hnew, honly⟩ := State.enqueueInRow_freshGrows n at_ h b hb
    obtain ⟨fresh', hb', hkept', hnew', honly'⟩ := ih (State.enqueueInRow_nodup n at_ h) _ hb
    refine ⟨fresh', hb', fun m hm => hkept' m (hkept m hm), fun m hm hout => ?_, fun m hm => ?_⟩
    · by_cases hfirst : m ∈ (s.enqueueInRow n at_).scanOrder
      · exact hkept' m (hnew m hfirst hout)
      · exact hnew' m hm hfirst
    · rcases honly' m hm with hold | hlater
      · exact (honly m hold).imp_right fun hmn => by simp [List.mem_singleton.1 hmn]
      · exact .inr (List.mem_cons_of_mem _ hlater)

end Sys2Proof.Machine
end

section
/-! A page change (R66, R71, R86, R112, R113): the part with the new page selected and the old page's entries off the queue, and
then the entries of the new page. -/

namespace Sys2Proof.Machine

variable {s : State}

theorem exec_pageChange_of_pending {r : PendingPage} (hreset : s.resetCause = none) (hfrozen : s.scr.frozen = false)
    (hpending : s.msg.pendingPage = some r) :
    exec .pageChange s = .next (s.openBoundary.changePage r (s.scr.frameCounter + 1)) := by
  have hexec : exec .pageChange s = if s.inReset || s.scr.frozen || s.msg.pendingPage.isNone then .next s
      else .next (s.openBoundary.applyPendingPage s.boundaryNumber) := rfl
  rw [hexec, if_neg (by simp [State.inReset, hreset, hfrozen, hpending])]
  simp [State.applyPendingPage, hpending, hfrozen, State.boundaryNumber]

/-! ### The fields of a page -/

theorem State.mem_numbersOfPage_iff (h : Store.rising s.fields = true) (p : BitVec 2) (n : Nat) :
    n ∈ s.numbersOfPage p ↔ ∃ f, s.field? n = some f ∧ f.page = .numbered p := by
  constructor
  · intro hn
    obtain ⟨e, he, rfl⟩ := List.mem_map.1 hn
    obtain ⟨he, hp⟩ := List.mem_filter.1 he
    exact ⟨e.2, Store.find?_of_mem h he, of_decide_eq_true hp⟩
  · rintro ⟨f, hf, hp⟩
    exact State.mem_numbersOfPage_of_field? hf hp

theorem State.mem_retiringOfPage_iff (h : Store.rising s.fields = true) (p : BitVec 2) (n : Nat) :
    n ∈ s.retiringOfPage p ↔ ∃ f, s.field? n = some f ∧ f.page = .numbered p ∧ f.state = .retiring := by
  constructor
  · intro hn
    obtain ⟨e, he, rfl⟩ := List.mem_map.1 hn
    obtain ⟨he, hp⟩ := List.mem_filter.1 he
    exact ⟨e.2, Store.find?_of_mem h he, by simpa using hp⟩
  · rintro ⟨f, hf, hp⟩
    exact List.mem_map.2 ⟨(n, f), List.mem_filter.2 ⟨Store.mem_of_find? hf, by simpa using hp⟩, rfl⟩

/-- A field that is visible is COMMON or of the selected page (R7). -/
theorem State.page_of_shows {f : Field} (h : s.shows f = true) : f.page = .common ∨ f.page = .numbered s.scr.page :=
  or_iff_not_imp_right.2 fun hp => Page.eq_common_of_visibleOn h hp

theorem State.shows_of_page {f : Field} (h : f.page = .common ∨ f.page = .numbered s.scr.page) : s.shows f = true := by
  rcases h with h | h <;> simp [State.shows, h, Page.visibleOn]

theorem Field.covers_iff (g : Geometry) (f : Field) (place : Nat) :
    f.covers g place = true ↔ f.row * g.columns + f.column ≤ place ∧ place < f.row * g.columns + f.column + f.width := by
  rw [Field.covers, Bool.and_eq_true, decide_eq_true_iff, decide_eq_true_iff]
  rfl

theorem State.commonCovers_iff (place : Nat) :
    s.commonCovers place = true ↔ ∃ e ∈ s.fields, e.2.page = .common ∧
      e.2.row * s.scr.geometry.columns + e.2.column ≤ place ∧
      place < e.2.row * s.scr.geometry.columns + e.2.column + e.2.width := by
  simp only [State.commonCovers, List.any_eq_true, Bool.and_eq_true, decide_eq_true_eq, Field.covers_iff]

/-! ### The part with the old page left -/

theorem State.leavePage_scr (q : BitVec 2) (n : FrameNo) :
    (s.leavePage q n).scr =
      { s.scr with
        plane := Memory.blankBut s.commonCovers s.defaultBlank s.scr.geometry.cells s.scr.plane
        page := q } := by
  unfold State.leavePage
  split <;> simp [State.turnPage, State.clearPage]

theorem State.leavePage_fields (q : BitVec 2) (n : FrameNo) :
    (s.leavePage q n).fields = ((s.clearPage s.scr.page).releaseAll n (s.retiringOfPage s.scr.page)).fields := by
  unfold State.leavePage
  split <;> simp [State.turnPage]

theorem State.leavePage_rising (q : BitVec 2) (n : FrameNo) (h : Store.rising s.fields = true) :
    Store.rising (s.leavePage q n).fields = true := by
  rw [State.leavePage_fields]
  exact ((s.clearPage_recordsFrom _).trans (State.releaseAll_recordsFrom _ n _)).rising h

/-- A record after a change away from page p: a RETIRING field of p is FREE, and the others of p show nothing (R112 step 3). -/
def Field.left (p : BitVec 2) (f : Field) : Option Field :=
  if f.page = .numbered p then if f.state = .retiring then none else some f.unshown else some f

theorem State.leavePage_field? (q : BitVec 2) (n : FrameNo) (h : Store.rising s.fields = true) (m : Nat) :
    (s.leavePage q n).field? m = (s.field? m).bind (Field.left s.scr.page) := by
  have hcleared : Store.rising (s.clearPage s.scr.page).fields = true := (s.clearPage_recordsFrom _).rising h
  have hfield? : (s.leavePage q n).field? m =
      ((s.clearPage s.scr.page).releaseAll n (s.retiringOfPage s.scr.page)).field? m := by
    rw [State.field?, State.leavePage_fields, State.field?]
  rw [hfield?, State.releaseAll_field? n _ hcleared, State.clearPage_field?]
  have hretiring := State.mem_retiringOfPage_iff h s.scr.page m
  cases hf : s.field? m with
  | none => simp
  | some f =>
    simp only [hf, Option.some.injEq, exists_eq_left'] at hretiring
    simp only [hretiring, Option.map_some, Option.bind_some, Field.left, Field.leaving]
    by_cases hp : f.page = .numbered s.scr.page <;> by_cases hr : f.state = .retiring <;> simp [hp, hr]

/-- The slots of the fields of the old page are given up; a field that then goes FREE holds none (R112 step 2). -/
theorem State.leavePage_slots (q : BitVec 2) (n : FrameNo) :
    (s.leavePage q n).pnt.slots = (s.clearPage s.scr.page).pnt.slots := by
  have hsame : (s.leavePage q n).pnt.slots =
      ((s.clearPage s.scr.page).releaseAll n (s.retiringOfPage s.scr.page)).pnt.slots := by
    unfold State.leavePage
    split <;> simp [State.turnPage]
  rw [hsame]
  refine State.releaseAll_slots_of_unowned n _ fun e he m hm hretiring => ?_
  have hpage : m ∈ s.numbersOfPage s.scr.page := by
    obtain ⟨d, hd, rfl⟩ := List.mem_map.1 hretiring
    obtain ⟨hd, hkind⟩ := List.mem_filter.1 hd
    exact List.mem_map.2 ⟨d, List.mem_filter.2 ⟨hd, (Bool.and_eq_true_iff.1 hkind).1⟩, rfl⟩
  have := (abandonSlots_owner he hm).2
  simp [hm, hpage] at this

theorem State.leavePage_owner (q : BitVec 2) (n : FrameNo) (h : s.slotLaw) {e : Nat × Slot} {m : Nat} {f : Field}
    (he : e ∈ (s.leavePage q n).pnt.slots) (hm : e.2.field = some m) (hf : s.field? m = some f) : f.page = .common := by
  obtain ⟨-, -, -, -, howners⟩ := h
  rw [State.leavePage_slots] at he
  obtain ⟨g, hg, hcommon⟩ := s.clearPage_owners howners e he m hm
  rw [State.clearPage_field?, hf, Option.map_some, Option.some.injEq] at hg
  rw [← hcommon, ← hg]
  exact (congrArg Prod.fst (f.leaving_face s.scr.page)).symm

theorem State.leavePage_slot_of_common (q : BitVec 2) (n : FrameNo) (h : Store.rising s.fields = true) {e : Nat × Slot}
    {m : Nat} {f : Field} (he : e ∈ s.pnt.slots) (hm : e.2.field = some m) (hf : s.field? m = some f)
    (hp : f.page = .common) : e ∈ (s.leavePage q n).pnt.slots := by
  rw [State.leavePage_slots]
  refine mem_abandonSlots_of_kept he ?_
  have hout : m ∉ s.numbersOfPage s.scr.page := by
    rw [State.mem_numbersOfPage_iff h]
    rintro ⟨g, hg, hpage⟩
    obtain rfl := Option.some.inj (hf.symm.trans hg)
    exact nomatch hp.symm.trans hpage
  simpa [hm] using hout

theorem State.leavePage_slot_of_page (q : BitVec 2) (n : FrameNo) {e : Nat × Slot} {m : Nat} {f : Field}
    (he : e ∈ s.pnt.slots) (hm : e.2.field = some m) (hf : s.field? m = some f) (hp : f.page = .numbered s.scr.page)
    {i : RenderInputs} {discard : Bool} (hc : e.2.content = .filling i discard) :
    (e.1, ⟨none, .filling i true⟩) ∈ (s.leavePage q n).pnt.slots := by
  obtain ⟨k, owner, content⟩ := e
  dsimp only at hm hc ⊢
  subst hm hc
  rw [State.leavePage_slots]
  exact mem_abandonSlots_of_filling he (by simpa using State.mem_numbersOfPage_of_field? hf hp)

/-! ### The entries that stay -/

/-- Whether a field's entry stays in the queue, by its record after the change (R66, R86). -/
def staysQueued (q p : BitVec 2) (f : Option Field) : Bool := f.any fun f => f.page = .common || q = p

/-- The entries that stay are those of COMMON fields, and with the same page those of every field still in use. -/
theorem State.staysQueued_iff (q : BitVec 2) (n : FrameNo) (h : Store.rising s.fields = true) {m : Nat} (hm : s.onScreen m) :
    staysQueued q s.scr.page ((s.leavePage q n).field? m) = true ↔
      m ∉ s.retiringOfPage s.scr.page ∧ (q ≠ s.scr.page → m ∉ (s.turnPage q n).numbersOfPage s.scr.page) := by
  have hsame : ∀ p, (s.turnPage q n).numbersOfPage p = (s.leavePage q n).numbersOfPage p := fun p => by
    rw [State.numbersOfPage, State.numbersOfPage, State.leavePage_fields]
    rfl
  rw [hsame, State.mem_numbersOfPage_iff (State.leavePage_rising q n h), State.mem_retiringOfPage_iff h,
    State.leavePage_field? q n h]
  obtain ⟨f, hf, hv⟩ := hm
  simp only [hf, Option.some.injEq, exists_eq_left', Option.bind_some, Field.left, staysQueued]
  rcases State.page_of_shows hv with hp | hp
  · simp [hp]
  · by_cases hr : f.state = .retiring
    · simp [hp, hr]
    · simp [hp, hr, Field.unshown]

theorem State.leavePage_lists (q : BitVec 2) (n : FrameNo) (h : Store.rising s.fields = true) (hqueue : s.queueLaw) :
    (s.leavePage q n).pnt.urgent =
        s.pnt.urgent.filter (fun m => staysQueued q s.scr.page ((s.leavePage q n).field? m)) ∧
      (s.leavePage q n).pnt.routine =
        s.pnt.routine.filter (fun e => staysQueued q s.scr.page ((s.leavePage q n).field? e.field)) := by
  obtain ⟨hurgent, hroutine⟩ := State.releaseAll_lists (s := s.clearPage s.scr.page) n (s.retiringOfPage s.scr.page)
  have hstays : ∀ m ∈ s.scanOrder, staysQueued q s.scr.page ((s.leavePage q n).field? m) =
      (decide (m ∉ s.retiringOfPage s.scr.page) &&
        decide (q ≠ s.scr.page → m ∉ (s.turnPage q n).numbersOfPage s.scr.page)) := fun m hm => by
    rw [Bool.eq_iff_iff, State.staysQueued_iff q n h (hqueue.2 m hm), Bool.and_eq_true, decide_eq_true_iff,
      decide_eq_true_iff]
  rw [List.filter_congr fun m hm => hstays m ((s.mem_scanOrder_iff m).2 (.inl hm)),
    List.filter_congr fun (e : RoutineEntry) he => hstays e.field ((s.mem_scanOrder_iff _).2 (.inr (List.mem_map_of_mem he)))]
  unfold State.leavePage
  split
  · rename_i hq
    simp only [hq, ne_eq, not_true_eq_false, false_implies, decide_true, Bool.and_true]
    exact ⟨hurgent, hroutine⟩
  · rename_i hq
    simp only [hq, ne_eq, not_false_eq_true, true_implies]
    rw [State.removeEntries_urgent, State.removeEntries_routine, State.turnPage]
    dsimp only
    rw [hurgent, hroutine, List.filter_filter, List.filter_filter]
    exact ⟨List.filter_congr fun m _ => Bool.and_comm _ _, List.filter_congr fun e _ => Bool.and_comm _ _⟩

theorem State.leavePage_scanOrder (q : BitVec 2) (n : FrameNo) (h : Store.rising s.fields = true) (hqueue : s.queueLaw) :
    (s.leavePage q n).scanOrder =
      s.scanOrder.filter fun m => staysQueued q s.scr.page ((s.leavePage q n).field? m) := by
  obtain ⟨hurgent, hroutine⟩ := State.leavePage_lists q n h hqueue
  rw [State.scanOrder, hurgent, hroutine, State.scanOrder, List.filter_append, List.filter_map]
  rfl

theorem State.leavePage_parameters (q : BitVec 2) (n : FrameNo) :
    (s.leavePage q n).pnt.ageLimit = s.pnt.ageLimit ∧ (s.leavePage q n).pnt.lagThreshold = s.pnt.lagThreshold := by
  have hkept := State.releaseAll_parameters (s := s.clearPage s.scr.page) n (s.retiringOfPage s.scr.page)
  unfold State.leavePage
  split
  · exact hkept
  · rw [State.removeEntries_pnt.ageLimit, State.removeEntries_pnt.lagThreshold]
    exact hkept

/-- The entries that go can lower LAGGING, and raise none (R71). -/
theorem State.leavePage_lagFollows (q : BitVec 2) (n : FrameNo) (h : s.lagLaw) : s.lagFollows (s.leavePage q n) n := by
  obtain ⟨hturned, hle⟩ :=
    State.releaseAll_lagFollows (s := s.clearPage s.scr.page) n (s.retiringOfPage s.scr.page) h
  have hturned : s.lagFollows (s.turnPage q n) n := ⟨hturned.threshold, hturned.lagging, hturned.latched⟩
  unfold State.leavePage
  split
  · exact hturned
  · obtain ⟨hremoved, hless⟩ := State.removeEntries_lagFollows (s := s.turnPage q n) n
      ((s.turnPage q n).numbersOfPage s.scr.page) (hturned.lagLaw h)
    exact hturned.trans hremoved h (.inr ⟨hle, hless⟩)

theorem State.leavePage_attention (q : BitVec 2) (n : FrameNo) :
    (s.leavePage q n).aeu.alertList = s.aeu.alertList.filter (fun m => m ∉ s.retiringOfPage s.scr.page) ∧
      (s.leavePage q n).aeu.watchList = s.aeu.watchList.filter (fun w => w.field ∉ s.retiringOfPage s.scr.page) ∧
      (s.leavePage q n).aeu.faultRecord = s.aeu.faultRecord := by
  have halert := State.releaseAll_alertList (s := s.clearPage s.scr.page) n (s.retiringOfPage s.scr.page)
  have hwatch := State.releaseAll_watchList (s := s.clearPage s.scr.page) n (s.retiringOfPage s.scr.page)
  have hfault := State.releaseAll_faultRecord (s := s.clearPage s.scr.page) n (s.retiringOfPage s.scr.page)
  unfold State.leavePage
  split
  · exact ⟨halert, hwatch, hfault⟩
  · simp only [State.removeEntries_aeu.alertList, State.removeEntries_aeu.watchList, State.removeEntries_aeu.faultRecord]
    exact ⟨halert, hwatch, hfault⟩

theorem State.leavePage_line (q : BitVec 2) (n : FrameNo) :
    (s.leavePage q n).msg = s.msg ∧ (s.leavePage q n).lnk.replies = s.lnk.replies ∧
      (s.leavePage q n).boundary = s.boundary := by
  obtain ⟨hmsg, hreplies, -, hboundary⟩ :=
    State.releaseAll_leavesLine (s := s.clearPage s.scr.page) n (s.retiringOfPage s.scr.page)
  unfold State.leavePage
  split
  · exact ⟨hmsg, hreplies, hboundary⟩
  · simp only [State.removeEntries_msg, State.removeEntries_lnk.replies, State.removeEntries_boundary]
    exact ⟨hmsg, hreplies, hboundary⟩

/-- A field has gone FREE just where it is RETIRING and of the old page (R112 step 3). -/
theorem State.leavePage_freed_iff (q : BitVec 2) (n : FrameNo) (h : Store.rising s.fields = true) (m : Nat) :
    ((s.field? m).isNone || ((s.leavePage q n).field? m).isSome) = decide (m ∉ s.retiringOfPage s.scr.page) := by
  rw [Bool.eq_iff_iff, decide_eq_true_iff, State.mem_retiringOfPage_iff h, State.leavePage_field? q n h]
  cases hf : s.field? m with
  | none => simp
  | some f =>
    simp only [Option.some.injEq, exists_eq_left', Option.bind_some, Field.left]
    by_cases hp : f.page = .numbered s.scr.page <;> by_cases hr : f.state = .retiring <;> simp [hp, hr]

end Sys2Proof.Machine
end

section
/-! What a page change leaves (R66, R71, R86, R112, R113). -/

namespace Sys2Proof.Machine

variable {s : State}

/-! ### The fields after the change -/

theorem State.changePage_fields (r : PendingPage) (n : FrameNo) :
    (s.changePage r n).fields = (s.leavePage r.page n).fields := by simp [State.changePage_eq]

theorem State.changePage_field?_eq_left (r : PendingPage) (n : FrameNo) (m : Nat) :
    (s.changePage r n).field? m = (s.leavePage r.page n).field? m := by
  rw [State.field?, State.changePage_fields, State.field?]

theorem State.changePage_field? (r : PendingPage) (n : FrameNo) (h : Store.rising s.fields = true) (m : Nat) :
    (s.changePage r n).field? m = (s.field? m).bind (Field.left s.scr.page) := by
  rw [State.changePage_field?_eq_left, State.leavePage_field? r.page n h]

/-- A change of page leaves each field's page. -/
theorem State.changePage_page {r : PendingPage} {n : FrameNo} (h : Store.rising s.fields = true) {m : Nat} {f g : Field}
    (hf : s.field? m = some f) (hg : (s.changePage r n).field? m = some g) : g.page = f.page := by
  rw [State.changePage_field? r n h, hf, Option.bind_some, Field.left] at hg
  split at hg
  · split at hg
    · exact nomatch hg
    · exact (Option.some.inj hg) ▸ rfl
  · exact (Option.some.inj hg) ▸ rfl

/-! ### The queue after the change -/

theorem State.changePage_pnt (r : PendingPage) (n : FrameNo) :
    (s.changePage r n).pnt =
      ((s.leavePage r.page n).enqueueAllAtBoundary n ((s.leavePage r.page n).numbersOfPage r.page)).pnt := rfl

theorem State.leavePage_nodup (q : BitVec 2) (n : FrameNo) (h : Store.rising s.fields = true) (hqueue : s.queueLaw) :
    (s.leavePage q n).scanOrder.Nodup :=
  State.leavePage_scanOrder q n h hqueue ▸ hqueue.1.filter _

/-- The fields of the page selected are visible (R7). -/
theorem State.leavePage_shows {q : BitVec 2} {n : FrameNo} {f : Field} (h : f.page = .numbered q) :
    (s.leavePage q n).shows f = true := by
  refine State.shows_of_page (.inr ?_)
  rw [h, State.leavePage_scr]

theorem State.mem_changePage_scanOrder (r : PendingPage) (n : FrameNo) (h : Store.rising s.fields = true)
    (hqueue : s.queueLaw) (m : Nat) :
    m ∈ (s.changePage r n).scanOrder ↔
      (m ∈ s.scanOrder ∧ ∃ f, (s.changePage r n).field? m = some f ∧ f.page = .common) ∨
        ∃ f, (s.changePage r n).field? m = some f ∧ f.page = .numbered r.page := by
  have hmem : m ∈ (s.changePage r n).scanOrder ↔ m ∈ (s.leavePage r.page n).scanOrder ∨
      m ∈ (s.leavePage r.page n).numbersOfPage r.page ∧ (s.leavePage r.page n).onScreen m :=
    State.mem_enqueueAllAtBoundary_scanOrder n _ m (State.leavePage_nodup r.page n h hqueue)
  have hpage : ∀ f, (s.changePage r n).field? m = some f → m ∈ s.scanOrder →
      f.page = .common ∨ f.page = .numbered s.scr.page := fun f hf hm => by
    obtain ⟨g, hg, hv⟩ := hqueue.2 m hm
    rw [State.changePage_page h hg hf]
    exact State.page_of_shows hv
  rw [hmem, State.leavePage_scanOrder r.page n h hqueue, List.mem_filter,
    State.mem_numbersOfPage_iff (State.leavePage_rising r.page n h), ← State.changePage_field?_eq_left]
  constructor
  · rintro (⟨hm, hstays⟩ | ⟨hnew, -⟩)
    · obtain ⟨f, hf, hkind⟩ := (Option.any_eq_true ..).1 hstays
      have hf : (s.changePage r n).field? m = some f := hf
      rcases hpage f hf hm with hcommon | hold
      · exact .inl ⟨hm, f, hf, hcommon⟩
      · have hsame : r.page = s.scr.page := by simpa [hold] using hkind
        exact .inr ⟨f, hf, hsame ▸ hold⟩
    · exact .inr hnew
  · rintro (⟨hm, f, hf, hcommon⟩ | ⟨f, hf, hp⟩)
    · exact .inl ⟨hm, by simp [staysQueued, hf, hcommon]⟩
    · exact .inr ⟨⟨f, hf, hp⟩, f, (State.changePage_field?_eq_left r n m).symm.trans hf, State.leavePage_shows hp⟩

/-- With another page selected, the COMMON entries stand as they were and the fields of that page come behind them (R86). -/
theorem State.changePage_lists (r : PendingPage) (n : FrameNo) (h : Store.rising s.fields = true) (hqueue : s.queueLaw)
    (hother : r.page ≠ s.scr.page) :
    let t := s.changePage r n
    t.pnt.urgent = s.pnt.urgent.filter (fun m => (t.field? m).any fun f => f.page = .common) ++
        (t.fields.filter fun e => e.2.page = .numbered r.page && e.2.options.urgent).map Prod.fst ∧
      t.pnt.routine = s.pnt.routine.filter (fun e => (t.field? e.field).any fun f => f.page = .common) ++
        (t.fields.filter fun e => e.2.page = .numbered r.page && !e.2.options.urgent).map fun e => ⟨e.1, 0⟩ := by
  intro t
  have hrising := State.leavePage_rising r.page n h
  have hstays : ∀ f, staysQueued r.page s.scr.page f = f.any fun f => f.page = .common := fun f => by
    simp [staysQueued, hother]
  obtain ⟨holdUrgent, holdRoutine⟩ := State.leavePage_lists r.page n h hqueue
  obtain ⟨hurgent, hroutine⟩ := State.enqueueAllAtBoundary_lists (s := s.leavePage r.page n) n
    ((s.leavePage r.page n).fields.filter fun e => e.2.page = .numbered r.page)
    ((List.filter_sublist.map Prod.fst).nodup (Store.nodup_keys hrising))
    (fun e he => by
      obtain ⟨he, hp⟩ := List.mem_filter.1 he
      have hp : e.2.page = .numbered r.page := of_decide_eq_true hp
      have hfield : (s.leavePage r.page n).field? e.1 = some e.2 := Store.find?_of_mem hrising he
      refine ⟨hfield, State.leavePage_shows hp, ?_⟩
      rw [State.leavePage_scanOrder r.page n h hqueue, List.mem_filter, hfield, hstays]
      simp [hp])
    (State.leavePage_nodup r.page n h hqueue)
  refine ⟨hurgent.trans ?_, hroutine.trans ?_⟩
  · rw [holdUrgent, List.filter_filter]
    simp only [hstays, Bool.and_comm, t, State.changePage_field?_eq_left, State.changePage_fields]
  · rw [holdRoutine, List.filter_filter]
    simp only [hstays, Bool.and_comm, t, State.changePage_field?_eq_left, State.changePage_fields]

/-- With the same page selected again, R66 alone says what becomes of an entry. -/
theorem State.changePage_entries (r : PendingPage) (n : FrameNo) (h : Store.rising s.fields = true) (hqueue : s.queueLaw)
    (hsame : r.page = s.scr.page) :
    let t := s.changePage r n
    (∀ m ∈ s.pnt.urgent, (t.field? m).isSome = true → m ∈ t.pnt.urgent) ∧
      ∀ e ∈ s.pnt.routine, ∀ f, t.field? e.field = some f →
        if f.page = .numbered r.page ∧ f.options.urgent = true then e.field ∈ t.pnt.urgent else e ∈ t.pnt.routine := by
  intro t
  have hstays : ∀ f : Option Field, f.isSome = true → staysQueued r.page s.scr.page f = true := fun f hf => by
    obtain ⟨f, rfl⟩ := Option.isSome_iff_exists.1 hf
    simp [staysQueued, hsame]
  obtain ⟨hurgent, hroutine⟩ := State.leavePage_lists r.page n h hqueue
  refine ⟨fun m hm hin => ?_, fun e he f hf => ?_⟩
  · rw [State.changePage_pnt]
    refine State.enqueueAllAtBoundary_urgent n _ ?_
    rw [hurgent]
    exact List.mem_filter.2 ⟨hm, hstays _ ((State.changePage_field?_eq_left r n m) ▸ hin)⟩
  · have hleft : (s.leavePage r.page n).field? e.field = some f := (State.changePage_field?_eq_left r n _).symm.trans hf
    have hvisible : (s.leavePage r.page n).shows f = true := by
      obtain ⟨g, hg, hv⟩ := hqueue.2 e.field ((s.mem_scanOrder_iff _).2 (.inr (List.mem_map_of_mem he)))
      refine State.shows_of_page ?_
      rw [State.changePage_page h hg hf, State.leavePage_scr, hsame]
      exact State.page_of_shows hv
    have hmoves := State.enqueueAllAtBoundary_routine n ((s.leavePage r.page n).numbersOfPage r.page)
      (hroutine ▸ List.mem_filter.2 ⟨he, hstays _ (by rw [hleft]; rfl)⟩) hleft hvisible
    have hlisted : e.field ∈ (s.leavePage r.page n).numbersOfPage r.page ↔ f.page = .numbered r.page := by
      rw [State.mem_numbersOfPage_iff (State.leavePage_rising r.page n h), hleft]
      simp
    simp only [hlisted] at hmoves
    exact hmoves

/-- The record of the boundary's entries gains those of the page selected (R69). -/
theorem State.changePage_fresh (r : PendingPage) (n : FrameNo) (h : Store.rising s.fields = true) (hqueue : s.queueLaw)
    {b : Boundary} (hb : s.boundary = some b) :
    let t := s.changePage r n
    ∃ fresh, t.boundary = some { b with fresh := fresh } ∧ (∀ m ∈ b.fresh, m ∈ fresh) ∧
      (∀ m ∈ t.scanOrder, m ∉ s.scanOrder → m ∈ fresh) ∧
      ∀ m ∈ fresh, m ∈ b.fresh ∨ ∃ f, t.field? m = some f ∧ f.page = .numbered r.page := by
  intro t
  obtain ⟨-, -, hboundary⟩ := State.leavePage_line (s := s) r.page n
  obtain ⟨fresh, hfresh, hkept, hnew, honly⟩ := State.enqueueAllAtBoundary_freshGrows n
    ((s.leavePage r.page n).numbersOfPage r.page) (State.leavePage_nodup r.page n h hqueue) b (hboundary.trans hb)
  refine ⟨fresh, hfresh, hkept, fun m hm hout => hnew m hm fun hstays => hout ?_,
    fun m hm => (honly m hm).imp_right fun hpage => ?_⟩
  · rw [State.leavePage_scanOrder r.page n h hqueue] at hstays
    exact (List.mem_filter.1 hstays).1
  · simp only [t, State.changePage_field?_eq_left]
    exact (State.mem_numbersOfPage_iff (State.leavePage_rising r.page n h) r.page m).1 hpage

/-- The fields that go FREE leave AEU's lists (R23). -/
theorem State.changePage_attention (r : PendingPage) (n : FrameNo) (h : Store.rising s.fields = true) :
    let t := s.changePage r n
    t.aeu.alertList = s.aeu.alertList.filter (fun m => (s.field? m).isNone || (t.field? m).isSome) ∧
      t.aeu.watchList = s.aeu.watchList.filter (fun w => (s.field? w.field).isNone || (t.field? w.field).isSome) ∧
      t.aeu.faultRecord = s.aeu.faultRecord := by
  intro t
  obtain ⟨halert, hwatch, hfault⟩ := State.leavePage_attention (s := s) r.page n
  have hfreed : ∀ m, ((s.field? m).isNone || (t.field? m).isSome) = decide (m ∉ s.retiringOfPage s.scr.page) := fun m => by
    rw [State.changePage_field?_eq_left, State.leavePage_freed_iff r.page n h]
  simp only [hfreed, ← halert, ← hwatch, ← hfault]
  simp [t, State.changePage_eq]

/-- The deferred reply carries the page and the number of its fields (R113). -/
theorem State.changePage_replies (r : PendingPage) (n : FrameNo) :
    ∃ placed, (s.changePage r n).lnk.replies = s.lnk.replies ++ [⟨0x86, r.tag, r.page.zeroExtend 8 :: bytesOfHalf
      (BitVec.ofNat 16 ((s.changePage r n).fields.filter fun e => e.2.page = .numbered r.page).length), placed⟩] := by
  obtain ⟨-, hreplies, -⟩ := State.leavePage_line (s := s) r.page n
  refine ⟨((s.leavePage r.page n).enqueueAllAtBoundary n ((s.leavePage r.page n).numbersOfPage r.page)).lnk.placings, ?_⟩
  simp [State.changePage_eq, hreplies, State.numbersOfPage, bytesOfCount]

/-- LAGGING falls with the entries that go, and then rises with those that come (R71). -/
theorem State.changePage_lag (r : PendingPage) (n : FrameNo) (h : Store.rising s.fields = true) (hqueue : s.queueLaw)
    (hlag : s.lagLaw) :
    let t := s.changePage r n
    let kept := s.scanOrder.filter fun m => (t.field? m).any fun f => f.page = .common || r.page = s.scr.page
    let lowered := lagAfter s.pnt.lagging s.pnt.lagThreshold kept.length
    t.pnt.lagging = lagAfter lowered s.pnt.lagThreshold t.queuedTotal ∧
      s.latchedOnce t (if lowered = false ∧ t.pnt.lagging = true then 0x0200 else 0) n := by
  intro t kept lowered
  have hleft := State.leavePage_lagFollows r.page n hlag
  obtain ⟨hqueued, -⟩ := State.enqueueAllAtBoundary_lagFollows n ((s.leavePage r.page n).numbersOfPage r.page)
    (hleft.lagLaw hlag) (State.leavePage_nodup r.page n h hqueue)
  have hkept : kept = (s.leavePage r.page n).scanOrder := by
    rw [State.leavePage_scanOrder r.page n h hqueue]
    simp only [kept, t, State.changePage_field?_eq_left]
    rfl
  have hlowered : (s.leavePage r.page n).pnt.lagging = lowered := by
    rw [hleft.lagging, ← State.length_scanOrder, ← hkept]
  have hno : riseKinds s.pnt.lagging lowered = 0 := by
    unfold riseKinds
    rw [if_neg]
    rintro ⟨hbefore, hafter⟩
    have hless : kept.length ≤ s.scanOrder.length := List.length_filter_le _ _
    have hlaw := hlag.2
    rw [hbefore, lagAfter_false, ← State.length_scanOrder] at hlaw
    simp only [lowered, hbefore, lagAfter_false, decide_eq_true_iff] at hafter
    simp only [false_eq_decide_iff] at hlaw
    omega
  have hlagging : t.pnt.lagging = lagAfter lowered s.pnt.lagThreshold t.queuedTotal := by
    have := hqueued.lagging
    rwa [hlowered, hleft.threshold] at this
  have hfirst := hleft.latched
  have hsecond := hqueued.latched
  rw [hlowered] at hfirst hsecond
  refine ⟨hlagging, ?_⟩
  have hboth := State.latchedOnce_trans hfirst hsecond (.inr (.inl hno))
  rw [hno, EventSet.none_or] at hboth
  exact hboth

/-! ### Panel, slots and records after the change -/

theorem State.changePage_scr (r : PendingPage) (n : FrameNo) : (s.changePage r n).scr = (s.leavePage r.page n).scr := by
  simp [State.changePage_eq]

/-- Outside the COMMON extents the panel is blank (R112 step 1). -/
theorem State.changePage_plane (r : PendingPage) (n : FrameNo) {place : Nat} (h : place < s.scr.geometry.cells) :
    Memory.read (s.changePage r n).scr.plane place =
      if s.commonCovers place then Memory.read s.scr.plane place else s.defaultBlank := by
  rw [State.changePage_scr, State.leavePage_scr]
  exact Memory.read_blankBut _ _ _ _ _ h

theorem State.changePage_slots (r : PendingPage) (n : FrameNo) :
    (s.changePage r n).pnt.slots = (s.leavePage r.page n).pnt.slots := by simp [State.changePage_eq]

/-- What becomes of a record, and of AEU's entries of a field that goes FREE (R23, R112 step 3). -/
theorem State.changePage_record (r : PendingPage) (n : FrameNo) (h : Store.rising s.fields = true) {m : Nat} {f : Field}
    (hf : s.field? m = some f) :
    let t := s.changePage r n
    (f.page ≠ .numbered s.scr.page → t.field? m = some f) ∧
      (f.page = .numbered s.scr.page → f.state = .retiring → t.field? m = none ∧ m ∉ t.aeu.alertList ∧
        ∀ w ∈ t.aeu.watchList, w.field ≠ m) ∧
      (f.page = .numbered s.scr.page → f.state ≠ .retiring → t.field? m = some f.unshown) := by
  intro t
  have hm : t.field? m = f.left s.scr.page := by rw [State.changePage_field? r n h, hf, Option.bind_some]
  rw [Field.left] at hm
  refine ⟨fun hp => hm.trans (if_neg hp), fun hp hr => ?_, fun hp hr => ?_⟩
  · rw [if_pos hp, if_pos hr] at hm
    obtain ⟨halert, hwatch, -⟩ := State.changePage_attention (s := s) r n h
    have hgone : ((s.field? m).isNone || (t.field? m).isSome) = false := by rw [hm, hf]; rfl
    refine ⟨hm, fun hin => ?_, fun w hw hwm => ?_⟩
    · rw [halert] at hin
      exact absurd (List.mem_filter.1 hin).2 (ne_true_of_eq_false hgone)
    · rw [hwatch] at hw
      exact absurd (List.mem_filter.1 hw).2 (ne_true_of_eq_false (hwm ▸ hgone))
  · rw [hm, if_pos hp, if_neg hr]

/-! ### Settling -/

/-- Settles O53: the change is `leavePage` and the requests for the fields of the page selected, on the boundary that it opens
or finds begun. -/
theorem pageChangeSwapsPage : Obligations.PageChangeSwapsPage := by
  intro s q tag hreset hfrozen hpending htable hqueue hslots p common
  let u : State := { s with boundary := some s.begun }
  let r : PendingPage := ⟨q, tag⟩
  let n : FrameNo := s.scr.frameCounter + 1
  have hexec : exec .pageChange s = .next (u.changePage r n) := by
    rw [exec_pageChange_of_pending hreset hfrozen hpending, State.openBoundary_eq]
  have hrising : Store.rising u.fields = true := htable.1
  have hqueue' : u.queueLaw := hqueue
  obtain ⟨halert, hwatch, hfault⟩ := State.changePage_attention r n hrising
  obtain ⟨hage, hthreshold⟩ := State.leavePage_parameters (s := u) q n
  obtain ⟨hmsg, -, -⟩ := State.leavePage_line (s := u) q n
  obtain ⟨placed, hreplies⟩ := State.changePage_replies (s := u) r n
  refine ⟨u.changePage r n, placed, hexec, ?scr, ?plane, ?free, fun m f hf => State.changePage_record r n hrising hf, ?owners,
    ?slots, State.mem_changePage_scanOrder r n hrising hqueue', State.changePage_lists r n hrising hqueue',
    State.changePage_entries r n hrising hqueue', ?age, ?threshold, State.changePage_lag r n hrising hqueue', halert, hwatch,
    hfault, State.changePage_fresh r n hrising hqueue' rfl, ?msg, hreplies, u.changePage_line r n⟩
  case scr =>
    rw [State.changePage_scr, State.leavePage_scr]
  case plane =>
    intro place hplace
    have hread := State.changePage_plane (s := u) r n hplace
    exact ⟨fun hin => hread.trans (if_pos ((State.commonCovers_iff place).2 hin)),
      fun hout => hread.trans (if_neg fun hin => hout ((State.commonCovers_iff place).1 hin))⟩
  case free =>
    intro m hm
    rw [State.changePage_field? r n hrising, show u.field? m = none from hm, Option.bind_none]
  case owners =>
    intro e he m f hm hf
    rw [State.changePage_slots] at he
    exact State.leavePage_owner (s := u) q n hslots he hm hf
  case slots =>
    intro e he m f hm hf
    rw [State.changePage_slots]
    exact ⟨State.leavePage_slot_of_common (s := u) q n hrising he hm hf, fun hp i discard hc =>
      State.leavePage_slot_of_page (s := u) q n he hm hf hp hc⟩
  case age => exact hage ▸ by simp [State.changePage_eq, r]
  case threshold => exact hthreshold ▸ by simp [State.changePage_eq, r]
  case msg =>
    have hwaiting : (u.changePage r n).msg = { (u.leavePage q n).msg with pendingPage := none } := by
      simp [State.changePage_eq, r]
    rw [hwaiting, hmsg]

end Sys2Proof.Machine
end

section
/-! A change of geometry (R70, R71, R87, R115 to R117): the part with the new plane and nothing in the queue, and then the
entries of the visible fields. -/

namespace Sys2Proof.Machine

variable {s : State}

/-! ### The part with the queue emptied -/

/-- The part with the new geometry, with the fields released that do not fit it, and with the queue empty (R87, R116). -/
def State.regrid (s : State) (g : Geometry) (n : FrameNo) : State :=
  let released := (s.clearForGeometry g).releaseAll n (s.releasedBy g)
  released.removeEntries n released.scanOrder

theorem State.changeGeometry_eq (g : Geometry) (n : FrameNo) :
    s.changeGeometry g n = (s.regrid g n).enqueueAllAtBoundary n (s.regrid g n).visibleNumbers := rfl

theorem State.regrid_scr (g : Geometry) (n : FrameNo) :
    (s.regrid g n).scr =
      { s.scr with geometry := g, plane := Memory.blankBut (fun _ => false) s.defaultBlank g.cells s.scr.plane } := by
  simp [State.regrid, State.clearForGeometry]

/-- A field does not outlive a change to a geometry: it is RETIRING, or does not fit (R116 step 3). -/
def Field.leaves (g : Geometry) (f : Field) : Bool := !f.inBounds g || f.state = .retiring

theorem Field.leaves_iff (g : Geometry) (f : Field) :
    f.leaves g = true ↔ f.state = .retiring ∨ g.rows ≤ f.row ∨ g.columns < f.column + f.width := by
  rw [Field.leaves, Field.inBounds, Bool.or_eq_true, Bool.not_eq_true', Bool.and_eq_false_iff, decide_eq_true_iff,
    decide_eq_false_iff_not, decide_eq_false_iff_not, Nat.not_lt, Nat.not_le]
  tauto

theorem State.mem_releasedBy_iff (h : Store.rising s.fields = true) (g : Geometry) (n : Nat) :
    n ∈ s.releasedBy g ↔ ∃ f, s.field? n = some f ∧ f.leaves g = true := by
  constructor
  · intro hn
    obtain ⟨e, he, rfl⟩ := List.mem_map.1 hn
    obtain ⟨he, hleaves⟩ := List.mem_filter.1 he
    exact ⟨e.2, Store.find?_of_mem h he, hleaves⟩
  · rintro ⟨f, hf, hleaves⟩
    exact List.mem_map.2 ⟨(n, f), List.mem_filter.2 ⟨Store.mem_of_find? hf, hleaves⟩, rfl⟩

theorem State.regrid_fields (g : Geometry) (n : FrameNo) (h : Store.rising s.fields = true) :
    (s.regrid g n).fields = (s.fields.map fun e => (e.1, e.2.unshown)).filter fun e => e.1 ∉ s.releasedBy g := by
  rw [State.regrid, State.removeEntries_fields,
    State.releaseAll_fields n _ ((s.clearForGeometry_recordsFrom g).rising h)]
  rfl

theorem State.regrid_rising (g : Geometry) (n : FrameNo) (h : Store.rising s.fields = true) :
    Store.rising (s.regrid g n).fields = true := by
  rw [State.regrid_fields g n h]
  exact Store.rising_sublist List.filter_sublist ((s.clearForGeometry_recordsFrom g).rising h)

theorem State.regrid_field? (g : Geometry) (n : FrameNo) (h : Store.rising s.fields = true) (m : Nat) :
    (s.regrid g n).field? m = (s.field? m).bind fun f => if f.leaves g then none else some f.unshown := by
  have hfield? : (s.regrid g n).field? m = ((s.clearForGeometry g).releaseAll n (s.releasedBy g)).field? m := by
    simp [State.regrid, State.field?]
  rw [hfield?, State.releaseAll_field? n _ ((s.clearForGeometry_recordsFrom g).rising h), State.clearForGeometry_field?]
  have hreleased := State.mem_releasedBy_iff h g m
  cases hf : s.field? m with
  | none => simp
  | some f =>
    simp only [hf, Option.some.injEq, exists_eq_left'] at hreleased
    simp only [hreleased, Option.map_some, Option.bind_some]

/-- Each field of the old geometry is still in use or has been released. -/
theorem State.regrid_length (g : Geometry) (n : FrameNo) (h : Store.rising s.fields = true) :
    (s.releasedBy g).length + (s.regrid g n).fields.length = s.fields.length := by
  have hstays : s.fields.filter (fun e => e.1 ∉ s.releasedBy g) = s.fields.filter fun e => !e.2.leaves g :=
    List.filter_congr fun e he => by
      rw [Bool.eq_iff_iff, decide_eq_true_iff, State.mem_releasedBy_iff h, show s.field? e.1 = some e.2 from
        Store.find?_of_mem h he]
      simp
  have hgone : (s.releasedBy g).length = (s.fields.filter fun e => e.2.leaves g).length := List.length_map ..
  have hkept : (s.regrid g n).fields.length = (s.fields.filter fun e => e.1 ∉ s.releasedBy g).length := by
    rw [State.regrid_fields g n h, List.filter_map, List.length_map]
    rfl
  rw [hgone, hkept, hstays]
  exact (List.length_eq_length_filter_add fun e : Nat × Field => e.2.leaves g).symm

/-- Every slot is given up; what is being rendered is marked discard (R87, R116 step 2). -/
theorem State.regrid_slots (g : Geometry) (n : FrameNo) :
    (s.regrid g n).pnt.slots = abandonSlots (fun _ => true) s.pnt.slots := by
  rw [State.regrid, State.removeEntries_pnt.slots]
  exact State.releaseAll_slots_of_unowned n _ fun e he m hm => absurd (abandonSlots_owner he hm).2 (by simp)

theorem State.regrid_queue (g : Geometry) (n : FrameNo) :
    (s.regrid g n).pnt.urgent = [] ∧ (s.regrid g n).pnt.routine = [] := by
  rw [State.regrid, State.removeEntries_urgent, State.removeEntries_routine]
  refine ⟨List.filter_eq_nil_iff.2 fun m hm => ?_, List.filter_eq_nil_iff.2 fun e he => ?_⟩
  · simpa using (State.mem_scanOrder_iff _ m).2 (.inl hm)
  · simpa using (State.mem_scanOrder_iff _ e.field).2 (.inr (List.mem_map_of_mem he))

theorem State.regrid_scanOrder (g : Geometry) (n : FrameNo) : (s.regrid g n).scanOrder = [] := by
  obtain ⟨hurgent, hroutine⟩ := State.regrid_queue (s := s) g n
  rw [State.scanOrder, hurgent, hroutine]
  rfl

theorem State.regrid_parameters (g : Geometry) (n : FrameNo) :
    (s.regrid g n).pnt.ageLimit = s.pnt.ageLimit ∧ (s.regrid g n).pnt.lagThreshold = s.pnt.lagThreshold := by
  rw [State.regrid, State.removeEntries_pnt.ageLimit, State.removeEntries_pnt.lagThreshold]
  exact State.releaseAll_parameters n _

theorem State.regrid_attention (g : Geometry) (n : FrameNo) :
    (s.regrid g n).aeu.alertList = s.aeu.alertList.filter (fun m => m ∉ s.releasedBy g) ∧
      (s.regrid g n).aeu.watchList = s.aeu.watchList.filter (fun w => w.field ∉ s.releasedBy g) ∧
      (s.regrid g n).aeu.faultRecord = s.aeu.faultRecord := by
  rw [State.regrid, State.removeEntries_aeu.alertList, State.removeEntries_aeu.watchList,
    State.removeEntries_aeu.faultRecord]
  exact ⟨State.releaseAll_alertList n _, State.releaseAll_watchList n _, State.releaseAll_faultRecord n _⟩

theorem State.regrid_line (g : Geometry) (n : FrameNo) :
    (s.regrid g n).msg = s.msg ∧ (s.regrid g n).lnk.replies = s.lnk.replies ∧ (s.regrid g n).boundary = s.boundary := by
  obtain ⟨hmsg, hreplies, -, hboundary⟩ := State.releaseAll_leavesLine (s := s.clearForGeometry g) n (s.releasedBy g)
  rw [State.regrid, State.removeEntries_msg, State.removeEntries_lnk.replies, State.removeEntries_boundary]
  exact ⟨hmsg, hreplies, hboundary⟩

/-- A field has gone FREE just where it is released. -/
theorem State.regrid_freed_iff (g : Geometry) (n : FrameNo) (h : Store.rising s.fields = true) (m : Nat) :
    ((s.field? m).isNone || ((s.regrid g n).field? m).isSome) = decide (m ∉ s.releasedBy g) := by
  rw [Bool.eq_iff_iff, decide_eq_true_iff, State.mem_releasedBy_iff h, State.regrid_field? g n h]
  cases hf : s.field? m with
  | none => simp
  | some f => cases hleaves : f.leaves g <;> simp [hleaves]

/-- LAGGING falls with the emptied queue, because 0 is below every threshold (R71, R72). -/
theorem State.regrid_lag (g : Geometry) (n : FrameNo) (h : s.lagLaw) :
    (s.regrid g n).lagLaw ∧ (s.regrid g n).pnt.lagging = false ∧ s.latchedOnce (s.regrid g n) 0 n := by
  obtain ⟨hreleased, hle⟩ := State.releaseAll_lagFollows (s := s.clearForGeometry g) n (s.releasedBy g) h
  obtain ⟨hremoved, hless⟩ := State.removeEntries_lagFollows n
    ((s.clearForGeometry g).releaseAll n (s.releasedBy g)).scanOrder (hreleased.lagLaw h)
  obtain ⟨hthreshold, hlagging, hlatched⟩ := hreleased.trans hremoved h (.inr ⟨hle, hless⟩)
  have hlagging : (s.regrid g n).pnt.lagging = lagAfter s.pnt.lagging s.pnt.lagThreshold (s.regrid g n).queuedTotal :=
    hlagging
  have hlow := h.1
  have hfalls : (s.regrid g n).pnt.lagging = false := by
    rw [hlagging, ← State.length_scanOrder, State.regrid_scanOrder]
    cases s.pnt.lagging
    · simpa [lagAfter_false] using Nat.ne_of_gt hlow
    · simp [lagAfter_true]
  have hno : ∀ x, riseKinds x false = 0 := fun x => by cases x <;> rfl
  refine ⟨hremoved.lagLaw (hreleased.lagLaw h), hfalls, ?_⟩
  have hfalls' := hfalls
  rw [State.regrid] at hfalls'
  rw [hfalls', hno] at hlatched
  exact hlatched

/-! ### The entries of the visible fields -/

theorem State.mem_visibleNumbers_iff (h : Store.rising s.fields = true) (m : Nat) :
    m ∈ s.visibleNumbers ↔ s.onScreen m := by
  constructor
  · intro hm
    obtain ⟨e, he, rfl⟩ := List.mem_map.1 hm
    obtain ⟨he, hv⟩ := List.mem_filter.1 he
    exact ⟨e.2, Store.find?_of_mem h he, hv⟩
  · rintro ⟨f, hf, hv⟩
    exact List.mem_map.2 ⟨(m, f), List.mem_filter.2 ⟨Store.mem_of_find? hf, hv⟩, rfl⟩

theorem State.changeGeometry_fields (g : Geometry) (n : FrameNo) : (s.changeGeometry g n).fields = (s.regrid g n).fields := by
  simp [State.changeGeometry_eq]

theorem State.changeGeometry_scr (g : Geometry) (n : FrameNo) : (s.changeGeometry g n).scr = (s.regrid g n).scr := by
  simp [State.changeGeometry_eq]

theorem State.changeGeometry_field? (g : Geometry) (n : FrameNo) (m : Nat) :
    (s.changeGeometry g n).field? m = (s.regrid g n).field? m := by
  rw [State.field?, State.changeGeometry_fields, State.field?]

theorem State.changeGeometry_shows (g : Geometry) (n : FrameNo) : (s.changeGeometry g n).shows = (s.regrid g n).shows := by
  funext f
  rw [State.shows, State.changeGeometry_scr, State.shows]

theorem State.regrid_nodup (g : Geometry) (n : FrameNo) : (s.regrid g n).scanOrder.Nodup := by
  rw [State.regrid_scanOrder]
  exact List.nodup_nil

theorem State.mem_changeGeometry_scanOrder (g : Geometry) (n : FrameNo) (h : Store.rising s.fields = true) (m : Nat) :
    m ∈ (s.changeGeometry g n).scanOrder ↔ (s.changeGeometry g n).onScreen m := by
  have honScreen : (s.changeGeometry g n).onScreen m ↔ (s.regrid g n).onScreen m := by
    simp only [State.onScreen, State.changeGeometry_field?, State.changeGeometry_shows]
  rw [honScreen, State.changeGeometry_eq, State.mem_enqueueAllAtBoundary_scanOrder n _ m (State.regrid_nodup g n),
    State.regrid_scanOrder, State.mem_visibleNumbers_iff (State.regrid_rising g n h)]
  simp

theorem State.changeGeometry_lists (g : Geometry) (n : FrameNo) (h : Store.rising s.fields = true) :
    let t := s.changeGeometry g n
    t.pnt.urgent = (t.fields.filter fun e => t.shows e.2 && e.2.options.urgent).map Prod.fst ∧
      t.pnt.routine = (t.fields.filter fun e => t.shows e.2 && !e.2.options.urgent).map fun e => ⟨e.1, 0⟩ := by
  intro t
  have hrising := State.regrid_rising g n h
  obtain ⟨holdUrgent, holdRoutine⟩ := State.regrid_queue (s := s) g n
  obtain ⟨hurgent, hroutine⟩ := State.enqueueAllAtBoundary_lists (s := s.regrid g n) n
    ((s.regrid g n).fields.filter fun e => (s.regrid g n).shows e.2)
    ((List.filter_sublist.map Prod.fst).nodup (Store.nodup_keys hrising))
    (fun e he => by
      obtain ⟨he, hv⟩ := List.mem_filter.1 he
      exact ⟨Store.find?_of_mem hrising he, hv, by rw [State.regrid_scanOrder]; exact List.not_mem_nil⟩)
    (State.regrid_nodup g n)
  refine ⟨hurgent.trans ?_, hroutine.trans ?_⟩
  · rw [holdUrgent, List.nil_append, List.filter_filter]
    simp only [t, Bool.and_comm, State.changeGeometry_fields, State.changeGeometry_shows]
  · rw [holdRoutine, List.nil_append, List.filter_filter]
    simp only [t, Bool.and_comm, State.changeGeometry_fields, State.changeGeometry_shows]

/-- LAGGING is false in the emptied queue, and rises where the new entries reach the threshold (R71). -/
theorem State.changeGeometry_lag (g : Geometry) (n : FrameNo) (h : s.lagLaw) :
    let t := s.changeGeometry g n
    t.pnt.lagging = decide (s.pnt.lagThreshold ≤ t.queuedTotal) ∧ s.latchedOnce t (riseKinds false t.pnt.lagging) n := by
  intro t
  obtain ⟨hlaw, hfalls, hfirst⟩ := State.regrid_lag g n h
  obtain ⟨-, hthreshold⟩ := State.regrid_parameters (s := s) g n
  obtain ⟨⟨-, hlagging, hsecond⟩, -⟩ := State.enqueueAllAtBoundary_lagFollows n (s.regrid g n).visibleNumbers hlaw
    (State.regrid_nodup g n)
  rw [hfalls, hthreshold, lagAfter_false] at hlagging
  rw [hfalls] at hsecond
  refine ⟨hlagging, ?_⟩
  have hboth := State.latchedOnce_trans hfirst hsecond (.inr (.inl rfl))
  rwa [EventSet.none_or] at hboth

/-- The record of the boundary's entries gains every field of the queue (R69). -/
theorem State.changeGeometry_fresh (g : Geometry) (n : FrameNo) (h : Store.rising s.fields = true) {b : Boundary}
    (hb : s.boundary = some b) :
    let t := s.changeGeometry g n
    ∃ fresh, t.boundary = some { b with fresh := fresh } ∧ (∀ m ∈ b.fresh, m ∈ fresh) ∧
      (∀ m ∈ t.scanOrder, m ∈ fresh) ∧ ∀ m ∈ fresh, m ∈ b.fresh ∨ m ∈ t.scanOrder := by
  intro t
  obtain ⟨-, -, hboundary⟩ := State.regrid_line (s := s) g n
  obtain ⟨fresh, hfresh, hkept, hnew, honly⟩ := State.enqueueAllAtBoundary_freshGrows n (s.regrid g n).visibleNumbers
    (State.regrid_nodup g n) b (hboundary.trans hb)
  refine ⟨fresh, hfresh, hkept, fun m hm => hnew m hm (by rw [State.regrid_scanOrder]; exact List.not_mem_nil),
    fun m hm => (honly m hm).imp_right fun hin => ?_⟩
  have hscreen := (State.mem_visibleNumbers_iff (State.regrid_rising g n h) m).1 hin
  exact (State.mem_enqueueAllAtBoundary_scanOrder n _ m (State.regrid_nodup g n)).2 (.inr ⟨hin, hscreen⟩)

end Sys2Proof.Machine
end

section
/-! What a configuration leaves (R70 to R72, R87, R115 to R117). -/

namespace Sys2Proof.Machine

variable {s : State}

theorem exec_configurationApply_of_pending {c : PendingConfigure} (hreset : s.resetCause = none)
    (hfrozen : s.scr.frozen = false) (hpending : s.msg.pendingConfigure = some c) :
    exec .configurationApply s = .next (s.openBoundary.applyConfigure c (s.scr.frameCounter + 1)) := by
  have hexec : exec .configurationApply s = if s.inReset || s.scr.frozen || s.msg.pendingConfigure.isNone then .next s
      else .next (s.openBoundary.applyPendingConfigure s.boundaryNumber) := rfl
  rw [hexec, if_neg (by simp [State.inReset, hreset, hfrozen, hpending])]
  simp [State.applyPendingConfigure, hpending, hfrozen, State.boundaryNumber]

/-! ### The parameters (R70, R72, R115) -/

theorem State.takeParameters_scr (c : PendingConfigure) (n : FrameNo) :
    (s.takeParameters c n).scr = { s.scr with defaultFg := c.fg, defaultBg := c.bg, blinkPeriod := c.blinkPeriod } := by
  simp [State.takeParameters]

theorem State.takeParameters_fields (c : PendingConfigure) (n : FrameNo) : (s.takeParameters c n).fields = s.fields := by
  simp [State.takeParameters]

theorem State.takeParameters_field? (c : PendingConfigure) (n : FrameNo) (m : Nat) :
    (s.takeParameters c n).field? m = s.field? m := by
  rw [State.field?, State.takeParameters_fields, State.field?]

theorem State.takeParameters_total (c : PendingConfigure) (n : FrameNo) :
    (s.takeParameters c n).queuedTotal = s.queuedTotal := by
  rw [State.queuedTotal, State.takeParameters_pnt, State.queuedTotal]

theorem State.takeParameters_reported (c : PendingConfigure) (n : FrameNo) : s.lagReported (s.takeParameters c n) n :=
  State.latchLagRise_reported (by rfl) (by rfl) n

theorem State.takeParameters_lists (c : PendingConfigure) (n : FrameNo) : s.listsKept (s.takeParameters c n) := by
  simp [State.listsKept, State.takeParameters]

theorem State.takeParameters_rest (c : PendingConfigure) (n : FrameNo) :
    (s.takeParameters c n).msg = s.msg ∧ (s.takeParameters c n).lnk.replies = s.lnk.replies ∧
      (s.takeParameters c n).boundary = s.boundary := by simp [State.takeParameters]

/-- LAGGING judged against a new threshold in its range obeys its law (R72). -/
theorem State.takeParameters_lagLaw {c : PendingConfigure} (n : FrameNo) (h : 1 ≤ c.lagThreshold) :
    (s.takeParameters c n).lagLaw := by
  refine State.lagLaw_of_judged (lagging := s.pnt.lagging) ?_ ?_
  · rwa [State.takeParameters_pnt]
  · rw [State.takeParameters_total, State.takeParameters_pnt]

/-! ### The same geometry, and another -/

/-- The part with a configuration answered: nothing waits, and the deferred reply carries the geometry and the number of fields
released (R117). -/
def State.configuredBy (s : State) (c : PendingConfigure) (released : Nat) : State :=
  ({ s with msg := { s.msg with pendingConfigure := none } } : State).fillReply 0x83 c.tag
    (c.geometry.code :: bytesOfCount released) s.lnk.placings

@[simp] theorem State.configuredBy_fields (c : PendingConfigure) (k : Nat) : (s.configuredBy c k).fields = s.fields := rfl
@[simp] theorem State.configuredBy_pnt (c : PendingConfigure) (k : Nat) : (s.configuredBy c k).pnt = s.pnt := rfl
@[simp] theorem State.configuredBy_scr (c : PendingConfigure) (k : Nat) : (s.configuredBy c k).scr = s.scr := rfl
@[simp] theorem State.configuredBy_msg (c : PendingConfigure) (k : Nat) :
    (s.configuredBy c k).msg = { s.msg with pendingConfigure := none } := rfl
@[simp] theorem State.configuredBy_replies (c : PendingConfigure) (k : Nat) :
    (s.configuredBy c k).lnk.replies =
      s.lnk.replies ++ [⟨0x83, c.tag, c.geometry.code :: bytesOfHalf (BitVec.ofNat 16 k), s.lnk.placings⟩] := rfl

theorem State.applyConfigure_of_same {c : PendingConfigure} (n : FrameNo) (h : c.geometry = s.scr.geometry) :
    s.applyConfigure c n = (s.takeParameters c n).configuredBy c 0 := by
  simp [State.applyConfigure, State.configuredBy, h]

theorem State.applyConfigure_of_other {c : PendingConfigure} (n : FrameNo) (h : c.geometry ≠ s.scr.geometry) :
    s.applyConfigure c n = ((s.takeParameters c n).changeGeometry c.geometry n).configuredBy c
      ((s.takeParameters c n).releasedBy c.geometry).length := by
  simp [State.applyConfigure, State.configuredBy, h]

/-! ### Another geometry (R87, R116) -/

theorem State.changeGeometry_rest (g : Geometry) (n : FrameNo) :
    (s.changeGeometry g n).msg = s.msg ∧ (s.changeGeometry g n).lnk.replies = s.lnk.replies ∧
      (s.changeGeometry g n).pnt.ageLimit = s.pnt.ageLimit ∧
      (s.changeGeometry g n).pnt.lagThreshold = s.pnt.lagThreshold := by
  obtain ⟨hmsg, hreplies, -⟩ := State.regrid_line (s := s) g n
  obtain ⟨hage, hthreshold⟩ := State.regrid_parameters (s := s) g n
  simp [State.changeGeometry_eq, hmsg, hreplies, hage, hthreshold]

/-- The whole new panel is blank in the default colours (R116 step 1). -/
theorem State.changeGeometry_plane (g : Geometry) (n : FrameNo) {place : Nat} (h : place < g.cells) :
    Memory.read (s.changeGeometry g n).scr.plane place = s.defaultBlank := by
  rw [State.changeGeometry_scr, State.regrid_scr]
  exact Memory.read_blankBut _ _ _ _ _ h

/-- What becomes of a record at a change of geometry (R116). -/
theorem State.changeGeometry_record (g : Geometry) (n : FrameNo) (h : Store.rising s.fields = true) {m : Nat} {f : Field}
    (hf : s.field? m = some f) :
    (s.changeGeometry g n).field? m = if f.leaves g then none else some f.unshown := by
  rw [State.changeGeometry_field?, State.regrid_field? g n h, hf, Option.bind_some]

theorem State.changeGeometry_free (g : Geometry) (n : FrameNo) (h : Store.rising s.fields = true) {m : Nat}
    (hm : s.field? m = none) : (s.changeGeometry g n).field? m = none := by
  rw [State.changeGeometry_field?, State.regrid_field? g n h, hm, Option.bind_none]

theorem State.changeGeometry_attention (g : Geometry) (n : FrameNo) (h : Store.rising s.fields = true) :
    let t := s.changeGeometry g n
    t.aeu.alertList = s.aeu.alertList.filter (fun m => (s.field? m).isNone || (t.field? m).isSome) ∧
      t.aeu.watchList = s.aeu.watchList.filter (fun w => (s.field? w.field).isNone || (t.field? w.field).isSome) ∧
      t.aeu.faultRecord = s.aeu.faultRecord := by
  intro t
  obtain ⟨halert, hwatch, hfault⟩ := State.regrid_attention (s := s) g n
  have hfreed : ∀ m, ((s.field? m).isNone || (t.field? m).isSome) = decide (m ∉ s.releasedBy g) := fun m => by
    rw [State.changeGeometry_field?, State.regrid_freed_iff g n h]
  simp only [hfreed, ← halert, ← hwatch, ← hfault]
  simp [t, State.changeGeometry_eq]

/-- No field holds a slot afterwards, and what is being rendered is marked discard (R116 step 2). -/
theorem State.changeGeometry_slots (g : Geometry) (n : FrameNo) :
    let t := s.changeGeometry g n
    (∀ e ∈ t.pnt.slots, e.2.field = none) ∧
      (∀ e ∈ s.pnt.slots, ∀ i discard, e.2.content = .filling i discard →
        (e.1, ⟨none, .filling i true⟩) ∈ t.pnt.slots) ∧
      ∀ e ∈ t.pnt.slots, e.2.content.isFilling = true := by
  intro t
  have hslots : t.pnt.slots = abandonSlots (fun _ => true) s.pnt.slots := by
    simp [t, State.changeGeometry_eq, State.regrid_slots]
  have hmarked : ∀ e ∈ t.pnt.slots, ∃ inputs, e.2 = ⟨none, .filling inputs true⟩ := fun e he => by
    rcases mem_abandonSlots (hslots ▸ he) with ⟨-, hc⟩ | ⟨-, -, -, inputs, -, -, heq⟩
    · exact nomatch hc
    · exact ⟨inputs, heq⟩
  refine ⟨fun e he => ?_, fun e he i discard hc => ?_, fun e he => ?_⟩
  · obtain ⟨inputs, heq⟩ := hmarked e he
    rw [heq]
  · obtain ⟨k, owner, content⟩ := e
    dsimp only at hc ⊢
    subst hc
    rw [hslots]
    exact mem_abandonSlots_of_filling he rfl
  · obtain ⟨inputs, heq⟩ := hmarked e he
    rw [heq]
    rfl

/-! ### Parameters and geometry together -/

/-- The part with the parameters taken and the geometry changed, before the reply (R115, R116). -/
def State.reconfigured (s : State) (c : PendingConfigure) (n : FrameNo) : State :=
  (s.takeParameters c n).changeGeometry c.geometry n

theorem State.takeParameters_rising (c : PendingConfigure) (n : FrameNo) (h : Store.rising s.fields = true) :
    Store.rising (s.takeParameters c n).fields = true := by rwa [State.takeParameters_fields]

theorem State.reconfigured_scr (c : PendingConfigure) (n : FrameNo) :
    (s.reconfigured c n).scr =
      { s.scr with geometry := c.geometry, plane := (s.reconfigured c n).scr.plane, defaultFg := c.fg, defaultBg := c.bg,
                   blinkPeriod := c.blinkPeriod } := by
  rw [State.reconfigured, State.changeGeometry_scr, State.regrid_scr, State.takeParameters_scr]

theorem State.reconfigured_plane (c : PendingConfigure) (n : FrameNo) {place : Nat} (h : place < c.geometry.cells) :
    Memory.read (s.reconfigured c n).scr.plane place = ⟨0x20, c.fg, c.bg, false, false⟩ := by
  rw [State.reconfigured, State.changeGeometry_plane c.geometry n h, State.defaultBlank, State.takeParameters_scr]
  rfl

theorem State.reconfigured_rest (c : PendingConfigure) (n : FrameNo) :
    (s.reconfigured c n).msg = s.msg ∧ (s.reconfigured c n).lnk.replies = s.lnk.replies ∧
      (s.reconfigured c n).pnt.ageLimit = c.ageLimit ∧ (s.reconfigured c n).pnt.lagThreshold = c.lagThreshold := by
  obtain ⟨hmsg, hreplies, hage, hthreshold⟩ := State.changeGeometry_rest (s := s.takeParameters c n) c.geometry n
  obtain ⟨hmsg', hreplies', -⟩ := State.takeParameters_rest (s := s) c n
  rw [State.takeParameters_pnt] at hage hthreshold
  exact ⟨hmsg.trans hmsg', hreplies.trans hreplies', hage, hthreshold⟩

/-- The number of fields released is what the table has lost (R117). -/
theorem State.reconfigured_length (c : PendingConfigure) (n : FrameNo) (h : Store.rising s.fields = true) :
    ((s.takeParameters c n).releasedBy c.geometry).length = s.fields.length - (s.reconfigured c n).fields.length := by
  have hlength := State.regrid_length c.geometry n (State.takeParameters_rising c n h)
  rw [← State.changeGeometry_fields, State.takeParameters_fields] at hlength
  exact Nat.eq_sub_of_add_eq hlength

theorem State.reconfigured_free (c : PendingConfigure) (n : FrameNo) (h : Store.rising s.fields = true) {m : Nat}
    (hm : s.field? m = none) : (s.reconfigured c n).field? m = none :=
  State.changeGeometry_free c.geometry n (State.takeParameters_rising c n h)
    ((State.takeParameters_field? c n m).trans hm)

theorem State.reconfigured_record (c : PendingConfigure) (n : FrameNo) (h : Store.rising s.fields = true) {m : Nat}
    {f : Field} (hf : s.field? m = some f) :
    let leaves := f.state = .retiring ∨ c.geometry.rows ≤ f.row ∨ c.geometry.columns < f.column + f.width
    (leaves → (s.reconfigured c n).field? m = none) ∧ (¬leaves → (s.reconfigured c n).field? m = some f.unshown) := by
  intro leaves
  have hm := State.changeGeometry_record c.geometry n (State.takeParameters_rising c n h)
    ((State.takeParameters_field? c n m).trans hf)
  exact ⟨fun hgone => hm.trans (if_pos ((f.leaves_iff _).2 hgone)),
    fun hstays => hm.trans (if_neg fun hgone => hstays ((f.leaves_iff _).1 hgone))⟩

theorem State.reconfigured_slots (c : PendingConfigure) (n : FrameNo) :
    let t := s.reconfigured c n
    (∀ e ∈ t.pnt.slots, e.2.field = none) ∧
      (∀ e ∈ s.pnt.slots, ∀ i discard, e.2.content = .filling i discard →
        (e.1, ⟨none, .filling i true⟩) ∈ t.pnt.slots) ∧
      ∀ e ∈ t.pnt.slots, e.2.content.isFilling = true := by
  have hslots := State.changeGeometry_slots (s := s.takeParameters c n) c.geometry n
  rwa [State.takeParameters_pnt] at hslots

/-- LAGGING judged against the new threshold, then on the emptied queue, then on the new entries (R71, R72). -/
theorem State.reconfigured_lag {c : PendingConfigure} (n : FrameNo) (h : 1 ≤ c.lagThreshold) :
    let t := s.reconfigured c n
    t.pnt.lagging = decide (c.lagThreshold ≤ t.queuedTotal) ∧
      s.latchedOnce t (if (s.pnt.lagging = false ∧ c.lagThreshold ≤ s.queuedTotal) ∨ c.lagThreshold ≤ t.queuedTotal
        then 0x0200 else 0) n := by
  intro t
  obtain ⟨hlagging, hsecond⟩ := State.changeGeometry_lag c.geometry n (s.takeParameters_lagLaw n h)
  have hfirst := State.latchedOnce_of_lagReported (State.takeParameters_reported (s := s) c n)
  rw [State.takeParameters_pnt] at hlagging hfirst
  have hlagging : t.pnt.lagging = decide (c.lagThreshold ≤ t.queuedTotal) := hlagging
  have hsecond : (s.takeParameters c n).latchedOnce t (riseKinds false t.pnt.lagging) n := hsecond
  refine ⟨hlagging, ?_⟩
  have hrises : riseKinds s.pnt.lagging (lagAfter s.pnt.lagging c.lagThreshold s.queuedTotal) =
      if s.pnt.lagging = false ∧ c.lagThreshold ≤ s.queuedTotal then 0x0200 else 0 := by
    unfold riseKinds
    cases s.pnt.lagging <;> simp [lagAfter_false]
  have hrises' : riseKinds false t.pnt.lagging = if c.lagThreshold ≤ t.queuedTotal then 0x0200 else 0 := by
    unfold riseKinds
    rw [hlagging]
    simp
  have hboth := State.latchedOnce_trans hfirst hsecond
  rw [hrises, hrises'] at hboth
  by_cases hbefore : s.pnt.lagging = false ∧ c.lagThreshold ≤ s.queuedTotal <;>
    by_cases hafter : c.lagThreshold ≤ t.queuedTotal <;>
    simpa [hbefore, hafter] using hboth (by simp [hbefore, hafter])

theorem State.reconfigured_attention (c : PendingConfigure) (n : FrameNo) (h : Store.rising s.fields = true) :
    let t := s.reconfigured c n
    t.aeu.alertList = s.aeu.alertList.filter (fun m => (s.field? m).isNone || (t.field? m).isSome) ∧
      t.aeu.watchList = s.aeu.watchList.filter (fun w => (s.field? w.field).isNone || (t.field? w.field).isSome) ∧
      t.aeu.faultRecord = s.aeu.faultRecord := by
  obtain ⟨halert, hwatch, hfault⟩ := State.changeGeometry_attention c.geometry n (State.takeParameters_rising c n h)
  obtain ⟨halert', hwatch'⟩ := State.takeParameters_lists (s := s) c n
  obtain ⟨-, hfault'⟩ := State.takeParameters_reported (s := s) c n
  simp only [State.takeParameters_field?, halert', hwatch', hfault'] at halert hwatch hfault
  exact ⟨halert, hwatch, hfault⟩

/-! ### Settling -/

/-- Settles O54: the parameters are taken on the boundary that the command opens or finds begun, and a changed geometry empties
the queue before the visible fields come. -/
theorem configurationTakesEffect : Obligations.ConfigurationTakesEffect := by
  intro s c hreset hfrozen hpending htable
  let u : State := { s with boundary := some s.begun }
  let n : FrameNo := s.scr.frameCounter + 1
  have hexec : exec .configurationApply s = .next (u.applyConfigure c n) := by
    rw [exec_configurationApply_of_pending hreset hfrozen hpending, State.openBoundary_eq]
  have hline : s.lineUntouched (u.applyConfigure c n) := u.applyConfigure_line c n
  have hrising : Store.rising u.fields = true := htable.1
  by_cases hgeometry : c.geometry = s.scr.geometry
  · rw [State.applyConfigure_of_same (s := u) n hgeometry] at hexec hline
    have hscr := State.takeParameters_scr (s := u) c n
    have hpnt := u.takeParameters_pnt c n
    obtain ⟨hmsg, hreplies, hboundary⟩ := State.takeParameters_rest (s := u) c n
    refine ⟨(u.takeParameters c n).configuredBy c 0, 0, (u.takeParameters c n).lnk.placings, hexec, ?_, ?_, ?_, ?_, hline, ?_,
      fun _ => ⟨rfl, ?_, ?_, ?_, ?_, ?_, ?_, State.takeParameters_reported (s := u) c n,
        State.takeParameters_lists (s := u) c n, hboundary⟩, fun hne => absurd hgeometry hne⟩
    · rw [State.configuredBy_scr, hscr, hgeometry]
    · rw [State.configuredBy_pnt, hpnt]
    · rw [State.configuredBy_pnt, hpnt]
    · rw [State.configuredBy_msg, hmsg]
    · rw [State.configuredBy_replies, hreplies]
    · rw [State.configuredBy_scr, hscr]
    · rw [State.configuredBy_fields, State.takeParameters_fields]
    · rw [State.configuredBy_pnt, hpnt]
    · rw [State.configuredBy_pnt, hpnt]
    · rw [State.configuredBy_pnt, hpnt]
    · rw [State.configuredBy_pnt, hpnt]
      rfl
  · rw [State.applyConfigure_of_other (s := u) n hgeometry, ← State.reconfigured,
      State.reconfigured_length c n hrising] at hexec hline
    have hscr := State.reconfigured_scr (s := u) c n
    have hplane := fun place => State.reconfigured_plane (s := u) (place := place) c n
    obtain ⟨hmsg, hreplies, hage, hthreshold⟩ := State.reconfigured_rest (s := u) c n
    have hfree := fun m => State.reconfigured_free (m := m) c n hrising
    have hrecord := fun m f => State.reconfigured_record (m := m) (f := f) c n hrising
    obtain ⟨hunowned, hmarked, hfilling⟩ := State.reconfigured_slots (s := u) c n
    have hparameters := State.takeParameters_rising c n hrising
    have hscan : ∀ m, m ∈ (u.reconfigured c n).scanOrder ↔ (u.reconfigured c n).onScreen m :=
      State.mem_changeGeometry_scanOrder c.geometry n hparameters
    obtain ⟨hurgent, hroutine⟩ := State.changeGeometry_lists c.geometry n hparameters
    have hlag := State.reconfigured_lag (s := u) (c := c) n
    obtain ⟨halert, hwatch, hfault⟩ := State.reconfigured_attention c n hrising
    obtain ⟨-, -, hboundary⟩ := State.takeParameters_rest (s := u) c n
    have hfresh := State.changeGeometry_fresh c.geometry n hparameters hboundary
    rw [← State.reconfigured] at hurgent hroutine hfresh
    generalize u.reconfigured c n = t at *
    exact ⟨t.configuredBy c _, _, t.lnk.placings, hexec, hscr, hage, hthreshold, by rw [State.configuredBy_msg, hmsg],
      hline, congrArg (· ++ _) hreplies, fun heq => absurd heq hgeometry, fun _ => ⟨rfl, hplane, hfree, hrecord, hunowned,
        hmarked, hfilling, hscan, hurgent, hroutine, hlag, halert, hwatch, hfault, hfresh⟩⟩

end Sys2Proof.Machine
end

section
/-! The panel at a frame boundary: what each part of a boundary does to SCR, to the operations that wait, to the replies and to
the parameters of PNT (R93, R96, R99, R103, R106, R112, R115, R122). -/

namespace Sys2Proof.Machine

variable (s : State)

/-! ### The parts of a boundary in their order (R103, R106) -/

/-- The parts before R106's steps: the boundary is begun, SCR has done its first work, and, as the order has it, FRAME has
latched, FTU has examined the fields and PNT has aged ROUTINE. -/
def State.earlyPart (order : BoundaryOrder) : State :=
  let n := s.boundaryNumber
  let started := (s.openBoundary.startBoundary n).latchFrameIf order.frameFirst n
  let examined := if order.ftuFirst then started.takeExpiries n else started
  if order.agingFirst then examined.age else examined

/-- R106 steps 1 and 2: the freeze limit, and the operation that waits. -/
def State.pendingPart (n : FrameNo) : State := ((s.expireFreeze n).applyPendingPage n).applyPendingConfigure n

/-- The commits and the parts that come after them. -/
def State.latePart (order : BoundaryOrder) (n : FrameNo) : State :=
  ((s.commitAll n).takeExpiries n).latchFrameIf (!order.frameFirst) n

/-- Everything that is done at a boundary, before its record is dropped. -/
def State.boundaryWork (order : BoundaryOrder) : State :=
  ((((s.earlyPart order).pendingPart s.boundaryNumber).age.judgeBlink s.boundaryNumber).latePart order s.boundaryNumber)

theorem State.takeBoundary_eq (order : BoundaryOrder) :
    s.takeBoundary order = { s.boundaryWork order with boundary := none } := rfl

/-! ### Parts that leave the panel alone -/

/-- SCR, MSG, the replies and PNT's parameters are as before. -/
structure State.samePanel (s t : State) : Prop where
  scr : t.scr = s.scr
  msg : t.msg = s.msg
  replies : t.lnk.replies = s.lnk.replies
  ageLimit : t.pnt.ageLimit = s.pnt.ageLimit
  lagThreshold : t.pnt.lagThreshold = s.pnt.lagThreshold

theorem State.samePanel_refl : s.samePanel s := ⟨rfl, rfl, rfl, rfl, rfl⟩

theorem State.samePanel.trans {s t u : State} (h : s.samePanel t) (k : t.samePanel u) : s.samePanel u :=
  ⟨k.scr.trans h.scr, k.msg.trans h.msg, k.replies.trans h.replies, k.ageLimit.trans h.ageLimit,
    k.lagThreshold.trans h.lagThreshold⟩

theorem State.latchFrameIf_samePanel (now : Bool) (n : FrameNo) : s.samePanel (s.latchFrameIf now n) := by
  unfold State.latchFrameIf
  split
  · constructor <;> simp
  · exact s.samePanel_refl

theorem State.openBoundary_samePanel : s.samePanel s.openBoundary := by constructor <;> simp

theorem State.expireField_samePanel (m : Nat) (f : Field) (n : FrameNo) : s.samePanel (s.expireField m f n) := by
  unfold State.expireField
  dsimp only
  split <;> constructor <;> simp

theorem State.examineAll_samePanel (n : FrameNo) (l : List Nat) : s.samePanel (s.examineAll n l) := by
  induction l generalizing s with
  | nil => exact s.samePanel_refl
  | cons m rest ih =>
    refine State.samePanel.trans ?_ (ih _)
    unfold State.examine
    split
    · split
      · exact s.expireField_samePanel m _ n
      · exact s.samePanel_refl
    · exact s.samePanel_refl

theorem State.takeExpiries_samePanel (n : FrameNo) : s.samePanel (s.takeExpiries n) := by
  unfold State.takeExpiries
  split
  · exact s.samePanel_refl
  · split
    · constructor <;> rfl
    · exact (s.examineAll_samePanel n _).trans ⟨rfl, rfl, rfl, rfl, rfl⟩

theorem State.age_samePanel : s.samePanel s.age := by
  unfold State.age
  split
  · exact s.samePanel_refl
  · split <;> constructor <;> rfl

/-- What SCR's first work at N leaves in SCR (R96, R99, R103). -/
theorem State.startBoundary_scr (n : FrameNo) :
    (s.startBoundary n).scr =
      { s.scr with
        frameCounter := n
        palette := List.zipWith (fun now staged => staged.getD now) s.scr.palette s.scr.stagedPalette
        stagedPalette := List.replicate 16 none
        mode := (s.scr.stagedMode.map Prod.fst).getD s.scr.mode
        brightness := (s.scr.stagedMode.map Prod.snd).getD s.scr.brightness
        stagedMode := none } := by
  unfold State.startBoundary State.applyMode State.applyPalette
  dsimp only
  cases h : s.scr.stagedMode <;> simp

/-- SCR's first work is on SCR alone. -/
theorem State.startBoundary_eq (n : FrameNo) : s.startBoundary n = { s with scr := (s.startBoundary n).scr } := by
  unfold State.startBoundary State.applyMode State.applyPalette
  dsimp only
  split <;> rfl

/-- The part with boundary N begun and SCR's first work done. -/
def State.started : State := { s with scr := (s.startBoundary s.boundaryNumber).scr, boundary := some s.begun }

theorem State.startBoundary_openBoundary : s.openBoundary.startBoundary s.boundaryNumber = s.started := by
  rw [State.openBoundary_eq, State.startBoundary_eq, State.startBoundary_scr, State.started, State.startBoundary_scr]

theorem State.earlyPart_samePanel (order : BoundaryOrder) : s.started.samePanel (s.earlyPart order) := by
  unfold State.earlyPart
  dsimp only
  rw [State.startBoundary_openBoundary]
  have hlatched := State.latchFrameIf_samePanel s.started order.frameFirst s.boundaryNumber
  have hexamined := hlatched.trans (State.takeExpiries_samePanel _ s.boundaryNumber)
  cases order.ftuFirst <;> cases order.agingFirst
  · exact hlatched
  · exact hlatched.trans (State.age_samePanel _)
  · exact hexamined
  · exact hexamined.trans (State.age_samePanel _)

/-! ### Parts that change SCR -/

/-- Of the panel only the plane and the blink phase may have changed. -/
structure State.samePanelBut (s t : State) : Prop where
  scr : t.scr = { s.scr with plane := t.scr.plane, blinkOn := t.scr.blinkOn }
  msg : t.msg = s.msg
  replies : t.lnk.replies = s.lnk.replies
  ageLimit : t.pnt.ageLimit = s.pnt.ageLimit
  lagThreshold : t.pnt.lagThreshold = s.pnt.lagThreshold

theorem State.samePanel.but {s t : State} (h : s.samePanel t) : s.samePanelBut t :=
  ⟨by rw [h.scr], h.msg, h.replies, h.ageLimit, h.lagThreshold⟩

theorem State.samePanelBut.trans {s t u : State} (h : s.samePanelBut t) (k : t.samePanelBut u) : s.samePanelBut u :=
  ⟨by rw [k.scr, h.scr], k.msg.trans h.msg, k.replies.trans h.replies, k.ageLimit.trans h.ageLimit,
    k.lagThreshold.trans h.lagThreshold⟩

theorem State.judgeBlink_samePanelBut (n : FrameNo) : s.samePanelBut (s.judgeBlink n) := by
  unfold State.judgeBlink
  split <;> constructor <;> rfl

theorem State.judgeBlink_plane (n : FrameNo) : (s.judgeBlink n).scr.plane = s.scr.plane := by
  unfold State.judgeBlink
  split <;> rfl

theorem State.commitSlot_samePanelBut (n : FrameNo) (k : Nat) : s.samePanelBut (s.commitSlot n k) := by
  rcases s.commitSlot_cases n k with h | ⟨m, r, f, -, -, h | h⟩ <;> rw [h]
  · exact s.samePanel_refl.but
  · constructor <;> rfl
  · constructor <;> simp [State.putCells, State.release]

theorem State.commitAll_samePanelBut (n : FrameNo) : s.samePanelBut (s.commitAll n) := by
  have hslots : ∀ l (u : State), u.samePanelBut (u.commitSlots n l) := by
    intro l
    induction l with
    | nil => exact fun u => u.samePanel_refl.but
    | cons k rest ih => exact fun u => (u.commitSlot_samePanelBut n k).trans (ih _)
  unfold State.commitAll
  split
  · exact s.samePanel_refl.but
  · exact hslots _ s

theorem State.latePart_samePanelBut (order : BoundaryOrder) (n : FrameNo) : s.samePanelBut (s.latePart order n) :=
  (s.commitAll_samePanelBut n).trans <| (State.takeExpiries_samePanel _ n).but.trans (State.latchFrameIf_samePanel _ _ n).but

/-- After R106 steps 1 and 2 only the plane and the blink phase change. -/
theorem State.boundaryWork_samePanelBut (order : BoundaryOrder) :
    ((s.earlyPart order).pendingPart s.boundaryNumber).samePanelBut (s.boundaryWork order) :=
  (State.age_samePanel _).but.trans <| (State.judgeBlink_samePanelBut _ _).trans (State.latePart_samePanelBut _ order _)

/-- The freeze limit, where it is reached, is all of R106 step 1 (R122). -/
theorem State.expireFreeze_of_due {n : FrameNo} (h : s.freezeDue n = true) :
    s.expireFreeze n = s.endFreeze.latch evFreezeExpired n := by
  rw [State.expireFreeze, if_pos h]

theorem State.expireFreeze_of_not_due {n : FrameNo} (h : s.freezeDue n = false) : s.expireFreeze n = s := by
  rw [State.expireFreeze, if_neg (by simp [h])]

/-- R106 step 2 does nothing while the part is frozen. -/
theorem State.pendingPart_of_heldFrozen {n : FrameNo} (hfrozen : s.scr.frozen = true) (hdue : s.freezeDue n = false) :
    s.pendingPart n = s := by
  rw [State.pendingPart, s.expireFreeze_of_not_due hdue]
  have hpage : s.applyPendingPage n = s := by
    unfold State.applyPendingPage
    split <;> simp [hfrozen]
  rw [hpage]
  unfold State.applyPendingConfigure
  split <;> simp [hfrozen]

end Sys2Proof.Machine
end

section
/-! Every step keeps the laws of the screen (R94, R98, R106, R114, R118, R121, R122), and no command writes the plane but at a
boundary (R93, R120). -/

namespace Sys2Proof.Machine

/-! ### What the laws and the view look at -/

/-- SCR, PNT's parameters and the operations that wait are as before. -/
structure State.sameScreen (s t : State) : Prop where
  scr : t.scr = s.scr
  ageLimit : t.pnt.ageLimit = s.pnt.ageLimit
  lagThreshold : t.pnt.lagThreshold = s.pnt.lagThreshold
  page : t.msg.pendingPage = s.msg.pendingPage
  configuration : t.msg.pendingConfigure = s.msg.pendingConfigure

/-- The plane, its geometry and the page that it shows are as before (R93). -/
structure State.sameView (s t : State) : Prop where
  plane : t.scr.plane = s.scr.plane
  geometry : t.scr.geometry = s.scr.geometry
  page : t.scr.page = s.scr.page

/-- A change of state that writes no plane and keeps the parameters in their ranges. -/
structure State.keepsScreen (s t : State) : Prop where
  view : s.sameView t
  law : s.screenLaw → t.screenLaw

variable {s : State}

theorem State.sameScreen.trans {s t u : State} (h : s.sameScreen t) (k : t.sameScreen u) : s.sameScreen u :=
  ⟨k.scr.trans h.scr, k.ageLimit.trans h.ageLimit, k.lagThreshold.trans h.lagThreshold, k.page.trans h.page,
    k.configuration.trans h.configuration⟩

theorem State.sameView.trans {s t u : State} (h : s.sameView t) (k : t.sameView u) : s.sameView u :=
  ⟨k.plane.trans h.plane, k.geometry.trans h.geometry, k.page.trans h.page⟩

theorem State.keepsScreen.trans {s t u : State} (h : s.keepsScreen t) (k : t.keepsScreen u) : s.keepsScreen u :=
  ⟨h.view.trans k.view, fun a => k.law (h.law a)⟩

theorem State.sameView_of_scr {t : State} (h : t.scr = s.scr) : s.sameView t := by constructor <;> rw [h]

theorem State.sameScreen.keeps {t : State} (h : s.sameScreen t) : s.keepsScreen t := by
  refine ⟨State.sameView_of_scr h.scr, ?_⟩
  simp only [State.screenLaw, h.scr, h.ageLimit, h.lagThreshold, h.page, h.configuration]
  exact id

theorem State.keepsScreen_refl (s : State) : s.keepsScreen s := State.sameScreen.keeps ⟨rfl, rfl, rfl, rfl, rfl⟩

theorem State.samePanel.sameScreen {t : State} (h : s.samePanel t) : s.sameScreen t :=
  ⟨h.scr, h.ageLimit, h.lagThreshold, by rw [h.msg], by rw [h.msg]⟩

/-! ### Replies and refusals -/

theorem State.answer_sameScreen (payload : List Byte) : s.sameScreen (s.answer payload) := by
  refine ⟨by simp, by simp, by simp, ?_, s.answer_waiting payload⟩
  unfold State.answer
  split <;> rfl

theorem State.refuse_sameScreen (code : RefusalCode) (number : Option Half) : s.sameScreen (s.refuse code number) := by
  unfold State.refuse
  split
  · exact ⟨rfl, rfl, rfl, rfl, rfl⟩
  · constructor <;> simp

/-- A state that differs from another outside the screen, answered. -/
theorem State.sameScreen.answer {t : State} (h : s.sameScreen t) (payload : List Byte) : s.sameScreen (t.answer payload) :=
  h.trans (State.answer_sameScreen payload)

theorem State.keepsScreen.answer {t : State} (h : s.keepsScreen t) (payload : List Byte) :
    s.keepsScreen (t.answer payload) :=
  h.trans (State.answer_sameScreen payload).keeps

/-! ### The field requests, posts and acknowledgements leave the screen alone -/

theorem State.putAndEnqueue_sameScreen (n : Nat) (f : Field) (u : Bool) (at_ : FrameNo) :
    s.sameScreen ((s.putField n f).enqueueAndLatch n u at_) := by constructor <;> simp

theorem State.onField_sameScreen {number : Half} {act : Nat → Field → State}
    (h : ∀ n f, s.sameScreen (act n f)) : s.sameScreen (s.onField number act) := by
  unfold State.onField
  split
  · exact State.refuse_sameScreen _ _
  · split
    · exact State.refuse_sameScreen _ _
    · split
      · exact State.refuse_sameScreen _ _
      · exact h _ _

theorem State.define_sameScreen (r : DefineFields) : s.sameScreen (s.define r) := by
  unfold State.define
  split
  · exact State.refuse_sameScreen _ _
  · split
    · exact State.refuse_sameScreen _ _
    · dsimp only
      split
      · exact State.refuse_sameScreen _ _
      · split
        · exact State.refuse_sameScreen _ _
        · split
          · exact State.refuse_sameScreen _ _
          · exact (State.putAndEnqueue_sameScreen _ _ _ _).answer _

theorem State.restyle_sameScreen (r : RestyleFields) : s.sameScreen (s.restyle r) :=
  State.onField_sameScreen fun _ _ => (State.putAndEnqueue_sameScreen _ _ _ _).answer _

theorem State.setLimits_sameScreen (r : LimitFields) : s.sameScreen (s.setLimits r) := by
  refine State.onField_sameScreen fun n f => ?_
  split
  · exact State.refuse_sameScreen _ _
  · split
    · exact State.refuse_sameScreen _ _
    · exact State.sameScreen.answer (by constructor <;> rfl) _

theorem State.delete_sameScreen (number : Half) : s.sameScreen (s.delete number) := by
  refine State.onField_sameScreen fun n f => ?_
  split
  · exact (State.putAndEnqueue_sameScreen _ _ _ _).answer _
  · refine State.sameScreen.answer ?_ _
    constructor <;> simp [State.release]

theorem State.readField_sameScreen (number : Half) : s.sameScreen (s.readField number) := by
  unfold State.readField
  split
  · exact State.refuse_sameScreen _ _
  · split
    · exact State.refuse_sameScreen _ _
    · exact State.answer_sameScreen _

theorem State.unhold_sameScreen (number : Half) : s.sameScreen (s.unhold number) := by
  refine State.onField_sameScreen fun n f => ?_
  split
  · exact (State.putAndEnqueue_sameScreen _ _ _ _).answer _
  · exact State.refuse_sameScreen _ _

theorem State.applyPost_sameScreen (n : Nat) (f : Field) (v : Value) : s.sameScreen (s.applyPost n f v) := by
  have hqueued : ∀ (u : State) own raised, u.sameScreen (u.postQueued n own raised) := by
    intro u own raised
    cases own <;> cases raised <;> constructor <;> simp [State.postQueued]
  unfold State.applyPost
  dsimp only
  refine State.sameScreen.trans (t := { s.putField n (f.posted v s.now) with aeu := s.aeu.posted n f v s.now })
    (by constructor <;> rfl) ((hqueued _ (s.postEnqueues n f v) (f.raises v)).trans ?_)
  constructor <;> simp

theorem State.post_sameScreen (r : PostFields) : s.sameScreen (s.post r) := by
  unfold State.post
  split
  · exact State.refuse_sameScreen _ _
  · exact (State.applyPost_sameScreen _ _ _).answer _

theorem State.postText_sameScreen (r : TextFields) : s.sameScreen (s.postText r) := by
  unfold State.postText
  split
  · exact State.refuse_sameScreen _ _
  · exact (State.applyPost_sameScreen _ _ _).answer _

theorem BatchRun.entry_sameScreen (b : BatchRun) (index : Nat) (r : PostFields) :
    b.state.sameScreen (b.entry index r).state := by
  unfold BatchRun.entry
  split
  · unfold State.refuseEntry
    dsimp only
    split <;> constructor <;> simp
  · exact State.applyPost_sameScreen _ _ _

theorem BatchRun.entries_sameScreen (b : BatchRun) (index : Nat) (l : List PostFields) :
    b.state.sameScreen (b.entries index l).state := by
  induction l generalizing b index with
  | nil => exact ⟨rfl, rfl, rfl, rfl, rfl⟩
  | cons r rest ih => exact (b.entry_sameScreen index r).trans (ih _ _)

theorem State.postBatch_sameScreen (entries : List PostFields) : s.sameScreen (s.postBatch entries) :=
  (BatchRun.entries_sameScreen ⟨s, 0, none⟩ 0 entries).answer _

theorem State.clearLatch_sameScreen (n : Nat) (f : Field) : s.sameScreen (s.clearLatch n f) := by
  constructor <;> simp [State.clearLatch]

theorem State.ackAll_sameScreen : s.sameScreen s.ackAll := by
  have hcleared : ∀ l (u : State), u.sameScreen (u.clearLatches l) := by
    intro l
    induction l with
    | nil => exact fun u => ⟨rfl, rfl, rfl, rfl, rfl⟩
    | cons n rest ih =>
      intro u
      unfold State.clearLatches
      split
      · exact (State.clearLatch_sameScreen n _).trans (ih _)
      · exact ih u
  exact (hcleared _ s).answer _

theorem State.ack_sameScreen (number : Half) : s.sameScreen (s.ack number) := by
  unfold State.ack
  split
  · exact State.ackAll_sameScreen
  · refine State.onField_sameScreen fun n f => ?_
    split
    · exact (State.clearLatch_sameScreen _ _).answer _
    · exact State.answer_sameScreen _

theorem State.readWatch_sameScreen : s.sameScreen s.readWatch := State.sameScreen.answer (by constructor <;> rfl) _

theorem State.renotify_sameScreen : s.sameScreen s.renotify := by
  unfold State.renotify
  split <;> exact ⟨rfl, rfl, rfl, rfl, rfl⟩

theorem State.clearEvents_sameScreen (kinds : EventSet) : s.sameScreen (s.clearEvents kinds) := by
  refine State.sameScreen.answer (State.sameScreen.trans ?_ State.renotify_sameScreen) _
  exact ⟨rfl, rfl, rfl, rfl, rfl⟩

theorem State.setNoticeMask_sameScreen (kinds : EventSet) : s.sameScreen (s.setNoticeMask kinds) := by
  refine State.sameScreen.answer (State.sameScreen.trans ?_ State.renotify_sameScreen) _
  exact ⟨rfl, rfl, rfl, rfl, rfl⟩

/-! ### The screen requests (R95, R98, R111, R114, R118, R121) -/

theorem stageColours_length (index : Nat) (staged : List (Option Colour)) (colours : List Colour) :
    (stageColours index staged colours).length = staged.length := by
  induction colours generalizing index staged with
  | nil => rfl
  | cons c rest ih => rw [stageColours, ih, List.length_set]

theorem State.setPalette_keepsScreen (r : PaletteFields) : s.keepsScreen (s.setPalette r) := by
  unfold State.setPalette
  split
  · exact (State.refuse_sameScreen _ _).keeps
  · refine State.keepsScreen.answer ⟨by constructor <;> rfl, fun hlaw => ?_⟩ _
    obtain ⟨hpalette, hstaged, hrest⟩ := hlaw
    exact ⟨hpalette, (stageColours_length _ _ _).trans hstaged, hrest⟩

theorem State.stageMode_keepsScreen (r : ModeFields) : s.keepsScreen (s.stageMode r) := by
  unfold State.stageMode
  split
  · exact (State.refuse_sameScreen _ _).keeps
  · refine State.keepsScreen.answer ⟨by constructor <;> rfl, fun hlaw => ?_⟩ _
    obtain ⟨hpalette, hstaged, hbrightness, -, hrest⟩ := hlaw
    refine ⟨hpalette, hstaged, hbrightness, fun m level h => ?_, hrest⟩
    obtain ⟨-, rfl⟩ := Prod.mk.inj (Option.some.inj h)
    exact Nat.min_le_left _ _

theorem State.operationPending_eq_false_iff :
    s.operationPending = false ↔ s.msg.pendingPage = none ∧ s.msg.pendingConfigure = none := by
  simp [State.operationPending]

theorem State.selectPage_keepsScreen (page : Byte) : s.keepsScreen (s.selectPage page) := by
  unfold State.selectPage
  split
  · exact (State.refuse_sameScreen _ _).keeps
  · split
    · exact (State.refuse_sameScreen _ _).keeps
    · split
      · exact (State.refuse_sameScreen _ _).keeps
      · rename_i hidle
        obtain ⟨-, hnone⟩ := State.operationPending_eq_false_iff.1 (by simpa using hidle)
        refine ⟨⟨rfl, rfl, rfl⟩, fun hlaw => ?_⟩
        obtain ⟨h1, h2, h3, h4, h5, h6, h7, h8, h9, h10, -, h12⟩ := hlaw
        exact ⟨h1, h2, h3, h4, h5, h6, h7, h8, h9, h10, fun c hc => (nomatch hnone.symm.trans hc), h12⟩

/-- The parameters that CONFIGURE DISPLAY stores lie in their ranges (R114). -/
theorem ConfigureFields.stored_ranges (r : ConfigureFields) (g : Geometry) (tag : Byte) :
    let c := ConfigureFields.stored r g tag
    8 ≤ c.blinkPeriod ∧ c.blinkPeriod ≤ 120 ∧ 1 ≤ c.ageLimit ∧ c.ageLimit ≤ 255 ∧ 1 ≤ c.lagThreshold ∧
      c.lagThreshold ≤ 512 := by
  have hage := r.ageLimit.isLt
  simp only [ConfigureFields.stored, clamp]
  omega

theorem State.configure_keepsScreen (r : ConfigureFields) : s.keepsScreen (s.configure r) := by
  unfold State.configure
  split
  · exact (State.refuse_sameScreen _ _).keeps
  · split
    · exact (State.refuse_sameScreen _ _).keeps
    · split
      · exact (State.refuse_sameScreen _ _).keeps
      · rename_i hidle
        obtain ⟨hnone, -⟩ := State.operationPending_eq_false_iff.1 (by simpa using hidle)
        refine ⟨⟨rfl, rfl, rfl⟩, fun hlaw => ?_⟩
        obtain ⟨h1, h2, h3, h4, h5, h6, h7, h8, h9, h10, -, h12⟩ := hlaw
        refine ⟨h1, h2, h3, h4, h5, h6, h7, h8, h9, h10, fun c hc => ?_, h12⟩
        obtain rfl := Option.some.inj hc
        exact ⟨hnone, ConfigureFields.stored_ranges r _ _⟩

theorem State.freeze_keepsScreen (r : FreezeFields) : s.keepsScreen (s.freeze r) := by
  refine State.keepsScreen.answer ⟨by constructor <;> rfl, fun hlaw => ?_⟩ _
  obtain ⟨h1, h2, h3, h4, h5, h6, h7, h8, h9, h10, h11, -⟩ := hlaw
  exact ⟨h1, h2, h3, h4, h5, h6, h7, h8, h9, h10, h11, fun h => nomatch h⟩

theorem State.endFreeze_keepsScreen : s.keepsScreen s.endFreeze := by
  refine ⟨⟨rfl, rfl, rfl⟩, fun hlaw => ?_⟩
  obtain ⟨h1, h2, h3, h4, h5, h6, h7, h8, h9, h10, h11, -⟩ := hlaw
  exact ⟨h1, h2, h3, h4, h5, h6, h7, h8, h9, h10, h11, fun _ => ⟨rfl, rfl⟩⟩

theorem State.thaw_keepsScreen : s.keepsScreen s.thaw := by
  unfold State.thaw
  split
  · exact State.endFreeze_keepsScreen.answer _
  · exact (State.refuse_sameScreen _ _).keeps

theorem State.readCells_sameScreen (r : CellFields) : s.sameScreen (s.readCells r) := by
  unfold State.readCells
  dsimp only
  split
  · exact State.refuse_sameScreen _ _
  · split
    · exact State.refuse_sameScreen _ _
    · split
      · exact State.refuse_sameScreen _ _
      · exact State.answer_sameScreen _

/-! ### The line -/

theorem State.receiveByte_sameScreen (b : Byte) : s.sameScreen (s.receiveByte b) := by
  unfold State.receiveByte
  split
  · split
    · split <;> constructor <;> simp [State.latchLine]
    · exact ⟨rfl, rfl, rfl, rfl, rfl⟩
  · split <;> constructor <;> simp [State.latchLine]
  · split <;> exact ⟨rfl, rfl, rfl, rfl, rfl⟩

theorem State.receiveSignal_sameScreen (x : LineSignal) : s.sameScreen (s.receiveSignal x) := by
  cases x with
  | character c =>
    simp only [State.receiveSignal]
    split
    · exact ⟨rfl, rfl, rfl, rfl, rfl⟩
    · exact State.receiveByte_sameScreen _
  | heldLow =>
    simp only [State.receiveSignal]
    split
    · exact ⟨rfl, rfl, rfl, rfl, rfl⟩
    · exact (State.receiveByte_sameScreen _).trans ⟨rfl, rfl, rfl, rfl, rfl⟩
  | returnsHigh => exact ⟨rfl, rfl, rfl, rfl, rfl⟩

theorem State.receiveSignals_sameScreen (l : List LineSignal) : s.sameScreen (s.receiveSignals l) := by
  induction l generalizing s with
  | nil => exact ⟨rfl, rfl, rfl, rfl, rfl⟩
  | cons x rest ih => exact (State.receiveSignal_sameScreen x).trans ih

end Sys2Proof.Machine
end

section
/-! The operations that wait for a boundary, as the panel sees them (R112, R113, R115, R117). -/

namespace Sys2Proof.Machine

variable (s : State)

/-- What a page change does to the panel (R112, R113). -/
structure State.pageTaken (t : State) (r : PendingPage) : Prop where
  scr : t.scr = { s.scr with plane := t.scr.plane, page := r.page }
  msg : t.msg = { s.msg with pendingPage := none }
  replies : ∃ count placed, t.lnk.replies = s.lnk.replies ++ [⟨0x86, r.tag, r.page.zeroExtend 8 :: count, placed⟩]
  ageLimit : t.pnt.ageLimit = s.pnt.ageLimit
  lagThreshold : t.pnt.lagThreshold = s.pnt.lagThreshold
  plane : Memory.wf t.scr.plane = true

theorem State.changePage_taken (r : PendingPage) (n : FrameNo) : s.pageTaken (s.changePage r n) r where
  scr := by rw [State.changePage_scr, State.leavePage_scr]
  msg := by
    obtain ⟨hmsg, -, -⟩ := State.leavePage_line (s := s) r.page n
    rw [← hmsg]
    simp [State.changePage_eq]
  replies := by
    obtain ⟨placed, hreplies⟩ := State.changePage_replies (s := s) r n
    exact ⟨_, placed, hreplies⟩
  ageLimit := by
    rw [← (State.leavePage_parameters (s := s) r.page n).1]
    simp [State.changePage_eq]
  lagThreshold := by
    rw [← (State.leavePage_parameters (s := s) r.page n).2]
    simp [State.changePage_eq]
  plane := by
    rw [State.changePage_scr, State.leavePage_scr]
    exact Memory.blankBut_wf _ _ _ _

/-- What a configuration does to the panel (R115, R117). -/
structure State.configurationTaken (t : State) (c : PendingConfigure) : Prop where
  scr : t.scr = { s.scr with geometry := c.geometry, plane := t.scr.plane, defaultFg := c.fg, defaultBg := c.bg,
                             blinkPeriod := c.blinkPeriod }
  msg : t.msg = { s.msg with pendingConfigure := none }
  replies : ∃ count placed, t.lnk.replies = s.lnk.replies ++ [⟨0x83, c.tag, c.geometry.code :: count, placed⟩]
  ageLimit : t.pnt.ageLimit = c.ageLimit
  lagThreshold : t.pnt.lagThreshold = c.lagThreshold
  plane : Memory.wf s.scr.plane = true → Memory.wf t.scr.plane = true

theorem State.applyConfigure_taken (c : PendingConfigure) (n : FrameNo) :
    s.configurationTaken (s.applyConfigure c n) c := by
  by_cases hgeometry : c.geometry = s.scr.geometry
  · rw [State.applyConfigure_of_same n hgeometry]
    have hscr := State.takeParameters_scr (s := s) c n
    have hpnt := s.takeParameters_pnt c n
    obtain ⟨hmsg, hreplies, -⟩ := State.takeParameters_rest (s := s) c n
    constructor
    · rw [State.configuredBy_scr, hscr, hgeometry]
    · rw [State.configuredBy_msg, hmsg]
    · exact ⟨_, _, congrArg (· ++ _) hreplies⟩
    · rw [State.configuredBy_pnt, hpnt]
    · rw [State.configuredBy_pnt, hpnt]
    · rw [State.configuredBy_scr, hscr]
      exact id
  · rw [State.applyConfigure_of_other n hgeometry, ← State.reconfigured]
    obtain ⟨hmsg, hreplies, hage, hthreshold⟩ := State.reconfigured_rest (s := s) c n
    constructor
    · exact State.reconfigured_scr c n
    · rw [State.configuredBy_msg, hmsg]
    · exact ⟨_, _, congrArg (· ++ _) hreplies⟩
    · exact hage
    · exact hthreshold
    · intro _
      rw [State.configuredBy_scr, State.reconfigured, State.changeGeometry_scr, State.regrid_scr]
      exact Memory.blankBut_wf _ _ _ _

/-- R106 step 2 for a page: it is taken, or the part is frozen or no page waits and nothing happens. -/
theorem State.applyPendingPage_cases (n : FrameNo) :
    (s.scr.frozen = true ∨ s.msg.pendingPage = none) ∧ s.applyPendingPage n = s ∨
      ∃ r, s.scr.frozen = false ∧ s.msg.pendingPage = some r ∧ s.applyPendingPage n = s.changePage r n := by
  unfold State.applyPendingPage
  cases hpage : s.msg.pendingPage with
  | none => exact .inl ⟨.inr rfl, rfl⟩
  | some r =>
    cases hfrozen : s.scr.frozen
    · exact .inr ⟨r, rfl, rfl, by simp⟩
    · exact .inl ⟨.inl rfl, by simp⟩

/-- R106 step 2 for a configuration, likewise. -/
theorem State.applyPendingConfigure_cases (n : FrameNo) :
    (s.scr.frozen = true ∨ s.msg.pendingConfigure = none) ∧ s.applyPendingConfigure n = s ∨
      ∃ c, s.scr.frozen = false ∧ s.msg.pendingConfigure = some c ∧
        s.applyPendingConfigure n = s.applyConfigure c n := by
  unfold State.applyPendingConfigure
  cases hconfigure : s.msg.pendingConfigure with
  | none => exact .inl ⟨.inr rfl, rfl⟩
  | some c =>
    cases hfrozen : s.scr.frozen
    · exact .inr ⟨c, rfl, rfl, by simp⟩
    · exact .inl ⟨.inl rfl, by simp⟩

end Sys2Proof.Machine
end

section
/-! A frame boundary keeps the laws of the screen, and a freeze that holds keeps the view (R93, R94, R106, R120). -/

namespace Sys2Proof.Machine

variable {s : State}

/-- A change of state that keeps the canonical plane and the parameters' ranges. -/
structure State.keepsScreenLaws (s t : State) : Prop where
  plane : s.planeCanonical → t.planeCanonical
  law : s.screenLaw → t.screenLaw

theorem State.keepsScreenLaws.trans {s t u : State} (h : s.keepsScreenLaws t) (k : t.keepsScreenLaws u) :
    s.keepsScreenLaws u :=
  ⟨fun a => k.plane (h.plane a), fun a => k.law (h.law a)⟩

theorem State.keepsScreen.laws {t : State} (h : s.keepsScreen t) : s.keepsScreenLaws t :=
  ⟨fun hs => by rw [State.planeCanonical, h.view.plane]; exact hs, h.law⟩

theorem State.keepsScreenLaws_refl (s : State) : s.keepsScreenLaws s := s.keepsScreen_refl.laws

theorem State.samePanelBut.screenLaw {t : State} (h : s.samePanelBut t) (hs : s.screenLaw) : t.screenLaw := by
  obtain ⟨hscr, hmsg, -, hage, hthreshold⟩ := h
  rw [State.screenLaw, hscr, hmsg, hage, hthreshold]
  exact hs

theorem State.startBoundary_laws (n : FrameNo) : s.keepsScreenLaws (s.startBoundary n) where
  plane hs := by rw [State.planeCanonical, State.startBoundary_scr]; exact hs
  law hs := by
    obtain ⟨hpalette, hstaged, hbrightness, hlevel, hrest⟩ := hs
    rw [State.startBoundary_eq, State.screenLaw, State.startBoundary_scr]
    refine ⟨by simp [hpalette, hstaged], rfl, ?_, fun _ _ h => (nomatch h), hrest⟩
    cases hmode : s.scr.stagedMode with
    | none => exact hbrightness
    | some pair => exact hlevel pair.1 pair.2 hmode

theorem State.expireFreeze_keepsScreen (n : FrameNo) : s.keepsScreen (s.expireFreeze n) := by
  unfold State.expireFreeze
  split
  · exact State.endFreeze_keepsScreen.trans (State.sameScreen.keeps (by constructor <;> simp))
  · exact s.keepsScreen_refl

theorem State.pageTaken.laws {t : State} {r : PendingPage} (h : s.pageTaken t r) : s.keepsScreenLaws t where
  plane _ := h.plane
  law hs := by
    obtain ⟨h1, h2, h3, h4, h5, h6, h7, h8, h9, h10, h11, h12⟩ := hs
    rw [State.screenLaw, h.scr, h.msg, h.ageLimit, h.lagThreshold]
    exact ⟨h1, h2, h3, h4, h5, h6, h7, h8, h9, h10, fun c hc => ⟨rfl, (h11 c hc).2⟩, h12⟩

/-- The parameters that take effect are those that CONFIGURE DISPLAY clamped (R114, R115). -/
theorem State.configurationTaken.laws {t : State} {c : PendingConfigure} (h : s.configurationTaken t c)
    (hc : s.msg.pendingConfigure = some c) : s.keepsScreenLaws t where
  plane := h.plane
  law hs := by
    obtain ⟨h1, h2, h3, h4, -, -, -, -, -, -, h11, h12⟩ := hs
    obtain ⟨-, hblink, hblink', hage, hage', hthreshold, hthreshold'⟩ := h11 c hc
    rw [State.screenLaw, h.scr, h.msg, h.ageLimit, h.lagThreshold]
    exact ⟨h1, h2, h3, h4, hblink, hblink', hage, hage', hthreshold, hthreshold', fun _ hnone => (nomatch hnone), h12⟩

theorem State.applyPendingPage_laws (n : FrameNo) : s.keepsScreenLaws (s.applyPendingPage n) := by
  rcases s.applyPendingPage_cases n with ⟨-, h⟩ | ⟨r, -, -, h⟩ <;> rw [h]
  · exact s.keepsScreenLaws_refl
  · exact (s.changePage_taken r n).laws

theorem State.applyPendingConfigure_laws (n : FrameNo) : s.keepsScreenLaws (s.applyPendingConfigure n) := by
  rcases s.applyPendingConfigure_cases n with ⟨-, h⟩ | ⟨c, -, hc, h⟩ <;> rw [h]
  · exact s.keepsScreenLaws_refl
  · exact (s.applyConfigure_taken c n).laws hc

theorem State.judgeBlink_laws (n : FrameNo) : s.keepsScreenLaws (s.judgeBlink n) :=
  ⟨fun hs => by rw [State.planeCanonical, State.judgeBlink_plane]; exact hs, (s.judgeBlink_samePanelBut n).screenLaw⟩

/-- Cells that go to the plane keep its canonical form. -/
theorem State.commitSlot_planeCanonical (n : FrameNo) (k : Nat) (hs : s.planeCanonical) :
    (s.commitSlot n k).planeCanonical := by
  rcases s.commitSlot_cases n k with h | ⟨m, r, f, -, -, h | h⟩ <;> rw [h]
  · exact hs
  · exact Memory.writeRun_wf _ _ _ hs
  · rw [State.planeCanonical, State.release_scr]
    exact Memory.writeRun_wf _ _ _ hs

theorem State.commitAll_laws (n : FrameNo) : s.keepsScreenLaws (s.commitAll n) := by
  refine ⟨fun hs => ?_, (s.commitAll_samePanelBut n).screenLaw⟩
  have hslots : ∀ l (u : State), u.planeCanonical → (u.commitSlots n l).planeCanonical := by
    intro l
    induction l with
    | nil => exact fun u hu => hu
    | cons k rest ih => exact fun u hu => ih _ (State.commitSlot_planeCanonical n k hu)
  unfold State.commitAll
  split
  · exact hs
  · exact hslots _ s hs

theorem State.takeBoundary_laws (order : BoundaryOrder) : s.keepsScreenLaws (s.takeBoundary order) := by
  have hstarted : s.keepsScreenLaws s.started :=
    ⟨(State.startBoundary_laws s.boundaryNumber).plane, fun hs => by
      have := (State.startBoundary_laws s.boundaryNumber).law hs
      rw [State.startBoundary_eq] at this
      exact this⟩
  rw [State.takeBoundary_eq]
  refine State.keepsScreenLaws.trans (t := s.boundaryWork order) ?_ ⟨id, id⟩
  exact hstarted.trans <| (s.earlyPart_samePanel order).sameScreen.keeps.laws.trans <|
    (State.expireFreeze_keepsScreen _).laws.trans <| (State.applyPendingPage_laws _).trans <|
    (State.applyPendingConfigure_laws _).trans <| (State.age_samePanel _).sameScreen.keeps.laws.trans <|
    (State.judgeBlink_laws _).trans <| (State.commitAll_laws _).trans <|
    (State.takeExpiries_samePanel _ _).sameScreen.keeps.laws.trans
      (State.latchFrameIf_samePanel _ _ _).sameScreen.keeps.laws

theorem State.settle_laws : s.keepsScreenLaws s.settle := by
  unfold State.settle
  split
  · exact s.keepsScreenLaws_refl
  · exact State.takeBoundary_laws _

/-! ### A freeze that holds (R106, R120) -/

theorem dueAt_iff (d : Option FrameNo) (n : FrameNo) : dueAt d n = true ↔ deadlineReached d n := by
  cases d <;> simp [dueAt, deadlineReached, reached]

theorem State.heldFrozen_iff (n : FrameNo) : s.heldFrozen n ↔ s.scr.frozen = true ∧ s.freezeDue n = false := by
  rw [State.heldFrozen, State.freezeDue, ← dueAt_iff, Bool.not_eq_true]
  refine and_congr_right fun hfrozen => ?_
  rw [hfrozen, Bool.true_and]

theorem State.freezeDue_congr {t : State} {n : FrameNo} (hfrozen : t.scr.frozen = s.scr.frozen)
    (hdeadline : t.scr.freezeDeadline = s.scr.freezeDeadline) : t.freezeDue n = s.freezeDue n := by
  rw [State.freezeDue, hfrozen, hdeadline, State.freezeDue]

/-- What R106 leaves of the view where the freeze holds: no page, configuration or commit is taken. -/
theorem State.takeBoundary_view (order : BoundaryOrder) (h : s.heldFrozen (s.scr.frameCounter + 1)) :
    s.sameView (s.takeBoundary order) := by
  obtain ⟨hfrozen, hdue⟩ := s.heldFrozen_iff _ |>.1 h
  have hearly := (s.earlyPart_samePanel order).scr
  have hfrozen' : (s.earlyPart order).scr.frozen = true := by
    rw [hearly, State.started, State.startBoundary_scr]; exact hfrozen
  have hdue' : (s.earlyPart order).freezeDue s.boundaryNumber = false := by
    rw [← hdue]
    apply State.freezeDue_congr <;> rw [hearly, State.started, State.startBoundary_scr]
  have hstarted : s.sameView s.started := by
    constructor <;> rw [State.started, State.startBoundary_scr]
  have hpending := State.pendingPart_of_heldFrozen _ hfrozen' hdue'
  let x := (s.earlyPart order).age.judgeBlink s.boundaryNumber
  have hx := (State.age_samePanel (s.earlyPart order)).but.trans (State.judgeBlink_samePanelBut _ s.boundaryNumber)
  have hjudged : (s.earlyPart order).sameView x :=
    (State.sameView_of_scr (State.age_samePanel _).scr).trans
      ⟨State.judgeBlink_plane _ _, by rw [(State.judgeBlink_samePanelBut _ _).scr], by
        rw [(State.judgeBlink_samePanelBut _ _).scr]⟩
  have hcommit : x.commitAll s.boundaryNumber = x := by
    rw [State.commitAll, if_pos]
    rw [hx.scr]
    exact hfrozen'
  have hlate : x.sameView (x.latePart order s.boundaryNumber) := by
    rw [State.latePart, hcommit]
    exact State.sameView_of_scr ((State.takeExpiries_samePanel _ _).trans (State.latchFrameIf_samePanel _ _ _)).scr
  have hwork : s.boundaryWork order = x.latePart order s.boundaryNumber := by rw [State.boundaryWork, hpending]
  rw [State.takeBoundary_eq, hwork]
  exact hstarted.trans ((State.sameView_of_scr hearly).trans (hjudged.trans (hlate.trans ⟨rfl, rfl, rfl⟩)))

end Sys2Proof.Machine
end

section
/-! What a command can do to the screen: the laws of SCR, and the law that the plane changes at boundaries alone (R93, R120). -/

namespace Sys2Proof.Machine

/-- What a command can do to the screen: leave its view alone, at once or after a begun boundary is over; take a boundary, or the
operation that waits for one; or reset it. -/
inductive State.screenStep (s : State) : Instr → State → Prop
  | kept {c : Instr} {t : State} : s.keepsScreen t → s.screenStep c t
  | settled {c : Instr} {t : State} : s.settle.keepsScreen t → s.screenStep c t
  | boundary (order : BoundaryOrder) : s.screenStep (.frameBoundary order) (s.takeBoundary order)
  | page : s.scr.frozen = false → s.screenStep .pageChange (s.openBoundary.applyPendingPage s.boundaryNumber)
  | configuration :
      s.scr.frozen = false → s.screenStep .configurationApply (s.openBoundary.applyPendingConfigure s.boundaryNumber)
  | resetPin (straps : Straps) : s.screenStep (.resetn straps) (s.beginReset .power false straps)
  | resetRequest (tag : Byte) (straps : Straps) (u : State) :
      s.screenStep (.reset tag (.fields ()) straps) (u.beginReset (.request tag) true straps)

variable {s : State}

/-! ### Requests -/

theorem State.screenStep_of_take {c : Instr} {act : State → State} {t : State} (hc : exec c s = s.takeThen c act)
    (h : ∀ u, State.keepsScreen u (act u)) (ht : exec c s = .next t) : s.screenStep c t := by
  rw [hc] at ht
  rcases s.takeThen_cases c act with hsame | ⟨f, -, -, htaken⟩
  · obtain rfl := Host.Outcome.next.inj (hsame.symm.trans ht)
    exact .kept s.keepsScreen_refl
  · obtain rfl := Host.Outcome.next.inj (htaken.symm.trans ht)
    have htake : s.settle.sameScreen (s.settle.take f) := by constructor <;> rfl
    exact .settled (htake.keeps.trans (h _))

theorem State.screenStep_of_request {α : Type} {c : Instr} {p : Carried α} {act : α → State → State} {t : State}
    (hc : exec c s = s.takeThen c fun u => u.checkLength p act) (h : ∀ a u, State.keepsScreen u (act a u))
    (ht : exec c s = .next t) : s.screenStep c t := by
  refine State.screenStep_of_take hc (fun u => ?_) ht
  cases p with
  | fields a => exact h a u
  | wrongLength _ => exact (State.refuse_sameScreen _ _).keeps

/-- A request of the wrong length is refused, whatever its rule. -/
theorem State.screenStep_of_wrongLength {α : Type} {c : Instr} {bytes : List Byte} {act : α → State → State} {t : State}
    (hc : exec c s = s.takeThen c fun u => u.checkLength (.wrongLength bytes) act) (ht : exec c s = .next t) :
    s.screenStep c t :=
  State.screenStep_of_take hc (fun _ => (State.refuse_sameScreen _ _).keeps) ht

theorem State.screenStep_of_reset {tag : Byte} {straps : Straps} {t : State}
    (ht : exec (.reset tag (.fields ()) straps) s = .next t) : s.screenStep (.reset tag (.fields ()) straps) t := by
  rw [exec_reset] at ht
  rcases s.takeThen_cases (.reset tag (.fields ()) straps) _ with hsame | ⟨f, -, -, htaken⟩
  · obtain rfl := Host.Outcome.next.inj (hsame.symm.trans ht)
    exact .kept s.keepsScreen_refl
  · obtain rfl := Host.Outcome.next.inj (htaken.symm.trans ht)
    exact .resetRequest tag straps _

/-! ### The other commands -/

/-- A command that, unless something stands against it, takes the part to a state. -/
theorem State.screenStep_of_unless {c : Instr} {t u : State} {stopped : Prop} [Decidable stopped]
    (ht : (if stopped then .next s else .next u : Host.Outcome State Fault Refusal) = .next t)
    (h : ¬stopped → s.screenStep c u) : s.screenStep c t := by
  split at ht <;> obtain rfl := Host.Outcome.next.inj ht
  · exact .kept s.keepsScreen_refl
  · exact h ‹_›

/-- A part of a boundary, taken ahead, that does not touch the view. -/
theorem State.openBoundary_keepsScreen {t : State} (h : s.openBoundary.keepsScreen t) : s.keepsScreen t :=
  s.openBoundary_samePanel.sameScreen.keeps.trans h

theorem State.judgeBlink_keepsScreen (n : FrameNo) : s.keepsScreen (s.judgeBlink n) := by
  have hbut := s.judgeBlink_samePanelBut n
  exact ⟨⟨s.judgeBlink_plane n, by rw [hbut.scr], by rw [hbut.scr]⟩, hbut.screenLaw⟩

theorem State.screenStep_of_expiry {c : Instr} {t : State} {m : Nat} {f : Field} {due : Prop} [Decidable due]
    (ht : (if due then .next ((s.openBoundary.expireField m f s.boundaryNumber).markExamined (m + 1)) else .next s :
      Host.Outcome State Fault Refusal) = .next t) : s.screenStep c t := by
  have hmarked : ∀ u : State, u.sameScreen (u.markExamined (m + 1)) := fun u => by constructor <;> simp
  split at ht <;> obtain rfl := Host.Outcome.next.inj ht
  · exact .kept (State.openBoundary_keepsScreen
      ((State.expireField_samePanel _ _ _ _).sameScreen.trans (hmarked _)).keeps)
  · exact .kept s.keepsScreen_refl

theorem execStaleExpiry_screen {m : Nat} {t : State} (ht : execStaleExpiry m s = .next t) :
    s.screenStep (.staleExpiry m) t := by
  unfold execStaleExpiry at ht
  dsimp only at ht
  split at ht
  · exact State.screenStep_of_expiry ht
  · obtain rfl := Host.Outcome.next.inj ht
    exact .kept s.keepsScreen_refl

theorem execFlashExpiry_screen {m : Nat} {t : State} (ht : execFlashExpiry m s = .next t) :
    s.screenStep (.flashExpiry m) t := by
  unfold execFlashExpiry at ht
  dsimp only at ht
  split at ht
  · exact State.screenStep_of_expiry ht
  · obtain rfl := Host.Outcome.next.inj ht
    exact .kept s.keepsScreen_refl

theorem execTransmitComplete_screen {t : State} (ht : execTransmitComplete s = .next t) :
    s.screenStep .transmitComplete t := by
  unfold execTransmitComplete at ht
  split at ht <;> obtain rfl := Host.Outcome.next.inj ht <;> exact .kept (State.sameScreen.keeps (by constructor <;> rfl))

theorem execResetDone_screen {t : State} (ht : execResetDone s = .next t) : s.screenStep .resetDone t := by
  unfold execResetDone at ht
  split at ht <;> obtain rfl := Host.Outcome.next.inj ht <;> exact .kept (State.sameScreen.keeps (by constructor <;> rfl))

theorem State.paintNext_sameScreen (s : State) : s.sameScreen s.paintNext := by
  unfold State.paintNext
  split
  · constructor <;> rfl
  · split
    · constructor <;> rfl
    · split
      · constructor <;> simp [State.beginRender]
      · constructor <;> rfl

theorem State.finishRender_sameScreen (s : State) : s.sameScreen s.finishRender := by
  unfold State.finishRender
  split
  · dsimp only
    split <;> constructor <;> rfl
  · constructor <;> rfl
  · constructor <;> rfl

/-! ### Every command -/

theorem exec_screenStep (c : Instr) {t : State} (h : exec c s = .next t) : s.screenStep c t := by
  cases c with
  | identify => exact State.screenStep_of_request (exec_identify ..) (fun _ _ => (State.answer_sameScreen _).keeps) h
  | readStatus => exact State.screenStep_of_request (exec_readStatus ..) (fun _ _ => (State.answer_sameScreen _).keeps) h
  | configureDisplay =>
    exact State.screenStep_of_request (exec_configureDisplay ..) (fun r _ => State.configure_keepsScreen r) h
  | setPalette => exact State.screenStep_of_request (exec_setPalette ..) (fun r _ => State.setPalette_keepsScreen r) h
  | displayMode => exact State.screenStep_of_request (exec_displayMode ..) (fun r _ => State.stageMode_keepsScreen r) h
  | selectPage => exact State.screenStep_of_request (exec_selectPage ..) (fun p _ => State.selectPage_keepsScreen p) h
  | freeze => exact State.screenStep_of_request (exec_freeze ..) (fun r _ => State.freeze_keepsScreen r) h
  | thaw => exact State.screenStep_of_request (exec_thaw ..) (fun _ _ => State.thaw_keepsScreen) h
  | reset tag p straps =>
    cases p with
    | fields => exact State.screenStep_of_reset h
    | wrongLength => exact State.screenStep_of_wrongLength (exec_reset ..) h
  | defineField =>
    exact State.screenStep_of_request (exec_defineField ..) (fun r _ => (State.define_sameScreen r).keeps) h
  | restyleField =>
    exact State.screenStep_of_request (exec_restyleField ..) (fun r _ => (State.restyle_sameScreen r).keeps) h
  | setLimits => exact State.screenStep_of_request (exec_setLimits ..) (fun r _ => (State.setLimits_sameScreen r).keeps) h
  | deleteField => exact State.screenStep_of_request (exec_deleteField ..) (fun n _ => (State.delete_sameScreen n).keeps) h
  | readField => exact State.screenStep_of_request (exec_readField ..) (fun n _ => (State.readField_sameScreen n).keeps) h
  | post => exact State.screenStep_of_request (exec_post ..) (fun r _ => (State.post_sameScreen r).keeps) h
  | postBatch => exact State.screenStep_of_request (exec_postBatch ..) (fun l _ => (State.postBatch_sameScreen l).keeps) h
  | postText => exact State.screenStep_of_request (exec_postText ..) (fun r _ => (State.postText_sameScreen r).keeps) h
  | unhold => exact State.screenStep_of_request (exec_unhold ..) (fun n _ => (State.unhold_sameScreen n).keeps) h
  | ackAlert => exact State.screenStep_of_request (exec_ackAlert ..) (fun n _ => (State.ack_sameScreen n).keeps) h
  | ackAlertAll => exact State.screenStep_of_take (exec_ackAlertAll ..) (fun _ => State.ackAll_sameScreen.keeps) h
  | readAlerts => exact State.screenStep_of_request (exec_readAlerts ..) (fun _ _ => (State.answer_sameScreen _).keeps) h
  | readWatch => exact State.screenStep_of_request (exec_readWatch ..) (fun _ _ => State.readWatch_sameScreen.keeps) h
  | clearEvents =>
    exact State.screenStep_of_request (exec_clearEvents ..) (fun k _ => (State.clearEvents_sameScreen k).keeps) h
  | setNoticeMask =>
    exact State.screenStep_of_request (exec_setNoticeMask ..) (fun k _ => (State.setNoticeMask_sameScreen k).keeps) h
  | readFault => exact State.screenStep_of_request (exec_readFault ..) (fun _ _ => (State.answer_sameScreen _).keeps) h
  | readCells => exact State.screenStep_of_request (exec_readCells ..) (fun r _ => (State.readCells_sameScreen r).keeps) h
  | unknownType => exact State.screenStep_of_take (exec_unknownType ..) (fun _ => (State.refuse_sameScreen _ _).keeps) h
  | badCheck => exact State.screenStep_of_take (exec_badCheck ..) (fun _ => (State.refuse_sameScreen _ _).keeps) h
  | frameReceived signals =>
    exact State.screenStep_of_unless h fun _ => .kept (State.receiveSignals_sameScreen signals).keeps
  | gapTimeout =>
    refine State.screenStep_of_unless h fun _ => .kept (State.sameScreen.keeps ?_)
    constructor <;> simp [State.latchLine]
  | transmitBegin =>
    exact State.screenStep_of_unless h fun _ => .kept (State.sameScreen.keeps (by constructor <;> rfl))
  | transmitComplete => exact execTransmitComplete_screen h
  | resetn straps =>
    obtain rfl := Host.Outcome.next.inj h
    exact .resetPin straps
  | resetDone => exact execResetDone_screen h
  | frameBoundary order => exact State.screenStep_of_unless h fun _ => .boundary order
  | blinkToggle =>
    exact State.screenStep_of_unless h fun _ => .kept (State.openBoundary_keepsScreen (State.judgeBlink_keepsScreen _))
  | freezeExpired =>
    exact State.screenStep_of_unless h fun _ => .kept (State.openBoundary_keepsScreen (State.expireFreeze_keepsScreen _))
  | staleExpiry => exact execStaleExpiry_screen h
  | flashExpiry => exact execFlashExpiry_screen h
  | aging =>
    exact State.screenStep_of_unless h fun _ =>
      .kept (State.openBoundary_keepsScreen (State.age_samePanel _).sameScreen.keeps)
  | pageChange => exact State.screenStep_of_unless h fun hrun => .page (by simp at hrun; exact hrun.1.2)
  | configurationApply => exact State.screenStep_of_unless h fun hrun => .configuration (by simp at hrun; exact hrun.1.2)
  | renderBegin => exact State.screenStep_of_unless h fun _ => .settled (State.paintNext_sameScreen _).keeps
  | renderComplete => exact State.screenStep_of_unless h fun _ => .settled (State.finishRender_sameScreen _).keeps

/-! ### The two laws -/

theorem State.beginReset_laws (cause : ResetCause) (level : Bool) (straps : Straps) :
    (s.beginReset cause level straps).planeCanonical ∧ (s.beginReset cause level straps).screenLaw :=
  ⟨Memory.reset_wf, reset_screenLaw⟩

/-- Every way in which a command can change the screen keeps its laws. -/
theorem State.screenStep.laws {c : Instr} {t : State} (h : s.screenStep c t) : s.keepsScreenLaws t := by
  have hopen : s.keepsScreenLaws s.openBoundary := s.openBoundary_samePanel.sameScreen.keeps.laws
  cases h with
  | kept h => exact h.laws
  | settled h => exact State.settle_laws.trans h.laws
  | boundary order => exact State.takeBoundary_laws order
  | page => exact hopen.trans (State.applyPendingPage_laws _)
  | configuration => exact hopen.trans (State.applyPendingConfigure_laws _)
  | resetPin straps => exact ⟨fun _ => (State.beginReset_laws _ _ _).1, fun _ => (State.beginReset_laws _ _ _).2⟩
  | resetRequest tag straps u => exact ⟨fun _ => (State.beginReset_laws _ _ _).1, fun _ => (State.beginReset_laws _ _ _).2⟩

/-- Settles O55: every step is a step of the screen, and each of these keeps the laws. -/
theorem everyStepKeepsScreenLaws : Obligations.EveryStepKeepsScreenLaws := by
  intro s t hplane hlaw hstep
  unfold step at hstep
  split at hstep
  · obtain rfl := Host.Outcome.next.inj hstep
    exact ⟨hplane, hlaw⟩
  · have h := (exec_screenStep _ hstep).laws
    exact ⟨h.plane hplane, h.law hlaw⟩

/-- A begun boundary that is finished before a request changes no view where none is begun or the freeze holds. -/
theorem State.settle_view (h : s.boundary = none ∨ s.heldFrozen (s.scr.frameCounter + 1)) : s.sameView s.settle := by
  by_cases hnone : s.boundary = none
  · rw [State.settle_of_none hnone]
    exact s.keepsScreen_refl.view
  · rw [State.settle_of_begun hnone]
    exact State.takeBoundary_view _ (h.resolve_left hnone)

/-- Settles O49: of the ways in which a command can change the screen, only boundaries, the operations that wait for one, and
resets write the plane; the first do not while the freeze holds, and the second do not while the part is frozen. -/
theorem planeChangesOnlyAtBoundary : Obligations.PlaneChangesOnlyAtBoundary := by
  intro c s t hexec hpin hrequest hwhen
  have hview : s.sameView t := by
    cases exec_screenStep c hexec with
    | kept h => exact h.view
    | settled h => exact (State.settle_view (hwhen.imp_left fun h => h.1)).trans h.view
    | boundary order => exact State.takeBoundary_view order (hwhen.resolve_left fun h => h.2.1 order rfl)
    | page hfrozen =>
      have hheld := hwhen.resolve_left fun h => h.2.2.1 rfl
      exact nomatch hfrozen.symm.trans hheld.1
    | configuration hfrozen =>
      have hheld := hwhen.resolve_left fun h => h.2.2.2 rfl
      exact nomatch hfrozen.symm.trans hheld.1
    | resetPin straps => exact absurd rfl (hpin straps)
    | resetRequest tag straps u => exact absurd rfl (hrequest tag straps)
  exact ⟨hview.plane, hview.geometry, hview.page⟩

end Sys2Proof.Machine
end

section
/-! The screen requests (R95, R98, R104, R111, R114, R121): what they refuse, what they stage and what they report. -/

namespace Sys2Proof.Machine

variable {s : State}

/-! ### The checks -/

theorem State.setPalette_badValue {r : PaletteFields} (h : 15 < r.first.toNat) :
    s.setPalette r = s.refuse .badValue none := by rw [State.setPalette, if_pos h]

/-- The display modes are those with a code up to 3 (R97). -/
theorem DisplayMode.ofCode_eq_none {b : Byte} (h : 3 < b.toNat) : DisplayMode.ofCode b = none := by
  unfold DisplayMode.ofCode
  split
  case h_5 => rfl
  all_goals omega

theorem DisplayMode.ofCode_code (m : DisplayMode) : DisplayMode.ofCode m.code = some m := by cases m <;> rfl

theorem State.stageMode_badValue {r : ModeFields} (h : 3 < r.mode.toNat) :
    s.stageMode r = s.refuse .badValue none := by rw [State.stageMode, DisplayMode.ofCode_eq_none h]

theorem State.selectPage_badValue {page : Byte} (h : 3 < page.toNat) : s.selectPage page = s.refuse .badValue none := by
  rw [State.selectPage, if_pos h]

theorem State.selectPage_frozen {page : Byte} (h : ¬3 < page.toNat) (hfrozen : s.scr.frozen = true) :
    s.selectPage page = s.refuse .frozen none := by
  rw [State.selectPage, if_neg h, if_pos hfrozen]

/-- An operation waits for a boundary (R111, R114). -/
theorem State.operationPending_iff :
    s.operationPending = true ↔ s.msg.pendingPage ≠ none ∨ s.msg.pendingConfigure ≠ none := by
  simp [State.operationPending, Option.isSome_iff_ne_none]

theorem State.selectPage_busy {page : Byte} (h : ¬3 < page.toNat) (hfrozen : ¬s.scr.frozen = true)
    (hwaits : s.operationPending = true) : s.selectPage page = s.refuse .busy none := by
  rw [State.selectPage, if_neg h, if_neg hfrozen, if_pos hwaits]

/-- The geometries are those with a code up to 2 (R92). -/
theorem Geometry.ofCode_cases (b : Byte) :
    (2 < b.toNat ∧ Geometry.ofCode b = none) ∨ (b.toNat ≤ 2 ∧ ∃ g, Geometry.ofCode b = some g) := by
  unfold Geometry.ofCode
  split
  case h_4 h0 h1 h2 =>
    change b.toNat ≠ 0 at h0
    change b.toNat ≠ 1 at h1
    change b.toNat ≠ 2 at h2
    exact .inl ⟨by omega, rfl⟩
  all_goals exact .inr ⟨by omega, _, rfl⟩

theorem State.configure_badValue {r : ConfigureFields} (h : 2 < r.geometry.toNat) :
    s.configure r = s.refuse .badValue none := by
  obtain ⟨-, hnone⟩ := (Geometry.ofCode_cases r.geometry).resolve_right fun hlow => by omega
  rw [State.configure, hnone]

theorem State.configure_frozen {r : ConfigureFields} (h : ¬2 < r.geometry.toNat) (hfrozen : s.scr.frozen = true) :
    s.configure r = s.refuse .frozen none := by
  obtain ⟨-, g, hg⟩ := (Geometry.ofCode_cases r.geometry).resolve_left fun hhigh => h hhigh.1
  rw [State.configure, hg]
  exact if_pos hfrozen

theorem State.configure_busy {r : ConfigureFields} (h : ¬2 < r.geometry.toNat) (hfrozen : ¬s.scr.frozen = true)
    (hwaits : s.operationPending = true) : s.configure r = s.refuse .busy none := by
  obtain ⟨-, g, hg⟩ := (Geometry.ofCode_cases r.geometry).resolve_left fun hhigh => h hhigh.1
  rw [State.configure, hg]
  exact (if_neg hfrozen).trans (if_pos hwaits)

theorem State.thaw_notFrozen (h : s.scr.frozen = false) : s.thaw = s.refuse .notFrozen none := by
  rw [State.thaw, if_neg (by simp [h])]

theorem State.readCells_badValue {r : CellFields} (h : r.count = 0 ∨ 80 < r.count.toNat) :
    s.readCells r = s.refuse .badValue none := by
  rw [State.readCells]
  exact if_pos (by simpa using h)

/-- The run that READ CELLS asks for starts outside the plane or leaves it (R104). -/
theorem State.readCells_outOfBounds {r : CellFields} (h : ¬(r.count = 0 ∨ 80 < r.count.toNat))
    (hout : s.scr.geometry.rows ≤ r.row.toNat ∨ s.scr.geometry.columns ≤ r.column.toNat ∨
      s.scr.geometry.cells < r.row.toNat * s.scr.geometry.columns + r.column.toNat + r.count.toNat) :
    s.readCells r = s.refuse .outOfBounds none := by
  unfold State.readCells
  dsimp only
  rw [if_neg (by simpa using h)]
  split
  · rfl
  · rename_i hin
    simp only [Bool.or_eq_true, decide_eq_true_eq, not_or] at hin
    rw [if_pos]
    rw [Geometry.place]
    exact (hout.resolve_left hin.1).resolve_left hin.2

theorem State.readCells_of_inBounds {r : CellFields} (hpos : 0 < r.count.toNat) (hcount : r.count.toNat ≤ 80)
    (hrow : r.row.toNat < s.scr.geometry.rows) (hcolumn : r.column.toNat < s.scr.geometry.columns)
    (hend : r.row.toNat * s.scr.geometry.columns + r.column.toNat + r.count.toNat ≤ s.scr.geometry.cells) :
    s.readCells r = s.answer ([r.row, r.column, r.count] ++
      cellBytes (s.cellsFrom (r.row.toNat * s.scr.geometry.columns + r.column.toNat) r.count.toNat)) := by
  have hzero : ¬r.count = 0#8 := by rintro hzero; simp [hzero] at hpos
  unfold State.readCells
  dsimp only
  rw [if_neg (by simp [hzero, hcount]), if_neg (by simp [hrow, hcolumn]), if_neg (by rw [Geometry.place]; omega),
    Geometry.place]

/-- Settles O19: the request's own rule begins with these checks, on the state that the take leaves. -/
theorem screenRequestChecks : Obligations.ScreenRequestChecks := by
  intro s tag pal mode page conf run refused waits
  have hwaits : ∀ f, waits → (s.take f).operationPending = true := fun f h => State.operationPending_iff.2 h
  refine ⟨fun _ hready h => ?palette, fun hready h => ?mode, fun hready => ?page, fun hready => ?configure,
    fun hready h => ?thaw, fun hready => ?cells⟩
  case palette => exact State.exec_refused (exec_setPalette ..) rfl (State.setPalette_badValue h) hready
  case mode => exact State.exec_refused (exec_displayMode ..) rfl (State.stageMode_badValue h) hready
  case page =>
    split
    · exact State.exec_refused (exec_selectPage ..) rfl (State.selectPage_badValue ‹_›) hready
    · split
      · exact State.exec_refused (exec_selectPage ..) rfl (State.selectPage_frozen (s := s.take _) ‹_› ‹_›) hready
      · exact fun h => State.exec_refused (exec_selectPage ..) rfl
          (State.selectPage_busy (s := s.take _) ‹_› ‹_› (hwaits _ h)) hready
  case configure =>
    split
    · exact State.exec_refused (exec_configureDisplay ..) rfl (State.configure_badValue ‹_›) hready
    · split
      · exact State.exec_refused (exec_configureDisplay ..) rfl (State.configure_frozen (s := s.take _) ‹_› ‹_›) hready
      · exact fun h => State.exec_refused (exec_configureDisplay ..) rfl
          (State.configure_busy (s := s.take _) ‹_› ‹_› (hwaits _ h)) hready
  case thaw => exact State.exec_refused (exec_thaw ..) rfl (State.thaw_notFrozen (s := s.take _) h) hready
  case cells =>
    split
    · exact State.exec_refused (exec_readCells ..) rfl (State.readCells_badValue ‹_›) hready
    · exact fun h => State.exec_refused (exec_readCells ..) rfl
        (State.readCells_outOfBounds (s := s.take _) ‹_› h) hready

/-! ### Staging (R95, R98) -/

/-- What a run of colours leaves at an index: the colour of the run that falls on it, or what was staged (R95). -/
theorem stageColours_getD (index i : Nat) (staged : List (Option Colour)) (colours : List Colour) (h : i < staged.length) :
    (stageColours index staged colours).getD i none =
      if index ≤ i ∧ i < index + colours.length then colours[i - index]? else staged.getD i none := by
  induction colours generalizing index staged with
  | nil => simp [stageColours]
  | cons c rest ih =>
    rw [stageColours, ih _ _ (by simpa using h), List.length_cons]
    rcases Nat.lt_trichotomy i index with hlt | rfl | hgt
    · rw [if_neg (by omega), if_neg (by omega), List.getD_eq_getElem?_getD, List.getElem?_set_ne (by omega),
        List.getD_eq_getElem?_getD]
    · rw [if_neg (by omega), if_pos (by omega)]
      simp [h]
    · have hstep : i - index = (i - (index + 1)) + 1 := by omega
      rw [hstep, List.getElem?_cons_succ, List.getD_eq_getElem?_getD, List.getElem?_set_ne (by omega),
        List.getD_eq_getElem?_getD]
      exact if_congr (by omega) rfl rfl

/-- A request that changes SCR alone, answered after its take. -/
theorem State.answered_of_scr {c : Instr} {f : Frame} {scr : Screen} (payload : List Byte) (h : s.ready c = true) :
    s.answered (({ s.take f with scr := scr } : State).answer payload) (f.type + 0x80) f.tag payload :=
  State.answered_of_leavesLine payload h ⟨rfl, rfl, State.lineKept_refl _, rfl⟩

theorem min_fifteen (n : Nat) : min 15 n = if n ≤ 15 then n else 15 := by
  rw [Nat.min_comm, Nat.min_def]

/-- Settles O39: the take, the staged colours or pair, and the reply. -/
theorem paletteAndModeAreStaged : Obligations.PaletteAndModeAreStaged := by
  rintro s tag ⟨-, hstaged, -⟩
  refine ⟨fun r _ hfirst hready => ?_, fun mode level hready => ?_⟩
  · have hexec := State.exec_of_ready (exec_setPalette tag (.fields r) s) rfl hready
    rw [State.setPalette, if_neg (by omega)] at hexec
    refine ⟨_, hexec, ?_, ?_, fun i hi => ?_, ?_, ?_, ?_, ?_,
      State.answered_of_scr (f := goodFrame 0x04 tag (Carried.payload PaletteFields.bytes (.fields r))) _ hready⟩
    · rw [State.answer_scr]; rfl
    · rw [State.answer_scr]
      exact (stageColours_length _ _ _).trans hstaged
    · rw [State.answer_scr]
      exact stageColours_getD _ _ _ _ (hstaged ▸ hi)
    · rw [State.answer_fields]; rfl
    · rw [State.answer_pnt]; rfl
    · rw [State.answer_aeu]; rfl
    · rw [State.answer_notice]; exact s.take_notice (goodFrame 0x04 tag r.bytes)
  · have hexec := State.exec_of_ready (exec_displayMode tag (.fields ⟨mode.code, level⟩) s) rfl hready
    have hbyte : byteOfNat (min 15 level.toNat) = if level.toNat ≤ 15 then level else 15 := by
      rw [min_fifteen]
      split
      · exact BitVec.ofNat_toNat _ _
      · rfl
    simp only [State.stageMode, DisplayMode.ofCode_code, hbyte] at hexec
    refine ⟨_, hexec, ?_, ?_, ?_, ?_, ?_, State.answered_of_scr (f := goodFrame 0x05 tag [mode.code, level]) _ hready⟩
    · rw [State.answer_scr, min_fifteen]; rfl
    · rw [State.answer_fields]; rfl
    · rw [State.answer_pnt]; rfl
    · rw [State.answer_aeu]; rfl
    · rw [State.answer_notice]; exact s.take_notice (goodFrame 0x05 tag [mode.code, level])

/-! ### READ CELLS (R104, R175) -/

theorem attributeBytes_length (cells : List Cell) : (attributeBytes cells).length = (cells.length + 3) / 4 := by
  fun_induction attributeBytes cells with
  | case1 => rfl
  | case2 => simp
  | case3 => simp
  | case4 => simp
  | case5 a b c d rest ih => simp only [List.length_cons, ih]; omega

/-- The attributes of the i-th cell: two bits of byte i div 4, blink below underline (R175). -/
theorem attributeBytes_pair {cells : List Cell} {i : Nat} {x : Cell} (h : cells[i]? = some x) :
    ((attributeBytes cells).getD (i / 4) 0).getLsbD (2 * (i % 4)) = x.blink ∧
      ((attributeBytes cells).getD (i / 4) 0).getLsbD (2 * (i % 4) + 1) = x.underline := by
  have hbits : ∀ flags j, j < 4 → (byteOfFlags flags).getLsbD (2 * j) = flags.getD (2 * j) false ∧
      (byteOfFlags flags).getLsbD (2 * j + 1) = flags.getD (2 * j + 1) false := fun flags j hj =>
    ⟨byteOfFlags_getLsbD _ _ (by omega), byteOfFlags_getLsbD _ _ (by omega)⟩
  fun_induction attributeBytes cells generalizing i with
  | case1 => exact nomatch h
  | case2 a =>
    match i, h with
    | 0, h => obtain rfl := Option.some.inj h; exact hbits _ 0 (by omega)
  | case3 a b =>
    match i, h with
    | 0, h => obtain rfl := Option.some.inj h; exact hbits _ 0 (by omega)
    | 1, h => obtain rfl := Option.some.inj h; exact hbits _ 1 (by omega)
  | case4 a b c =>
    match i, h with
    | 0, h => obtain rfl := Option.some.inj h; exact hbits _ 0 (by omega)
    | 1, h => obtain rfl := Option.some.inj h; exact hbits _ 1 (by omega)
    | 2, h => obtain rfl := Option.some.inj h; exact hbits _ 2 (by omega)
  | case5 a b c d rest ih =>
    match i, h with
    | 0, h => obtain rfl := Option.some.inj h; exact hbits _ 0 (by omega)
    | 1, h => obtain rfl := Option.some.inj h; exact hbits _ 1 (by omega)
    | 2, h => obtain rfl := Option.some.inj h; exact hbits _ 2 (by omega)
    | 3, h => obtain rfl := Option.some.inj h; exact hbits _ 3 (by omega)
    | j + 4, h =>
      rw [show (j + 4) / 4 = j / 4 + 1 by omega, show (j + 4) % 4 = j % 4 by omega, List.getD_cons_succ]
      exact ih h

/-- Settles O25: the run of cells, and the attributes of its cells, as `cellBytes` lays them out. -/
theorem readCellsReportsPlane : Obligations.ReadCellsReportsPlane := by
  intro s tag r place n hpos hcount hrow hcolumn hend hready
  have hexec := (State.exec_of_ready (exec_readCells tag (.fields r) s) rfl hready).trans
    (congrArg Host.Outcome.next (State.readCells_of_inBounds (s := s.take _) hpos hcount hrow hcolumn hend))
  refine ⟨_, attributeBytes (s.cellsFrom place n), hexec, ?_, fun i hi => ?_, ?_⟩
  · rw [attributeBytes_length, State.cellsFrom, List.length_map, List.length_range]
  · exact attributeBytes_pair (by simp [State.cellsFrom, hi])
  · refine State.reported_answer hready ?_
    rw [cellBytes, State.cellsFrom, List.flatMap_map, ← List.append_assoc]
    rfl

end Sys2Proof.Machine
end

section
/-! Scan-out (R91, R94, R97, R101, R102). -/

namespace Sys2Proof.Machine

/-- The substitute box is one hollow rectangle, wherever its lines stand (R91). -/
theorem boxLit_hollowRectangle : hollowRectangle boxLit := by
  let rows := spanOf 15 (Config.substituteBox 0) (Config.substituteBox 1) (Config.substituteBox 2) (Config.substituteBox 3)
  let columns := spanOf 8 (Config.substituteBox 4) (Config.substituteBox 5) (Config.substituteBox 6) (Config.substituteBox 7)
  obtain ⟨hrow, hrow', hrow'', hbottom⟩ := spanOf_edges 15 (Config.substituteBox 0) (Config.substituteBox 1)
    (Config.substituteBox 2) (Config.substituteBox 3) (by decide)
  obtain ⟨hcolumn, hcolumn', hcolumn'', hright⟩ := spanOf_edges 8 (Config.substituteBox 4) (Config.substituteBox 5)
    (Config.substituteBox 6) (Config.substituteBox 7) (by decide)
  refine ⟨rows.outerLow, rows.hollowLow, rows.hollowHigh, rows.outerHigh, columns.outerLow, columns.hollowLow,
    columns.hollowHigh, columns.outerHigh, hrow, hrow', hrow'', Nat.le_of_lt_succ hbottom, hcolumn, hcolumn', hcolumn'',
    Nat.le_of_lt_succ hright, fun row column => ?_⟩
  have hlit : boxLit row column =
      (rows.covers row && columns.covers column && !(rows.hollows row && columns.hollows column)) := rfl
  simp only [hlit, Span.covers, Span.hollows, Bool.and_eq_true, Bool.not_eq_true', Bool.and_eq_false_iff, decide_eq_true_eq,
    decide_eq_false_iff_not]
  omega

theorem glyphLit_iff (code : Byte) (row column : Nat) :
    glyphLit code row column = true ↔ row ≠ 15 ∧ code ≠ 0x20 ∧
      (if code = 0x7F then boxLit row column else Config.glyphPattern code row column) = true := by
  simp only [glyphLit, Bool.and_eq_true, bne_iff_ne, and_assoc]

/-- A pixel of a cell is drawn in the colour that R97 gives a lit pixel: it is lit, and not hidden by a blink in the off phase
(R101). -/
def State.drawsLit (s : State) (c : Cell) (row column : Nat) : Bool :=
  (glyphLit c.glyph row column || (c.underline && row == 15)) && !(c.blink && !s.scr.blinkOn)

theorem State.pixelIndex_eq (s : State) (c : Cell) (row column : Nat) :
    s.pixelIndex c row column =
      match s.scr.mode with
      | .normal => if s.drawsLit c row column then c.fg else c.bg
      | .reverse => if s.drawsLit c row column then c.bg else c.fg
      | .blank => 0
      | .flood => c.bg := by
  rw [State.pixelIndex]
  rfl

theorem State.drawsLit_iff (s : State) (c : Cell) (row column : Nat) :
    s.drawsLit c row column = true ↔
      ((row ≠ 15 ∧ c.glyph ≠ 0x20 ∧
          (if c.glyph = 0x7F then boxLit row column else Config.glyphPattern c.glyph row column) = true) ∨
        (c.underline = true ∧ row = 15)) ∧ ¬(c.blink = true ∧ s.scr.blinkOn = false) := by
  simp only [State.drawsLit, Bool.and_eq_true, Bool.or_eq_true, glyphLit_iff, beq_iff_eq, Bool.not_eq_true',
    Bool.and_eq_false_iff, Bool.not_eq_false', not_and_or, Bool.not_eq_true, Bool.not_eq_false]

/-- Outside reset processing a pixel shows the palette's colour of its cell's index (R94, R102). -/
theorem State.pixel_of_running {s : State} (h : s.resetCause = none) (y x : Nat) :
    s.pixel y x = s.scr.palette.getD
      (s.pixelIndex (Memory.read s.scr.plane (y / 16 * s.scr.geometry.columns + x / 8)) (y % 16) (x % 8)).toNat ⟨0, 0, 0⟩ := by
  rw [State.pixel, if_neg (by simp [State.inReset, h])]
  rfl

/-- PNL carries red, green and blue from its upper bits down (R94). -/
theorem pnlWord_parts (c : Colour) : (pnlWord c).extractLsb' 16 8 = c.red ∧ (pnlWord c).extractLsb' 8 8 = c.green ∧
    (pnlWord c).extractLsb' 0 8 = c.blue := by
  refine ⟨?_, ?_, ?_⟩ <;> ext i hi <;> simp [pnlWord] <;> grind

/-- Settles O46: the index of a pixel is that of `pixelIndex`, with `boxLit` as the box. -/
theorem pixelsShowMode : Obligations.PixelsShowMode := by
  refine ⟨boxLit, boxLit_hollowRectangle, fun s y x hreset => ?_⟩
  intro cell colour drawn lit hidden
  have hpixel : s.pixel y x = colour (s.pixelIndex cell (y % 16) (x % 8)) := State.pixel_of_running hreset y x
  have hdraws : s.drawsLit cell (y % 16) (x % 8) = true ↔ lit ∧ ¬hidden := s.drawsLit_iff cell _ _
  rw [← hdraws, hpixel, State.pixelIndex_eq]
  refine ⟨fun hmode => ?_, fun hmode => ?_, fun hmode => ?_, fun hmode => ?_, ?_⟩
  · rw [hmode]
    exact ⟨fun h => congrArg colour (if_pos h), fun h => congrArg colour (if_neg h)⟩
  · rw [hmode]
    exact ⟨fun h => congrArg colour (if_pos h), fun h => congrArg colour (if_neg h)⟩
  · rw [hmode]
  · rw [hmode]
  · rw [← State.pixelIndex_eq, ← hpixel]
    exact pnlWord_parts _

end Sys2Proof.Machine
end

section
/-! The blink phase and the freeze limit taken ahead of their boundary (R101, R122; assumption log 3). -/

namespace Sys2Proof.Machine

variable {s : State}

/-- The period that the model judges the blink against is the period in effect from the boundary (R101). -/
theorem State.periodAt_of_periodFrom {n : FrameNo} {period : Nat} (h : s.periodFrom n period) : s.periodAt n = period := by
  obtain ⟨happlied, hcurrent⟩ := h
  unfold State.periodAt
  cases hpending : s.msg.pendingConfigure with
  | none => exact (hcurrent (.inl hpending)).symm
  | some c =>
    by_cases hheld : s.heldFrozen n
    · have hfrozen := (s.heldFrozen_iff n).1 hheld
      rw [hcurrent (.inr hheld)]
      simp [hfrozen]
    · have hfrozen : (s.scr.frozen && !s.freezeDue n) = false := by
        rw [← Bool.not_eq_true]
        exact fun hboth => hheld ((s.heldFrozen_iff n).2 (by simpa using hboth))
      rw [happlied c hpending hheld]
      simp [hfrozen]

theorem State.togglesAt_of_periodFrom {n : FrameNo} {period : Nat} (h : s.periodFrom n period) :
    s.togglesAt n = (n.toNat % period == 0) := by
  rw [State.togglesAt, State.periodAt_of_periodFrom h]

/-- A blink that the boundary has judged is not judged again. -/
theorem State.judgeBlink_of_toggled {b : Boundary} (n : FrameNo) (hb : s.boundary = some b) (ht : b.toggled = true) :
    s.judgeBlink n = s := by
  rw [State.judgeBlink, if_pos (by simp [hb, ht])]

theorem State.judgeBlink_of_untoggled {b : Boundary} (n : FrameNo) (hb : s.boundary = some b) (ht : b.toggled = false) :
    s.judgeBlink n = { s with scr := { s.scr with blinkOn := s.scr.blinkOn != s.togglesAt n }
                              boundary := some { b with toggled := true } } := by
  rw [State.judgeBlink, if_neg (by simp [hb, ht]), hb]
  rfl

theorem exec_blinkToggle_of_running (h : s.resetCause = none) :
    exec .blinkToggle s =
      .next (if s.togglesAt s.boundaryNumber then s.openBoundary.judgeBlink s.boundaryNumber else s) := by
  change execBlinkToggle s = _
  cases htoggles : s.togglesAt s.boundaryNumber <;> simp [execBlinkToggle, State.inReset, h, htoggles]

theorem exec_freezeExpired_of_running (h : s.resetCause = none) :
    exec .freezeExpired s =
      .next (if s.freezeDue s.boundaryNumber then s.openBoundary.expireFreeze s.boundaryNumber else s) := by
  change execFreezeExpired s = _
  cases hdue : s.freezeDue s.boundaryNumber <;> simp [execFreezeExpired, State.inReset, h, hdue]

/-- BLINK_TOGGLE at a boundary whose blink is not judged (R101). -/
theorem exec_blinkToggle_toggles {period : Nat} (hreset : s.resetCause = none)
    (hfrom : s.periodFrom s.boundaryNumber period) (hmultiple : s.boundaryNumber.toNat % period = 0)
    (hfresh : s.begun.toggled = false) :
    exec .blinkToggle s = .next { s with
      scr := { s.scr with blinkOn := !s.scr.blinkOn }, boundary := some { s.begun with toggled := true } } := by
  have htoggles : s.togglesAt s.boundaryNumber = true := by
    rw [State.togglesAt_of_periodFrom hfrom, hmultiple]; rfl
  have hopened : s.openBoundary.togglesAt s.boundaryNumber = true := by rw [State.openBoundary_eq]; exact htoggles
  rw [exec_blinkToggle_of_running hreset, if_pos htoggles,
    State.judgeBlink_of_untoggled _ (by rw [State.openBoundary_eq]) hfresh, hopened, Bool.bne_true, State.openBoundary_eq]

/-- A limit that is not reached ends no freeze. -/
theorem State.freezeDue_iff (n : FrameNo) :
    s.freezeDue n = true ↔ s.scr.frozen = true ∧ deadlineReached s.scr.freezeDeadline n := by
  rw [State.freezeDue, Bool.and_eq_true, dueAt_iff]

/-- Settles O51: BLINK_TOGGLE and FREEZE_EXPIRED on the boundary as it is begun. -/
theorem blinkAndFreezeLimit : Obligations.BlinkAndFreezeLimit := by
  intro s hreset n begun
  have hbegun : s.boundary = none → s.begun = begun := fun hb => by rw [State.begun, hb]
  have hbegun' : ∀ b, s.boundary = some b → s.begun = b := fun b hb => by rw [State.begun, hb]
  refine ⟨fun period hfrom => ⟨fun hother => ?_, fun hmultiple hb => ?_⟩, fun period hfrom hmultiple b hb ht => ?_,
    fun b hb ht => ?_, fun hlimit => ?_, fun hfrozen hlimit => ?_⟩
  · rw [exec_blinkToggle_of_running hreset, if_neg]
    rw [State.togglesAt_of_periodFrom (n := s.boundaryNumber) hfrom]
    rw [beq_iff_eq]
    exact hother
  · rw [exec_blinkToggle_toggles hreset hfrom hmultiple (by rw [hbegun hb]), hbegun hb]
  · rw [exec_blinkToggle_toggles hreset hfrom hmultiple (by rw [hbegun' b hb]; exact ht), hbegun' b hb]
  · rw [exec_blinkToggle_of_running hreset, State.openBoundary_of_some hb, State.judgeBlink_of_toggled _ hb ht, ite_self]
  · rw [exec_freezeExpired_of_running hreset, if_neg]
    rw [State.freezeDue_iff]
    exact hlimit
  · have hdue : s.freezeDue n = true := State.freezeDue_iff n |>.2 ⟨hfrozen, hlimit⟩
    have hopened : s.openBoundary.freezeDue n = true := by rw [State.openBoundary_eq]; exact hdue
    refine ⟨_, (exec_freezeExpired_of_running hreset).trans (congrArg _ (if_pos hdue)), ?_⟩
    have hexpired : s.openBoundary.expireFreeze s.boundaryNumber = s.openBoundary.endFreeze.latch evFreezeExpired n :=
      State.expireFreeze_of_due _ hopened
    rw [hexpired, State.openBoundary_eq]
    refine ⟨by simp [State.endFreeze], State.latch_once _ _, by simp [State.endFreeze], by
      simp [State.listsKept, State.endFreeze], by simp [State.endFreeze], by simp [State.endFreeze], by
      simp [State.endFreeze], by simp [State.lineUntouched, State.endFreeze], by simp [State.endFreeze], fun hb => ?_, fun b hb => ?_⟩
    · rw [State.latch_boundary, ← hbegun hb]; rfl
    · rw [State.latch_boundary, ← hbegun' b hb]; rfl

end Sys2Proof.Machine
end

section
/-! Events and the record of the boundary along the parts of a boundary: latches are only added, and only the blink's own part
marks the blink judged (R101, R152). -/

namespace Sys2Proof.Machine

variable {s : State}

/-! ### Parts that only add latches -/

/-- No latch is cleared, and the mask and the fault record are as before. -/
structure State.latchesMore (s t : State) : Prop where
  latched : s.aeu.latched ||| t.aeu.latched = t.aeu.latched
  mask : t.aeu.noticeMask = s.aeu.noticeMask
  fault : t.aeu.faultRecord = s.aeu.faultRecord

/-- Events that are latched in a set stay latched in a set that contains it. -/
theorem EventSet.getLsbD_of_or_eq {a b : EventSet} (h : a ||| b = b) {i : Nat} (hi : a.getLsbD i = true) :
    b.getLsbD i = true := by
  rw [← h, BitVec.getLsbD_or, hi, Bool.true_or]

theorem State.latchesMore.trans {s t u : State} (h : s.latchesMore t) (k : t.latchesMore u) : s.latchesMore u :=
  ⟨by rw [← k.latched, ← BitVec.or_assoc, h.latched], k.mask.trans h.mask, k.fault.trans h.fault⟩

theorem State.latchesMore_of_or {t : State} {kinds : EventSet} (hlatched : t.aeu.latched = s.aeu.latched ||| kinds)
    (hmask : t.aeu.noticeMask = s.aeu.noticeMask) (hfault : t.aeu.faultRecord = s.aeu.faultRecord) : s.latchesMore t :=
  ⟨by rw [hlatched, ← BitVec.or_assoc, BitVec.or_self], hmask, hfault⟩

theorem State.latchesMore_of_eq {t : State} (hlatched : t.aeu.latched = s.aeu.latched)
    (hmask : t.aeu.noticeMask = s.aeu.noticeMask) (hfault : t.aeu.faultRecord = s.aeu.faultRecord) : s.latchesMore t :=
  ⟨by rw [hlatched, BitVec.or_self], hmask, hfault⟩

/-- A change of state that only adds latches and leaves the blink as judged as it was. -/
structure State.carriesOn (s t : State) : Prop extends s.latchesMore t where
  toggled : t.boundary.map Boundary.toggled = s.boundary.map Boundary.toggled

theorem State.carriesOn.trans {s t u : State} (h : s.carriesOn t) (k : t.carriesOn u) : s.carriesOn u :=
  ⟨h.tolatchesMore.trans k.tolatchesMore, k.toggled.trans h.toggled⟩

/-- A change of state that leaves latches, mask, fault record and the boundary's record alone. -/
theorem State.carriesOn_of_eq {t : State} (hlatched : t.aeu.latched = s.aeu.latched)
    (hmask : t.aeu.noticeMask = s.aeu.noticeMask) (hfault : t.aeu.faultRecord = s.aeu.faultRecord)
    (htoggled : t.boundary.map Boundary.toggled = s.boundary.map Boundary.toggled) : s.carriesOn t :=
  ⟨State.latchesMore_of_eq hlatched hmask hfault, htoggled⟩

theorem State.carriesOn_refl (s : State) : s.carriesOn s := State.carriesOn_of_eq rfl rfl rfl rfl

theorem State.latch_carriesOn (kinds : EventSet) (n : FrameNo) : s.carriesOn (s.latch kinds n) :=
  ⟨State.latchesMore_of_or (State.latch_aeu.latched s kinds n) (by simp) (by simp), by simp⟩

theorem State.latchFrameIf_carriesOn (now : Bool) (n : FrameNo) : s.carriesOn (s.latchFrameIf now n) := by
  unfold State.latchFrameIf
  split
  · exact State.latch_carriesOn _ n
  · exact s.carriesOn_refl

theorem State.latchLagRise_carriesOn (before : State) (n : FrameNo) : s.carriesOn (s.latchLagRise before n) := by
  unfold State.latchLagRise
  split
  · exact State.latch_carriesOn _ n
  · exact s.carriesOn_refl

theorem State.latchOpen_carriesOn (groups : List (List EventSet)) (n : FrameNo) : s.carriesOn (s.latchOpen groups n) :=
  ⟨State.latchesMore_of_or (State.latchOpen_inTurn groups n).1 (by simp) (by simp), by simp⟩

/-! ### The queue -/

theorem State.enqueueAtBoundary_toggled (n : Nat) (u : Bool) :
    (s.enqueueAtBoundary n u).boundary.map Boundary.toggled = s.boundary.map Boundary.toggled := by
  unfold State.enqueueAtBoundary
  dsimp only
  split
  · simp
  · simp [Function.comp_def]

theorem State.enqueueAtBoundary_carriesOn (n : Nat) (u : Bool) : s.carriesOn (s.enqueueAtBoundary n u) :=
  State.carriesOn_of_eq (by simp) (by simp) (by simp) (State.enqueueAtBoundary_toggled n u)

theorem State.enqueueAllAtBoundary_carriesOn (n : FrameNo) (l : List Nat) : s.carriesOn (s.enqueueAllAtBoundary n l) := by
  induction l generalizing s with
  | nil => exact s.carriesOn_refl
  | cons m rest ih => exact ((State.enqueueAtBoundary_carriesOn m false).trans (State.latchLagRise_carriesOn s n)).trans ih

theorem State.removeEntry_carriesOn (m : Nat) (n : FrameNo) : s.carriesOn (s.removeEntry m n) := by
  unfold State.removeEntry
  split
  · refine State.carriesOn.trans ?_ (State.latchLagRise_carriesOn s n)
    exact State.carriesOn_of_eq rfl rfl rfl rfl
  · exact s.carriesOn_refl

theorem State.removeEntries_carriesOn (n : FrameNo) (l : List Nat) : s.carriesOn (s.removeEntries n l) := by
  induction l generalizing s with
  | nil => exact s.carriesOn_refl
  | cons m rest ih => exact (State.removeEntry_carriesOn m n).trans ih

theorem State.release_carriesOn (m : Nat) (n : FrameNo) : s.carriesOn (s.release m n) :=
  (State.removeEntry_carriesOn m n).trans (State.carriesOn_of_eq rfl rfl rfl rfl)

theorem State.releaseAll_carriesOn (n : FrameNo) (l : List Nat) : s.carriesOn (s.releaseAll n l) := by
  induction l generalizing s with
  | nil => exact s.carriesOn_refl
  | cons m rest ih => exact (State.release_carriesOn m n).trans ih

/-! ### The parts of a boundary -/

theorem State.expireField_carriesOn (m : Nat) (f : Field) (n : FrameNo) : s.carriesOn (s.expireField m f n) := by
  unfold State.expireField
  dsimp only
  refine State.carriesOn.trans ?_ (State.latchOpen_carriesOn _ n)
  refine State.carriesOn.trans ?_ (State.enqueueAtBoundary_carriesOn m false)
  split <;> exact State.carriesOn_of_eq rfl rfl rfl rfl

theorem State.examineAll_carriesOn (n : FrameNo) (l : List Nat) : s.carriesOn (s.examineAll n l) := by
  induction l generalizing s with
  | nil => exact s.carriesOn_refl
  | cons m rest ih =>
    refine State.carriesOn.trans ?_ ih
    unfold State.examine
    split
    · split
      · exact State.expireField_carriesOn m _ n
      · exact s.carriesOn_refl
    · exact s.carriesOn_refl

theorem State.markExamined_carriesOn (upTo : Nat) : s.carriesOn (s.markExamined upTo) :=
  State.carriesOn_of_eq rfl rfl rfl (by simp [State.markExamined, Function.comp_def])

theorem State.takeExpiries_carriesOn (n : FrameNo) : s.carriesOn (s.takeExpiries n) := by
  unfold State.takeExpiries
  split
  · exact s.carriesOn_refl
  · split
    · exact State.markExamined_carriesOn _
    · exact (State.examineAll_carriesOn n _).trans (State.markExamined_carriesOn _)

theorem State.age_carriesOn : s.carriesOn s.age := by
  cases hb : s.boundary with
  | none => rw [State.age, hb]; exact s.carriesOn_refl
  | some b =>
    cases haged : b.aged with
    | true => rw [State.age_of_aged hb haged]; exact s.carriesOn_refl
    | false =>
      rw [State.age_of_unaged hb haged]
      exact State.carriesOn_of_eq rfl rfl rfl (by simp [hb])

theorem State.expireFreeze_carriesOn (n : FrameNo) : s.carriesOn (s.expireFreeze n) := by
  unfold State.expireFreeze
  split
  · exact State.carriesOn.trans (t := s.endFreeze) (State.carriesOn_of_eq rfl rfl rfl rfl) (State.latch_carriesOn _ n)
  · exact s.carriesOn_refl

theorem State.changePage_carriesOn (r : PendingPage) (n : FrameNo) : s.carriesOn (s.changePage r n) := by
  have hturned : s.carriesOn (s.turnPage r.page n) :=
    State.carriesOn.trans (t := s.clearPage s.scr.page) (State.carriesOn_of_eq rfl rfl rfl rfl) <|
      (State.releaseAll_carriesOn n _).trans (State.carriesOn_of_eq rfl rfl rfl rfl)
  have hleft : s.carriesOn (s.leavePage r.page n) := by
    unfold State.leavePage
    split
    · exact hturned
    · exact hturned.trans (State.removeEntries_carriesOn n _)
  rw [State.changePage_eq]
  exact hleft.trans ((State.enqueueAllAtBoundary_carriesOn n _).trans (State.carriesOn_of_eq rfl rfl rfl rfl))

theorem State.applyConfigure_carriesOn (c : PendingConfigure) (n : FrameNo) : s.carriesOn (s.applyConfigure c n) := by
  have hparameters : s.carriesOn (s.takeParameters c n) := by
    refine State.carriesOn.trans ?_ (State.latchLagRise_carriesOn s n)
    exact State.carriesOn_of_eq rfl rfl rfl rfl
  have hgeometry : ∀ u : State, u.carriesOn (u.changeGeometry c.geometry n) := fun u =>
    State.carriesOn.trans (t := u.clearForGeometry c.geometry) (State.carriesOn_of_eq rfl rfl rfl rfl) <|
      (State.releaseAll_carriesOn n _).trans <| (State.removeEntries_carriesOn n _).trans
        (State.enqueueAllAtBoundary_carriesOn n _)
  by_cases hsame : c.geometry = s.scr.geometry
  · rw [State.applyConfigure_of_same n hsame]
    exact hparameters.trans (State.carriesOn_of_eq rfl rfl rfl rfl)
  · rw [State.applyConfigure_of_other n hsame]
    exact (hparameters.trans (hgeometry _)).trans (State.carriesOn_of_eq rfl rfl rfl rfl)

theorem State.pendingPart_carriesOn (n : FrameNo) : (s.expireFreeze n).carriesOn (s.pendingPart n) := by
  refine State.carriesOn.trans (t := (s.expireFreeze n).applyPendingPage n) ?_ ?_
  · rcases (s.expireFreeze n).applyPendingPage_cases n with ⟨-, h⟩ | ⟨r, -, -, h⟩ <;> rw [h]
    · exact State.carriesOn_refl _
    · exact State.changePage_carriesOn r n
  · rw [State.pendingPart]
    rcases State.applyPendingConfigure_cases ((s.expireFreeze n).applyPendingPage n) n with ⟨-, h⟩ | ⟨c, -, -, h⟩ <;> rw [h]
    · exact State.carriesOn_refl _
    · exact State.applyConfigure_carriesOn c n

theorem State.judgeBlink_latchesMore (n : FrameNo) : s.latchesMore (s.judgeBlink n) := by
  unfold State.judgeBlink
  split <;> exact State.latchesMore_of_eq rfl rfl rfl

theorem State.commitSlot_carriesOn (n : FrameNo) (k : Nat) : s.carriesOn (s.commitSlot n k) := by
  rcases s.commitSlot_cases n k with h | ⟨m, r, f, -, -, h | h⟩ <;> rw [h]
  · exact s.carriesOn_refl
  · exact State.carriesOn_of_eq rfl rfl rfl rfl
  · exact State.carriesOn.trans (t := s.putCells k f r) (State.carriesOn_of_eq rfl rfl rfl rfl) (State.release_carriesOn m n)

theorem State.commitAll_carriesOn (n : FrameNo) : s.carriesOn (s.commitAll n) := by
  have hslots : ∀ l (u : State), u.carriesOn (u.commitSlots n l) := by
    intro l
    induction l with
    | nil => exact fun u => u.carriesOn_refl
    | cons k rest ih => exact fun u => (State.commitSlot_carriesOn n k).trans (ih _)
  unfold State.commitAll
  split
  · exact s.carriesOn_refl
  · exact hslots _ s

theorem State.latePart_carriesOn (order : BoundaryOrder) (n : FrameNo) : s.carriesOn (s.latePart order n) :=
  (State.commitAll_carriesOn n).trans ((State.takeExpiries_carriesOn n).trans (State.latchFrameIf_carriesOn _ n))

/-- What the early parts do besides the first latch of FRAME. -/
theorem State.earlyPart_carriesOn (order : BoundaryOrder) :
    (s.started.latchFrameIf order.frameFirst s.boundaryNumber).carriesOn (s.earlyPart order) := by
  unfold State.earlyPart
  dsimp only
  rw [State.startBoundary_openBoundary]
  cases order.ftuFirst <;> cases order.agingFirst
  · exact State.carriesOn_refl _
  · exact State.age_carriesOn
  · exact State.takeExpiries_carriesOn _
  · exact (State.takeExpiries_carriesOn _).trans State.age_carriesOn

/-- From R106 step 1 on, no latch is cleared. -/
theorem State.boundaryWork_latchesMore (order : BoundaryOrder) :
    ((s.earlyPart order).expireFreeze s.boundaryNumber).latchesMore (s.boundaryWork order) :=
  ((State.pendingPart_carriesOn _).trans State.age_carriesOn).tolatchesMore.trans <|
    (State.judgeBlink_latchesMore _).trans (State.latePart_carriesOn order _).tolatchesMore

theorem State.started_latchesMore (order : BoundaryOrder) : s.started.latchesMore (s.boundaryWork order) :=
  (((State.latchFrameIf_carriesOn _ _).trans (State.earlyPart_carriesOn order)).trans
    (State.expireFreeze_carriesOn _)).tolatchesMore.trans (State.boundaryWork_latchesMore order)

theorem State.latchFrame_bit (n : FrameNo) : (s.latch evFrame n).aeu.latched.getLsbD 0 = true := by
  rw [State.latch_aeu.latched, BitVec.getLsbD_or, show evFrame.getLsbD 0 = true by decide, Bool.or_true]

/-- FRAME latches at every boundary, first or last (R152). -/
theorem State.boundaryWork_frame (order : BoundaryOrder) : (s.boundaryWork order).aeu.latched.getLsbD 0 = true := by
  cases hfirst : order.frameFirst with
  | false =>
    rw [State.boundaryWork, State.latePart, hfirst]
    exact State.latchFrame_bit _
  | true =>
    have hmore := (((State.earlyPart_carriesOn (s := s) order).trans (State.expireFreeze_carriesOn _)).tolatchesMore.trans
      (State.boundaryWork_latchesMore order)).latched
    rw [hfirst] at hmore
    exact EventSet.getLsbD_of_or_eq hmore (State.latchFrame_bit _)

end Sys2Proof.Machine
end

section
/-! The panel after a frame boundary: the counter and the staged parts, the freeze, the operation that waited, and the blink
(R96, R99 to R101, R103, R106, R112, R115, R122). -/

namespace Sys2Proof.Machine

variable {s : State}

/-! ### SCR -/

/-- Of SCR only what a page change, a configuration, a commit and the blink touch may have changed. -/
def State.sameProgress (s t : State) : Prop :=
  t.scr = { s.scr with geometry := t.scr.geometry, plane := t.scr.plane, defaultFg := t.scr.defaultFg,
                       defaultBg := t.scr.defaultBg, blinkPeriod := t.scr.blinkPeriod, blinkOn := t.scr.blinkOn,
                       page := t.scr.page }

theorem State.sameProgress_of_scr {t : State} (h : t.scr = s.scr) : s.sameProgress t := by
  rw [State.sameProgress, h]

theorem State.sameProgress.trans {s t u : State} (h : s.sameProgress t) (k : t.sameProgress u) : s.sameProgress u := by
  unfold State.sameProgress at *
  rw [k, h]

theorem State.samePanelBut.progress {t : State} (h : s.samePanelBut t) : s.sameProgress t := by
  rw [State.sameProgress, h.scr]

theorem State.pageTaken.progress {t : State} {r : PendingPage} (h : s.pageTaken t r) : s.sameProgress t := by
  rw [State.sameProgress, h.scr]

theorem State.configurationTaken.progress {t : State} {c : PendingConfigure} (h : s.configurationTaken t c) :
    s.sameProgress t := by
  rw [State.sameProgress, h.scr]

/-- R106 step 1 on SCR. -/
theorem State.expireFreeze_scr (n : FrameNo) :
    (s.expireFreeze n).scr =
      if s.freezeDue n then { s.scr with frozen := false, freezeDeadline := none, timerHold := false } else s.scr := by
  unfold State.expireFreeze
  split
  · rw [State.latch_scr]; rfl
  · rfl

theorem State.started_freezeDue (n : FrameNo) : s.started.freezeDue n = s.freezeDue n := by
  apply State.freezeDue_congr <;> rw [State.started, State.startBoundary_scr]

theorem State.earlyPart_freezeDue (order : BoundaryOrder) (n : FrameNo) : (s.earlyPart order).freezeDue n = s.freezeDue n := by
  rw [← State.started_freezeDue (s := s)]
  apply State.freezeDue_congr <;> rw [(s.earlyPart_samePanel order).scr]

/-- SCR after R106 step 1. -/
theorem State.frozenPart_scr (order : BoundaryOrder) (n : FrameNo) :
    ((s.earlyPart order).expireFreeze n).scr = (s.started.expireFreeze n).scr := by
  rw [State.expireFreeze_scr, State.expireFreeze_scr, State.earlyPart_freezeDue, State.started_freezeDue,
    (s.earlyPart_samePanel order).scr]

/-! ### The operation that waits -/

/-- What a request that waits for a boundary can change of the panel is as before. -/
structure State.sameSettings (s t : State) : Prop where
  geometry : t.scr.geometry = s.scr.geometry
  defaultFg : t.scr.defaultFg = s.scr.defaultFg
  defaultBg : t.scr.defaultBg = s.scr.defaultBg
  blinkPeriod : t.scr.blinkPeriod = s.scr.blinkPeriod
  page : t.scr.page = s.scr.page
  msg : t.msg = s.msg
  replies : t.lnk.replies = s.lnk.replies
  ageLimit : t.pnt.ageLimit = s.pnt.ageLimit
  lagThreshold : t.pnt.lagThreshold = s.pnt.lagThreshold

theorem State.sameSettings.trans {s t u : State} (h : s.sameSettings t) (k : t.sameSettings u) : s.sameSettings u :=
  ⟨k.geometry.trans h.geometry, k.defaultFg.trans h.defaultFg, k.defaultBg.trans h.defaultBg,
    k.blinkPeriod.trans h.blinkPeriod, k.page.trans h.page, k.msg.trans h.msg, k.replies.trans h.replies,
    k.ageLimit.trans h.ageLimit, k.lagThreshold.trans h.lagThreshold⟩

theorem State.samePanelBut.settings {t : State} (h : s.samePanelBut t) : s.sameSettings t := by
  obtain ⟨hscr, hmsg, hreplies, hage, hthreshold⟩ := h
  refine ⟨?_, ?_, ?_, ?_, ?_, hmsg, hreplies, hage, hthreshold⟩ <;> rw [hscr]

theorem State.expireFreeze_settings (n : FrameNo) : s.sameSettings (s.expireFreeze n) := by
  unfold State.expireFreeze
  split <;> constructor <;> simp [State.endFreeze]

/-- Up to R106 step 1 no request that waits is taken. -/
theorem State.frozenPart_settings (order : BoundaryOrder) (n : FrameNo) :
    s.sameSettings ((s.earlyPart order).expireFreeze n) := by
  have hstarted : s.sameSettings s.started := by
    refine ⟨?_, ?_, ?_, ?_, ?_, rfl, rfl, rfl, rfl⟩ <;> rw [State.started, State.startBoundary_scr]
  exact hstarted.trans ((s.earlyPart_samePanel order).but.settings.trans (State.expireFreeze_settings n))

theorem State.frozenPart_heldFrozen (order : BoundaryOrder) (n : FrameNo) :
    ((s.earlyPart order).expireFreeze n).heldFrozen n ↔ s.heldFrozen n := by
  rw [State.heldFrozen, State.heldFrozen, State.frozenPart_scr, State.expireFreeze_scr, State.started_freezeDue]
  cases hdue : s.freezeDue n with
  | false => rw [if_neg Bool.false_ne_true, State.started, State.startBoundary_scr]
  | true =>
    have hlimit := (State.freezeDue_iff n).1 hdue
    simp [hlimit.2]

/-- R106 step 2 takes the one operation that waits, where the part is not frozen; otherwise nothing. -/
theorem State.pendingPart_cases (n : FrameNo) (hone : ∀ c, s.msg.pendingConfigure = some c → s.msg.pendingPage = none) :
    let e := s.expireFreeze n
    ((e.scr.frozen = true ∨ s.msg.pendingPage = none ∧ s.msg.pendingConfigure = none) ∧ s.pendingPart n = e) ∨
      (∃ r, e.scr.frozen = false ∧ s.msg.pendingPage = some r ∧ s.msg.pendingConfigure = none ∧
        e.pageTaken (s.pendingPart n) r) ∨
      ∃ c, e.scr.frozen = false ∧ s.msg.pendingPage = none ∧ s.msg.pendingConfigure = some c ∧
        e.configurationTaken (s.pendingPart n) c := by
  intro e
  have hmsg : e.msg = s.msg := (State.expireFreeze_settings n).msg
  rcases e.applyPendingPage_cases n with ⟨hnone, hpage⟩ | ⟨r, hfrozen, hr, hpage⟩
  · have hpart : s.pendingPart n = e.applyPendingConfigure n := congrArg (State.applyPendingConfigure · n) hpage
    rcases e.applyPendingConfigure_cases n with ⟨hnone', hconfigure⟩ | ⟨c, hfrozen, hc, hconfigure⟩
    · refine .inl ⟨?_, hpart.trans hconfigure⟩
      rw [hmsg] at hnone hnone'
      tauto
    · rw [hmsg] at hc
      refine .inr (.inr ⟨c, hfrozen, hone c hc, hc, ?_⟩)
      rw [hpart, hconfigure]
      exact e.applyConfigure_taken c n
  · have htaken := e.changePage_taken r n
    have hnone : s.msg.pendingConfigure = none := by
      rw [hmsg] at hr
      exact Option.eq_none_iff_forall_ne_some.2 fun c hc => nomatch hr.symm.trans (hone c hc)
    have hpart : s.pendingPart n = (e.changePage r n).applyPendingConfigure n :=
      congrArg (State.applyPendingConfigure · n) hpage
    have hrest : (e.changePage r n).applyPendingConfigure n = e.changePage r n := by
      rw [State.applyPendingConfigure, htaken.msg, hmsg, hnone]
    refine .inr (.inl ⟨r, hfrozen, hmsg ▸ hr, hnone, ?_⟩)
    rw [hpart, hrest]
    exact htaken

theorem State.pendingPart_progress (n : FrameNo) (hone : ∀ c, s.msg.pendingConfigure = some c → s.msg.pendingPage = none) :
    (s.expireFreeze n).sameProgress (s.pendingPart n) := by
  rcases State.pendingPart_cases n hone with ⟨-, h⟩ | ⟨r, -, -, -, h⟩ | ⟨c, -, -, -, h⟩
  · exact State.sameProgress_of_scr (by rw [h])
  · exact h.progress
  · exact h.progress

/-! ### The whole boundary -/

/-- At most one operation waits for a boundary (R111, R114). -/
def State.oneWaits (s : State) : Prop := ∀ c, s.msg.pendingConfigure = some c → s.msg.pendingPage = none

theorem State.screenLaw.oneWaits (h : s.screenLaw) : s.oneWaits := by
  obtain ⟨-, -, -, -, -, -, -, -, -, -, hone, -⟩ := h
  exact fun c hc => (hone c hc).1

theorem State.oneWaits.earlyPart (h : s.oneWaits) (order : BoundaryOrder) : (s.earlyPart order).oneWaits := by
  unfold State.oneWaits
  rw [(s.earlyPart_samePanel order).msg]
  exact h

/-- The counter, the staged parts and the freeze after a boundary are those after R106 step 1. -/
theorem State.boundaryWork_progress (order : BoundaryOrder) (hone : s.oneWaits) :
    (s.started.expireFreeze s.boundaryNumber).sameProgress (s.boundaryWork order) :=
  (State.sameProgress_of_scr (State.frozenPart_scr order _)).trans <|
    (State.pendingPart_progress _ (hone.earlyPart order)).trans (s.boundaryWork_samePanelBut order).progress

/-- The freeze holds at a boundary where it stands after R106 step 1. -/
theorem State.heldFrozen_of_frozenPart {order : BoundaryOrder} {n : FrameNo}
    (h : ((s.earlyPart order).expireFreeze n).scr.frozen = true) : s.heldFrozen n := by
  rw [State.expireFreeze_scr] at h
  split at h
  · exact nomatch h
  · rename_i hdue
    rw [State.earlyPart_freezeDue, Bool.not_eq_true] at hdue
    refine (s.heldFrozen_iff n).2 ⟨?_, hdue⟩
    rw [(s.earlyPart_samePanel order).scr, State.started, State.startBoundary_scr] at h
    exact h

theorem State.frozenPart_of_heldFrozen {order : BoundaryOrder} {n : FrameNo} (h : s.heldFrozen n) :
    ((s.earlyPart order).expireFreeze n).scr.frozen = true :=
  (State.frozenPart_heldFrozen order n |>.2 h).1

/-- No operation is taken at the boundary (R106 step 2). -/
def State.nothingApplied (s : State) (n : FrameNo) : Prop :=
  s.heldFrozen n ∨ (s.msg.pendingPage = none ∧ s.msg.pendingConfigure = none)

/-- R106 steps 1 and 2 of the boundary, as the panel before it says what waits. -/
theorem State.boundary_cases (order : BoundaryOrder) (hone : s.oneWaits) :
    let n := s.boundaryNumber
    let e := (s.earlyPart order).expireFreeze n
    let x := (s.earlyPart order).pendingPart n
    (s.nothingApplied n ∧ x = e) ∨
      (∃ r, ¬s.heldFrozen n ∧ s.msg.pendingPage = some r ∧ s.msg.pendingConfigure = none ∧ e.pageTaken x r) ∨
      ∃ c, ¬s.heldFrozen n ∧ s.msg.pendingPage = none ∧ s.msg.pendingConfigure = some c ∧ e.configurationTaken x c := by
  intro n e x
  have hfree : e.scr.frozen = false → ¬s.heldFrozen n := fun hfrozen hheld =>
    absurd ((State.frozenPart_of_heldFrozen hheld).symm.trans hfrozen) (by decide)
  have hmsg : (s.earlyPart order).msg = s.msg := (s.earlyPart_samePanel order).msg
  rcases State.pendingPart_cases n (hone.earlyPart order) with ⟨hnone, h⟩ | ⟨r, hfrozen, hr, hc, h⟩ | ⟨c, hfrozen, hr, hc, h⟩
  · exact .inl ⟨hnone.imp State.heldFrozen_of_frozenPart fun hnone => hmsg ▸ hnone, h⟩
  · exact .inr (.inl ⟨r, hfree hfrozen, hmsg ▸ hr, hmsg ▸ hc, h⟩)
  · exact .inr (.inr ⟨c, hfree hfrozen, hmsg ▸ hr, hmsg ▸ hc, h⟩)

theorem State.pendingPart_of_nothingApplied (order : BoundaryOrder) (hone : s.oneWaits)
    (h : s.nothingApplied s.boundaryNumber) :
    (s.earlyPart order).pendingPart s.boundaryNumber = (s.earlyPart order).expireFreeze s.boundaryNumber := by
  rcases State.boundary_cases order hone with ⟨-, hpart⟩ | ⟨r, hfree, hr, -⟩ | ⟨c, hfree, -, hc, -⟩
  · exact hpart
  · exact (h.elim hfree fun hnone => nomatch hr.symm.trans hnone.1).elim
  · exact (h.elim hfree fun hnone => nomatch hc.symm.trans hnone.2).elim

/-- A boundary that applies nothing changes no setting. -/
theorem State.boundaryWork_settings (order : BoundaryOrder) (hone : s.oneWaits) (h : s.nothingApplied s.boundaryNumber) :
    s.sameSettings (s.boundaryWork order) := by
  have hlate := (s.boundaryWork_samePanelBut order).settings
  rw [State.pendingPart_of_nothingApplied order hone h] at hlate
  exact (State.frozenPart_settings order _).trans hlate

/-- A boundary takes the page change that waits (R106, R112, R113). -/
theorem State.boundaryWork_page (order : BoundaryOrder) (hone : s.oneWaits) {p : PendingPage}
    (hp : s.msg.pendingPage = some p) (hfree : ¬s.heldFrozen s.boundaryNumber) :
    let w := s.boundaryWork order
    w.msg.pendingPage = none ∧ w.scr.page = p.page ∧
      ∃ count placed, w.lnk.replies = s.lnk.replies ++ [⟨0x86, p.tag, p.page.zeroExtend 8 :: count, placed⟩] := by
  intro w
  have hlate := (s.boundaryWork_samePanelBut order).settings
  have hearly := State.frozenPart_settings (s := s) order s.boundaryNumber
  rcases State.boundary_cases order hone with ⟨hnothing, -⟩ | ⟨r, -, hr, -, htaken⟩ | ⟨c, -, hnone, -⟩
  · exact (hnothing.elim hfree fun hnone => nomatch hp.symm.trans hnone.1).elim
  · obtain rfl := Option.some.inj (hp.symm.trans hr)
    obtain ⟨count, placed, hreplies⟩ := htaken.replies
    refine ⟨by rw [hlate.msg, htaken.msg], by rw [hlate.page, htaken.scr], count, placed, ?_⟩
    rw [hlate.replies, hreplies, hearly.replies]
  · exact nomatch hp.symm.trans hnone

/-- A boundary takes the configuration that waits (R106, R115, R117). -/
theorem State.boundaryWork_configuration (order : BoundaryOrder) (hone : s.oneWaits) {c : PendingConfigure}
    (hc : s.msg.pendingConfigure = some c) (hfree : ¬s.heldFrozen s.boundaryNumber) :
    let w := s.boundaryWork order
    w.msg.pendingConfigure = none ∧ w.scr.geometry = c.geometry ∧ w.scr.defaultFg = c.fg ∧ w.scr.defaultBg = c.bg ∧
      w.scr.blinkPeriod = c.blinkPeriod ∧ w.pnt.ageLimit = c.ageLimit ∧ w.pnt.lagThreshold = c.lagThreshold ∧
      ∃ count placed, w.lnk.replies = s.lnk.replies ++ [⟨0x83, c.tag, c.geometry.code :: count, placed⟩] := by
  intro w
  have hlate := (s.boundaryWork_samePanelBut order).settings
  have hearly := State.frozenPart_settings (s := s) order s.boundaryNumber
  rcases State.boundary_cases order hone with ⟨hnothing, -⟩ | ⟨r, -, -, hnone, -⟩ | ⟨d, -, -, hd, htaken⟩
  · exact (hnothing.elim hfree fun hnone => nomatch hc.symm.trans hnone.2).elim
  · exact nomatch hc.symm.trans hnone
  · obtain rfl := Option.some.inj (hc.symm.trans hd)
    obtain ⟨count, placed, hreplies⟩ := htaken.replies
    refine ⟨by rw [hlate.msg, htaken.msg], by rw [hlate.geometry, htaken.scr], by rw [hlate.defaultFg, htaken.scr],
      by rw [hlate.defaultBg, htaken.scr], by rw [hlate.blinkPeriod, htaken.scr], hlate.ageLimit.trans htaken.ageLimit,
      hlate.lagThreshold.trans htaken.lagThreshold, count, placed, ?_⟩
    rw [hlate.replies, hreplies, hearly.replies]

/-! ### The blink (R101) -/

theorem State.periodFrom_of_nothingWaits {n : FrameNo} (h : s.msg.pendingConfigure = none) :
    s.periodFrom n s.scr.blinkPeriod :=
  ⟨fun _ hc => (nomatch hc.symm.trans h), fun _ => rfl⟩

/-- The blink is judged against the period in effect from the boundary, which the operation that it takes has set. -/
theorem State.pendingPart_periodFrom (order : BoundaryOrder) (hone : s.oneWaits) {period : Nat}
    (h : s.periodFrom s.boundaryNumber period) :
    ((s.earlyPart order).pendingPart s.boundaryNumber).periodFrom s.boundaryNumber period := by
  obtain ⟨happlied, hcurrent⟩ := h
  have hearly := State.frozenPart_settings (s := s) order s.boundaryNumber
  rcases State.boundary_cases order hone with ⟨-, hpart⟩ | ⟨r, -, -, hnone, htaken⟩ | ⟨c, hfree, -, hc, htaken⟩
  · rw [hpart, State.periodFrom, hearly.msg, hearly.blinkPeriod, State.frozenPart_heldFrozen]
    exact ⟨happlied, hcurrent⟩
  · have hperiod : period = ((s.earlyPart order).pendingPart s.boundaryNumber).scr.blinkPeriod := by
      rw [htaken.scr, hcurrent (.inl hnone)]
      exact hearly.blinkPeriod.symm
    rw [hperiod]
    refine State.periodFrom_of_nothingWaits ?_
    rw [htaken.msg, hearly.msg]
    exact hnone
  · have hperiod : period = ((s.earlyPart order).pendingPart s.boundaryNumber).scr.blinkPeriod := by
      rw [htaken.scr, happlied c hc hfree]
    rw [hperiod]
    exact State.periodFrom_of_nothingWaits (by rw [htaken.msg])

theorem State.periodFrom_congr {t : State} {n : FrameNo} {period : Nat} (hscr : t.scr = s.scr) (hmsg : t.msg = s.msg)
    (h : s.periodFrom n period) : t.periodFrom n period := by
  rw [State.periodFrom, State.heldFrozen, hscr, hmsg]
  exact h

theorem State.commitSlot_blinkOn (n : FrameNo) (k : Nat) : (s.commitSlot n k).scr.blinkOn = s.scr.blinkOn := by
  rcases s.commitSlot_cases n k with h | ⟨m, r, f, -, -, h | h⟩ <;> rw [h]
  · rfl
  · rw [State.release_scr]; rfl

theorem State.latePart_blinkOn (order : BoundaryOrder) (n : FrameNo) :
    (s.latePart order n).scr.blinkOn = s.scr.blinkOn := by
  have hslots : ∀ l (u : State), (u.commitSlots n l).scr.blinkOn = u.scr.blinkOn := by
    intro l
    induction l with
    | nil => exact fun u => rfl
    | cons k rest ih => exact fun u => (ih _).trans (State.commitSlot_blinkOn n k)
  have hcommitted : (s.commitAll n).scr.blinkOn = s.scr.blinkOn := by
    unfold State.commitAll
    split
    · rfl
    · exact hslots _ s
  rw [State.latePart, (State.latchFrameIf_samePanel _ _ n).scr, (State.takeExpiries_samePanel _ n).scr, hcommitted]

/-- R106 steps 1 and 2 leave the blink phase alone. -/
theorem State.pendingPart_blinkOn (order : BoundaryOrder) (hone : s.oneWaits) :
    ((s.earlyPart order).pendingPart s.boundaryNumber).scr.blinkOn = s.scr.blinkOn := by
  have hearly : ((s.earlyPart order).expireFreeze s.boundaryNumber).scr.blinkOn = s.scr.blinkOn := by
    rw [State.frozenPart_scr, State.expireFreeze_scr]
    split <;> rw [State.started, State.startBoundary_scr]
  rcases State.boundary_cases order hone with ⟨-, h⟩ | ⟨r, -, -, -, h⟩ | ⟨c, -, -, -, h⟩
  · rw [h, hearly]
  · rw [h.scr]; exact hearly
  · rw [h.scr]; exact hearly

/-- The record of the boundary that the blink's part finds. -/
theorem State.judged_boundary (order : BoundaryOrder) :
    ∃ b, ((s.earlyPart order).pendingPart s.boundaryNumber).age.boundary = some b ∧ b.toggled = s.begun.toggled := by
  have hcarries := (State.latchFrameIf_carriesOn (s := s.started) order.frameFirst s.boundaryNumber).trans <|
    (State.earlyPart_carriesOn order).trans <| (State.expireFreeze_carriesOn s.boundaryNumber).trans <|
    (State.pendingPart_carriesOn s.boundaryNumber).trans State.age_carriesOn
  have htoggled := hcarries.toggled
  rw [show s.started.boundary = some s.begun from rfl, Option.map_some, Option.map_eq_some_iff] at htoggled
  exact htoggled

/-- The blink toggles at a boundary whose number is a multiple of the period, unless it has been judged ahead. -/
theorem State.boundaryWork_blinkOn (order : BoundaryOrder) (hone : s.oneWaits) (hfresh : s.begun.toggled = false)
    {period : Nat} (h : s.periodFrom s.boundaryNumber period) :
    (s.boundaryWork order).scr.blinkOn =
      if s.boundaryNumber.toNat % period = 0 then !s.scr.blinkOn else s.scr.blinkOn := by
  obtain ⟨b, hb, htoggled⟩ := State.judged_boundary (s := s) order
  have hage := State.age_samePanel ((s.earlyPart order).pendingPart s.boundaryNumber)
  have hfrom := State.periodFrom_congr hage.scr hage.msg (State.pendingPart_periodFrom order hone h)
  rw [State.boundaryWork, State.latePart_blinkOn, State.judgeBlink_of_untoggled _ hb (htoggled.trans hfresh)]
  dsimp only
  rw [State.togglesAt_of_periodFrom hfrom, hage.scr, State.pendingPart_blinkOn order hone]
  split
  · rename_i hmultiple
    rw [hmultiple]
    exact Bool.bne_true _
  · rename_i hother
    rw [beq_false_of_ne hother]
    exact Bool.bne_false _

theorem State.boundaryWork_blinkOn_of_toggled (order : BoundaryOrder) (hone : s.oneWaits)
    (hjudged : s.begun.toggled = true) : (s.boundaryWork order).scr.blinkOn = s.scr.blinkOn := by
  obtain ⟨b, hb, htoggled⟩ := State.judged_boundary (s := s) order
  rw [State.boundaryWork, State.latePart_blinkOn, State.judgeBlink_of_toggled _ hb (htoggled.trans hjudged),
    (State.age_samePanel _).scr, State.pendingPart_blinkOn order hone]

end Sys2Proof.Machine
end

section
/-! One field at a boundary that applies no page and no configuration: what FTU's examination makes of its record, and what the
other parts leave of it (R107, R109, R125 to R129). -/

namespace Sys2Proof.Machine

variable {s : State} {m : Nat} {n : FrameNo}

/-! ### Commits by kind -/

/-- A VALUE commit rewrites its field, and a BLANK commit frees it (R107, R109). -/
theorem State.commitSlot_cases_of_kind (n : FrameNo) (k : Nat) :
    s.commitSlot n k = s ∨ ∃ j r f, (k, ⟨some j, .ready r⟩) ∈ s.pnt.slots ∧ s.field? j = some f ∧
      ((r.kind = .value ∧ s.commitSlot n k = (s.putCells k f r).putField j (f.committed r n)) ∨
        (r.kind = .blank ∧ s.commitSlot n k = (s.putCells k f r).release j n)) := by
  unfold State.commitSlot
  split
  case h_2 => exact .inl rfl
  case h_1 j r hslot =>
    split
    case h_2 => exact .inl rfl
    case h_1 f hf =>
      refine .inr ⟨j, r, f, Store.mem_of_find? hslot, hf, ?_⟩
      cases hkind : r.kind
      · exact .inl ⟨rfl, rfl⟩
      · exact .inr ⟨rfl, rfl⟩

/-! ### The queue under one request and one removal -/

theorem State.mem_scanOrder_of_enqueue {j : Nat} (u : Bool) (h : m ∈ s.scanOrder) :
    m ∈ (s.enqueueAtBoundary j u).scanOrder := by
  rw [State.mem_scanOrder_iff] at h ⊢
  rw [State.enqueueAtBoundary_pnt]
  rcases s.enqueue_pnt_cases j u with ⟨hpnt, -⟩ | ⟨f, -, -, -, ⟨-, -, hpnt⟩ | ⟨-, hpnt⟩⟩ <;> rw [hpnt]
  · exact h
  · rw [Paint.promote]
    by_cases hj : m = j
    · exact .inl (by simp [hj])
    · refine h.imp (List.mem_append_left _) fun hroutine => ?_
      obtain ⟨e, he, rfl⟩ := List.mem_map.1 hroutine
      exact List.mem_map_of_mem (List.mem_filter.2 ⟨he, by simpa using hj⟩)
  · rw [Paint.append]
    cases u || f.options.urgent
    · refine h.imp id fun hroutine => ?_
      dsimp only
      rw [if_neg Bool.false_ne_true, List.map_append]
      exact List.mem_append_left _ hroutine
    · exact h.imp (List.mem_append_left _) id

/-- A visible field that is asked for is in the queue (R66). -/
theorem State.mem_scanOrder_of_asked {f : Field} (u : Bool) (hf : s.field? m = some f) (hv : s.shows f = true) :
    m ∈ (s.enqueueAtBoundary m u).scanOrder := by
  rw [State.mem_scanOrder_iff, State.enqueueAtBoundary_pnt]
  rcases s.enqueue_pnt_cases m u with ⟨hpnt, hin⟩ | ⟨g, -, -, -, ⟨-, -, hpnt⟩ | ⟨-, hpnt⟩⟩ <;> rw [hpnt]
  · exact (hin f hf hv).imp id And.left
  · exact .inl (by simp [Paint.promote])
  · rw [Paint.append]
    cases u || g.options.urgent
    · exact .inr (by simp)
    · exact .inl (by simp)

theorem State.mem_scanOrder_of_release {j : Nat} (hne : m ≠ j) (h : m ∈ s.scanOrder) : m ∈ (s.release j n).scanOrder := by
  have hremoved : m ∈ (s.removeEntry j n).scanOrder := by
    rw [State.removeEntry_scanOrder]
    exact List.mem_filter.2 ⟨h, by simpa using hne⟩
  exact hremoved

/-! ### What a part leaves of a field -/

/-- No READY slot waits to be committed for a field. -/
def State.uncommitted (s : State) (m : Nat) : Prop := ∀ k r, (k, ⟨some m, .ready r⟩) ∉ s.pnt.slots

/-- FTU has examined a field at the boundary, or expiries are held at it (R125, R126). -/
def State.passed (s : State) (m : Nat) : Prop := ∃ b, s.boundary = some b ∧ (b.held = true ∨ m < b.examined)

/-- FTU has a field still to examine at the boundary. -/
def State.awaits (s : State) (m : Nat) : Prop := ∃ b, s.boundary = some b ∧ b.held = false ∧ b.examined ≤ m

theorem State.not_awaits_of_passed (h : s.passed m) : ¬s.awaits m := by
  obtain ⟨b, hb, hpast⟩ := h
  rintro ⟨c, hc, hheld, hlow⟩
  obtain rfl := Option.some.inj (hb.symm.trans hc)
  exact hpast.elim (fun h => absurd (h.symm.trans hheld) (by decide)) fun h => by omega

/-- A change of state that leaves a field's record and FTU's place in its examination, and takes it from no list. -/
structure State.leavesRecord (s t : State) (m : Nat) : Prop where
  record : t.field? m = s.field? m
  page : t.scr.page = s.scr.page
  uncommitted : s.uncommitted m → t.uncommitted m
  queued : m ∈ s.scanOrder → m ∈ t.scanOrder
  passed : s.passed m → t.passed m
  awaits : s.awaits m → t.awaits m

theorem State.leavesRecord.trans {s t u : State} (h : s.leavesRecord t m) (k : t.leavesRecord u m) : s.leavesRecord u m :=
  ⟨k.record.trans h.record, k.page.trans h.page, fun a => k.uncommitted (h.uncommitted a), fun a => k.queued (h.queued a),
    fun a => k.passed (h.passed a), fun a => k.awaits (h.awaits a)⟩

theorem State.leavesRecord_of_boundary {t : State} (hrecord : t.field? m = s.field? m) (hpage : t.scr.page = s.scr.page)
    (huncommitted : s.uncommitted m → t.uncommitted m) (hqueued : m ∈ s.scanOrder → m ∈ t.scanOrder)
    (hboundary : t.boundary = s.boundary) : s.leavesRecord t m :=
  ⟨hrecord, hpage, huncommitted, hqueued, by unfold State.passed; rw [hboundary]; exact id, by
    unfold State.awaits; rw [hboundary]; exact id⟩

theorem State.leavesRecord_of_eq {t : State} (hfields : t.fields = s.fields) (hpage : t.scr.page = s.scr.page)
    (hpnt : t.pnt = s.pnt) (hboundary : t.boundary = s.boundary) : s.leavesRecord t m :=
  State.leavesRecord_of_boundary (congrArg (Store.find? m) hfields) hpage (by
    unfold State.uncommitted; rw [hpnt]; exact id) (by unfold State.scanOrder; rw [hpnt]; exact id) hboundary

theorem State.leavesRecord_refl (s : State) (m : Nat) : s.leavesRecord s m := State.leavesRecord_of_eq rfl rfl rfl rfl

theorem State.latchFrameIf_leavesRecord (now : Bool) : s.leavesRecord (s.latchFrameIf now n) m := by
  unfold State.latchFrameIf
  split
  · exact State.leavesRecord_of_eq (by simp) (by simp) (by simp) (by simp)
  · exact s.leavesRecord_refl m

theorem State.expireFreeze_leavesRecord : s.leavesRecord (s.expireFreeze n) m := by
  unfold State.expireFreeze
  split
  · exact State.leavesRecord_of_eq (by simp [State.endFreeze]) (by simp [State.endFreeze]) (by simp [State.endFreeze]) (by
      simp [State.endFreeze])
  · exact s.leavesRecord_refl m

theorem State.age_leavesRecord : s.leavesRecord s.age m := by
  have hqueued : m ∈ s.scanOrder → m ∈ s.age.scanOrder := (s.age_scan_perm).mem_iff.2
  cases hb : s.boundary with
  | none => rw [State.age, hb]; exact s.leavesRecord_refl m
  | some b =>
    cases haged : b.aged with
    | true => rw [State.age_of_aged hb haged]; exact s.leavesRecord_refl m
    | false =>
      rw [State.age_of_unaged hb haged] at hqueued ⊢
      refine ⟨rfl, rfl, id, hqueued, ?_, ?_⟩
      · rintro ⟨c, hc, hpast⟩
        obtain rfl := Option.some.inj (hb.symm.trans hc)
        exact ⟨_, rfl, hpast⟩
      · rintro ⟨c, hc, hstill⟩
        obtain rfl := Option.some.inj (hb.symm.trans hc)
        exact ⟨_, rfl, hstill⟩

theorem State.judgeBlink_leavesRecord : s.leavesRecord (s.judgeBlink n) m := by
  cases hb : s.boundary with
  | none =>
    rw [State.judgeBlink, hb]
    exact State.leavesRecord_of_eq rfl rfl rfl hb.symm
  | some b =>
    cases ht : b.toggled with
    | true => rw [State.judgeBlink_of_toggled n hb ht]; exact s.leavesRecord_refl m
    | false =>
      rw [State.judgeBlink_of_untoggled n hb ht]
      refine ⟨rfl, rfl, id, id, ?_, ?_⟩
      · rintro ⟨c, hc, hpast⟩
        obtain rfl := Option.some.inj (hb.symm.trans hc)
        exact ⟨_, rfl, hpast⟩
      · rintro ⟨c, hc, hstill⟩
        obtain rfl := Option.some.inj (hb.symm.trans hc)
        exact ⟨_, rfl, hstill⟩

theorem State.putCells_leavesRecord (k : Nat) (f : Field) (r : Rendered) : s.leavesRecord (s.putCells k f r) m :=
  State.leavesRecord_of_boundary rfl rfl (fun h j q hq => h j q (Store.mem_erase hq)) id rfl

theorem State.putField_leavesRecord {j : Nat} (g : Field) (hne : m ≠ j) : s.leavesRecord (s.putField j g) m :=
  State.leavesRecord_of_boundary (s.putField_otherFieldsKept j g m hne) rfl id id rfl

theorem State.release_leavesRecord {j : Nat} (hne : m ≠ j) : s.leavesRecord (s.release j n) m := by
  refine State.leavesRecord_of_boundary ?_ (by simp) (fun h k r hk => ?_) (State.mem_scanOrder_of_release hne)
    (by simp [State.release])
  · rw [State.field?, State.release_fields]
    exact Store.find?_erase_ne hne _
  · rw [State.release_slots] at hk
    exact h k r (abandonSlots_owner hk rfl).1

/-- The commits are of other fields' slots. -/
theorem State.commitSlot_leavesRecord (k : Nat) (h : s.uncommitted m) : s.leavesRecord (s.commitSlot n k) m := by
  rcases s.commitSlot_cases_of_kind n k with hsame | ⟨j, r, f, hslot, -, ⟨-, hput⟩ | ⟨-, hfreed⟩⟩
  · rw [hsame]; exact s.leavesRecord_refl m
  · have hne : m ≠ j := by rintro rfl; exact h k r hslot
    rw [hput]
    exact (State.putCells_leavesRecord k f r).trans (State.putField_leavesRecord _ hne)
  · have hne : m ≠ j := by rintro rfl; exact h k r hslot
    rw [hfreed]
    exact (State.putCells_leavesRecord k f r).trans (State.release_leavesRecord hne)

theorem State.commitAll_leavesRecord (h : s.uncommitted m) : s.leavesRecord (s.commitAll n) m := by
  have hslots : ∀ l (u : State), u.uncommitted m → u.leavesRecord (u.commitSlots n l) m := by
    intro l
    induction l with
    | nil => exact fun u _ => u.leavesRecord_refl m
    | cons k rest ih =>
      exact fun u hu =>
        have hfirst := State.commitSlot_leavesRecord k hu
        hfirst.trans (ih _ (hfirst.uncommitted hu))
  unfold State.commitAll
  split
  · exact s.leavesRecord_refl m
  · exact hslots _ s h

/-! ### FTU's examination -/

theorem Field.expired_of_not_expires {f : Field} (h : f.expires n = false) : f.expired n = f := by
  rw [Field.expires, Bool.or_eq_false_iff] at h
  simp [Field.expired, h.1, h.2]

/-- Every deadline reached is absent after the expiry. -/
theorem Field.expired_not_expires (f : Field) (n : FrameNo) : (f.expired n).expires n = false := by
  cases hstale : dueAt f.staleDeadline n <;> cases hflash : dueAt f.flashDeadline n <;>
    simp [Field.expires, Field.expired, hstale, hflash, show dueAt none n = false from rfl]

theorem Field.expired_expired (f : Field) (n : FrameNo) : (f.expired n).expired n = f.expired n :=
  Field.expired_of_not_expires (f.expired_not_expires n)

/-- The part with a field's expiries taken and its STALE watch record handed over (R127, R128). -/
def State.expiryTaken (s : State) (m : Nat) (f : Field) (n : FrameNo) : State :=
  let put := s.putField m (f.expired n)
  if f.handsStale n then { put with aeu := { put.aeu with watchList := addWatch ⟨m, .stale, n⟩ put.aeu.watchList } } else put

theorem State.expireField_eq (m : Nat) (f : Field) (n : FrameNo) :
    s.expireField m f n =
      ((s.expiryTaken m f n).enqueueAtBoundary m false).latchOpen
        [if f.handsStale n then watchChange ⟨m, .stale, n⟩ s.aeu.watchList else [],
          lagChange (s.expiryTaken m f n) ((s.expiryTaken m f n).enqueueAtBoundary m false)] n := rfl

/-- Taking the expiries changes the record and the watch list alone. -/
theorem State.expiryTaken_eq (m : Nat) (f : Field) (n : FrameNo) :
    s.expiryTaken m f n = { s.putField m (f.expired n) with aeu := (s.expiryTaken m f n).aeu } := by
  unfold State.expiryTaken
  dsimp only
  split <;> rfl

theorem State.expireField_field? (j : Nat) (f : Field) (n : FrameNo) :
    (s.expireField j f n).field? m = (s.putField j (f.expired n)).field? m := by
  rw [State.expireField_eq, State.field?, State.latchOpen_fields, State.enqueueAtBoundary_fields, State.expiryTaken_eq]
  rfl

theorem State.expireField_pnt (j : Nat) (f : Field) (n : FrameNo) :
    (s.expireField j f n).pnt = ((s.expiryTaken j f n).enqueueAtBoundary j false).pnt := by
  rw [State.expireField_eq, State.latchOpen_pnt]

theorem State.expireField_boundary (j : Nat) (f : Field) (n : FrameNo) :
    (s.expireField j f n).boundary = ((s.expiryTaken j f n).enqueueAtBoundary j false).boundary := by
  rw [State.expireField_eq, State.latchOpen_boundary]

/-- A request at a boundary changes the boundary's record by its fresh entries alone. -/
theorem State.enqueueAtBoundary_boundary {b : Boundary} (j : Nat) (u : Bool) (hb : s.boundary = some b) :
    ∃ fresh, (s.enqueueAtBoundary j u).boundary = some { b with fresh := fresh } := by
  unfold State.enqueueAtBoundary
  dsimp only
  split
  · exact ⟨b.fresh, by simp [hb]⟩
  · exact ⟨j :: b.fresh, by simp [hb]⟩

/-- What an examination leaves of a field, where its own expiries are among those taken, or not. -/
structure State.examinesFor (s t : State) (m : Nat) (n : FrameNo) (own : Prop) : Prop where
  taken : own → t.field? m = (s.field? m).map (Field.expired · n)
  other : ¬own → t.field? m = s.field? m
  page : t.scr.page = s.scr.page
  slots : t.pnt.slots = s.pnt.slots
  queued : m ∈ s.scanOrder → m ∈ t.scanOrder
  asked : own → ∀ f, s.field? m = some f → f.expires n = true → s.shows f = true → m ∈ t.scanOrder
  boundary : ∀ b, s.boundary = some b → ∃ fresh, t.boundary = some { b with fresh := fresh }

theorem State.examinesFor_refl (s : State) (m : Nat) (n : FrameNo) : s.examinesFor s m n False :=
  ⟨False.elim, fun _ => rfl, rfl, rfl, id, False.elim, fun b hb => ⟨b.fresh, hb⟩⟩

theorem State.examinesFor.trans {t u : State} {p q : Prop} (h : s.examinesFor t m n p) (k : t.examinesFor u m n q) :
    s.examinesFor u m n (p ∨ q) where
  taken hown := by
    by_cases hq : q
    · rw [k.taken hq]
      by_cases hp : p
      · rw [h.taken hp, Option.map_map]
        exact Option.map_congr fun f _ => f.expired_expired n
      · rw [h.other hp]
    · rw [k.other hq, h.taken (hown.resolve_right hq)]
  other hnone := by
    obtain ⟨hp, hq⟩ := not_or.1 hnone
    rw [k.other hq, h.other hp]
  page := k.page.trans h.page
  slots := k.slots.trans h.slots
  queued hm := k.queued (h.queued hm)
  asked hown f hf he hv := by
    by_cases hp : p
    · exact k.queued (h.asked hp f hf he hv)
    · refine k.asked (hown.resolve_left hp) f ((h.other hp).trans hf) he ?_
      rw [State.shows, h.page]
      exact hv
  boundary b hb := by
    obtain ⟨fresh, ht⟩ := h.boundary b hb
    obtain ⟨fresh', hu⟩ := k.boundary _ ht
    exact ⟨fresh', hu⟩

theorem State.expireField_examinesFor {j : Nat} {f : Field} (hf : s.field? j = some f) :
    s.examinesFor (s.expireField j f n) m n (m = j) where
  taken hown := by
    subst hown
    rw [State.expireField_field?, State.putField_field?_self, hf, Option.map_some]
  other hne := by rw [State.expireField_field?, s.putField_otherFieldsKept j _ m hne]
  page := by rw [(s.expireField_samePanel j f n).scr]
  slots := by rw [State.expireField_pnt, State.enqueueAtBoundary_pnt.slots, State.expiryTaken_eq]; rfl
  queued hm := by
    rw [State.scanOrder, State.expireField_pnt]
    refine State.mem_scanOrder_of_enqueue false ?_
    rw [State.expiryTaken_eq]
    exact hm
  asked hown g hg _ hv := by
    subst hown
    obtain rfl := Option.some.inj (hf.symm.trans hg)
    rw [State.scanOrder, State.expireField_pnt]
    refine State.mem_scanOrder_of_asked (f := f.expired n) false ?_ ?_ <;> rw [State.expiryTaken_eq]
    · exact s.putField_field?_self m _
    · exact hv
  boundary b hb := by
    rw [State.expireField_boundary]
    exact State.enqueueAtBoundary_boundary j false (by rw [State.expiryTaken_eq]; exact hb)

theorem State.examine_examinesFor (j : Nat) : s.examinesFor (s.examine n j) m n (m = j) := by
  have hidle : (m = j → ∀ f, s.field? m = some f → f.expires n = false) → s.examinesFor s m n (m = j) := fun hdue =>
    { taken := fun hown => by
        cases hf : s.field? m with
        | none => rfl
        | some f => rw [Option.map_some, Field.expired_of_not_expires (hdue hown f hf)]
      other := fun _ => rfl
      page := rfl
      slots := rfl
      queued := id
      asked := fun hown f hf he => absurd (he.symm.trans (hdue hown f hf)) (by decide)
      boundary := fun b hb => ⟨b.fresh, hb⟩ }
  unfold State.examine
  split
  · rename_i f hf
    split
    · exact State.expireField_examinesFor hf
    · rename_i hdue
      refine hidle fun hown g hg => ?_
      subst hown
      obtain rfl := Option.some.inj (hf.symm.trans hg)
      exact Bool.not_eq_true _ ▸ hdue
  · rename_i hnone
    exact hidle fun hown g hg => nomatch (hown ▸ hnone : s.field? m = none).symm.trans hg

theorem State.examineAll_examinesFor (l : List Nat) : s.examinesFor (s.examineAll n l) m n (m ∈ l) := by
  induction l generalizing s with
  | nil =>
    have h := s.examinesFor_refl m n
    rwa [show False ↔ m ∈ ([] : List Nat) by simp] at h
  | cons j rest ih =>
    have h := (State.examine_examinesFor (s := s) (m := m) (n := n) j).trans ih
    rwa [← List.mem_cons] at h

/-- A field that FTU has passed, or for which expiries are held, is left alone. -/
theorem State.takeExpiries_leavesRecord (hm : m < 512) (h : s.passed m) : s.leavesRecord (s.takeExpiries n) m := by
  have hwaits : ∀ t : State, s.awaits m → t.awaits m := fun t hs => absurd hs (State.not_awaits_of_passed h)
  obtain ⟨b, hb, hpast⟩ := h
  unfold State.takeExpiries
  rw [hb]
  dsimp only
  split
  · rename_i hheld
    exact ⟨rfl, rfl, id, id, fun _ => ⟨{ b with examined := fieldCount }, by rw [State.markExamined, hb]; rfl, .inl hheld⟩,
      hwaits _⟩
  · rename_i hheld
    have hpassed := hpast.resolve_left hheld
    have hexamined := State.examineAll_examinesFor (s := s) (m := m) (n := n) (s.numbers.filter fun j => b.examined ≤ j)
    obtain ⟨fresh, hfresh⟩ := hexamined.boundary b hb
    have hnot : m ∉ s.numbers.filter fun j => b.examined ≤ j := fun hin => by
      have := (List.mem_filter.1 hin).2
      simp only [decide_eq_true_eq] at this
      omega
    refine ⟨hexamined.other hnot, hexamined.page, fun hs => ?_, hexamined.queued,
      fun _ => ⟨_, by rw [State.markExamined, hfresh]; rfl, .inr hm⟩, hwaits _⟩
    unfold State.uncommitted
    rw [show ((s.examineAll n (s.numbers.filter fun j => b.examined ≤ j)).markExamined fieldCount).pnt.slots = s.pnt.slots
      from hexamined.slots]
    exact hs

/-- What FTU's whole part of a boundary leaves of a field that it had still to examine. -/
structure State.examinesRecord (s t : State) (m : Nat) (n : FrameNo) : Prop where
  record : t.field? m = (s.field? m).map (Field.expired · n)
  page : t.scr.page = s.scr.page
  uncommitted : s.uncommitted m → t.uncommitted m
  asked : ∀ f, s.field? m = some f → f.expires n = true → s.shows f = true → m ∈ t.scanOrder
  passed : t.passed m

theorem State.takeExpiries_examinesRecord (hm : m < 512) (h : s.awaits m) : s.examinesRecord (s.takeExpiries n) m n := by
  obtain ⟨b, hb, hheld, hlow⟩ := h
  have hexamined := State.examineAll_examinesFor (s := s) (m := m) (n := n) (s.numbers.filter fun j => b.examined ≤ j)
  obtain ⟨fresh, hfresh⟩ := hexamined.boundary b hb
  have hin : ∀ f, s.field? m = some f → m ∈ s.numbers.filter fun j => b.examined ≤ j := fun f hf =>
    List.mem_filter.2 ⟨List.mem_map_of_mem (Store.mem_of_find? hf), by simpa using hlow⟩
  have htaken : s.takeExpiries n = (s.examineAll n (s.numbers.filter fun j => b.examined ≤ j)).markExamined fieldCount := by
    simp [State.takeExpiries, hb, hheld]
  rw [htaken]
  refine ⟨?_, hexamined.page, fun hs => ?_, fun f hf => hexamined.asked (hin f hf) f hf,
    ⟨_, by rw [State.markExamined, hfresh]; rfl, .inr hm⟩⟩
  · change (s.examineAll n _).field? m = _
    cases hf : s.field? m with
    | some f => rw [← hf]; exact hexamined.taken (hin f hf)
    | none =>
      by_cases hown : m ∈ s.numbers.filter fun j => b.examined ≤ j
      · rw [hexamined.taken hown, hf]
      · rw [hexamined.other hown, hf]; rfl
  · unfold State.uncommitted
    rw [show ((s.examineAll n (s.numbers.filter fun j => b.examined ≤ j)).markExamined fieldCount).pnt.slots = s.pnt.slots
      from hexamined.slots]
    exact hs

theorem State.leavesRecord.examines {t u : State} (h : s.leavesRecord t m) (k : t.examinesRecord u m n) :
    s.examinesRecord u m n where
  record := by rw [k.record, h.record]
  page := k.page.trans h.page
  uncommitted hs := k.uncommitted (h.uncommitted hs)
  asked f hf he hv := k.asked f (h.record.trans hf) he (by rw [State.shows, h.page]; exact hv)
  passed := k.passed

theorem State.examinesRecord.leaves {t u : State} (h : s.examinesRecord t m n) (k : t.leavesRecord u m) :
    s.examinesRecord u m n where
  record := by rw [k.record, h.record]
  page := k.page.trans h.page
  uncommitted hs := k.uncommitted (h.uncommitted hs)
  asked f hf he hv := k.queued (h.asked f hf he hv)
  passed := k.passed h.passed

/-! ### The whole boundary -/

/-- The boundary up to the commits, on the part as the early parts leave it, where no page and no configuration is applied. -/
def State.committedPart (s : State) (n : FrameNo) : State := ((s.expireFreeze n).age.judgeBlink n).commitAll n

theorem State.committedPart_leavesRecord (h : s.uncommitted m) : s.leavesRecord (s.committedPart n) m := by
  have hjudged : s.leavesRecord ((s.expireFreeze n).age.judgeBlink n) m :=
    State.expireFreeze_leavesRecord.trans (State.age_leavesRecord.trans State.judgeBlink_leavesRecord)
  exact hjudged.trans (State.commitAll_leavesRecord (hjudged.uncommitted h))

theorem State.boundaryWork_of_nothingApplied (order : BoundaryOrder) (hone : s.oneWaits)
    (h : s.nothingApplied s.boundaryNumber) :
    s.boundaryWork order =
      (((s.earlyPart order).committedPart s.boundaryNumber).takeExpiries s.boundaryNumber).latchFrameIf
        (!order.frameFirst) s.boundaryNumber := by
  rw [State.boundaryWork, State.latePart, State.pendingPart_of_nothingApplied order hone h]
  rfl

/-- The early parts without FTU's, if it comes later. -/
theorem State.ageIf_leavesRecord (first : Bool) : s.leavesRecord (if first then s.age else s) m := by
  split
  · exact State.age_leavesRecord
  · exact s.leavesRecord_refl m

theorem State.earlyPart_eq (order : BoundaryOrder) :
    s.earlyPart order =
      let started := s.started.latchFrameIf order.frameFirst s.boundaryNumber
      let examined := if order.ftuFirst then started.takeExpiries s.boundaryNumber else started
      if order.agingFirst then examined.age else examined := by
  rw [State.earlyPart, State.startBoundary_openBoundary]

/-- A field that FTU has passed, or for which expiries are held, keeps its record through the boundary. -/
theorem State.boundaryWork_leavesRecord (order : BoundaryOrder) (hone : s.oneWaits) (h : s.nothingApplied s.boundaryNumber)
    (hm : m < 512) (hs : s.uncommitted m) (hpassed : s.started.passed m) : s.started.leavesRecord (s.boundaryWork order) m := by
  have hlatched : s.started.leavesRecord (s.started.latchFrameIf order.frameFirst s.boundaryNumber) m :=
    State.latchFrameIf_leavesRecord _
  have hearly : s.started.leavesRecord (s.earlyPart order) m := by
    rw [State.earlyPart_eq]
    refine State.leavesRecord.trans ?_ (State.ageIf_leavesRecord _)
    split
    · exact hlatched.trans (State.takeExpiries_leavesRecord hm (hlatched.passed hpassed))
    · exact hlatched
  have hcommitted := hearly.trans (State.committedPart_leavesRecord (n := s.boundaryNumber) (hearly.uncommitted hs))
  rw [State.boundaryWork_of_nothingApplied order hone h]
  exact (hcommitted.trans (State.takeExpiries_leavesRecord hm (hcommitted.passed hpassed))).trans
    (State.latchFrameIf_leavesRecord _)

/-- A field that FTU had still to examine comes out of the boundary with its expiries taken. -/
theorem State.boundaryWork_examinesRecord (order : BoundaryOrder) (hone : s.oneWaits)
    (h : s.nothingApplied s.boundaryNumber) (hm : m < 512) (hs : s.uncommitted m) (hawaits : s.started.awaits m) :
    s.started.examinesRecord (s.boundaryWork order) m s.boundaryNumber := by
  have hlatched : s.started.leavesRecord (s.started.latchFrameIf order.frameFirst s.boundaryNumber) m :=
    State.latchFrameIf_leavesRecord _
  have hearly := State.earlyPart_eq (s := s) order
  rw [State.boundaryWork_of_nothingApplied order hone h]
  cases hfirst : order.ftuFirst with
  | true =>
    rw [hfirst] at hearly
    have hexamined : s.started.examinesRecord (s.earlyPart order) m s.boundaryNumber := by
      rw [hearly]
      exact (hlatched.examines (State.takeExpiries_examinesRecord hm (hlatched.awaits hawaits))).leaves
        (State.ageIf_leavesRecord _)
    have hcommitted := hexamined.leaves (State.committedPart_leavesRecord (n := s.boundaryNumber) (hexamined.uncommitted hs))
    exact (hcommitted.leaves (State.takeExpiries_leavesRecord hm hcommitted.passed)).leaves (State.latchFrameIf_leavesRecord _)
  | false =>
    rw [hfirst] at hearly
    have hleft : s.started.leavesRecord (s.earlyPart order) m := by
      rw [hearly]
      exact hlatched.trans (State.ageIf_leavesRecord _)
    have hcommitted := hleft.trans (State.committedPart_leavesRecord (n := s.boundaryNumber) (hleft.uncommitted hs))
    exact (hcommitted.examines (State.takeExpiries_examinesRecord hm (hcommitted.awaits hawaits))).leaves
      (State.latchFrameIf_leavesRecord _)

end Sys2Proof.Machine
end

section
/-! One entry of ROUTINE at a boundary that applies no page and no configuration: aging, and what the other parts leave of it
(R66, R69). -/

namespace Sys2Proof.Machine

variable {s : State} {m : Nat} {n : FrameNo}

/-! ### What a part other than aging leaves of an entry -/

/-- A field whose entry of ROUTINE only aging moves: it is of that class, and none of its slots is a BLANK commit. -/
structure State.plain (s : State) (m : Nat) : Prop where
  routine : ∀ f, s.field? m = some f → f.options.urgent = false
  value : ∀ k r, (k, ⟨some m, .ready r⟩) ∈ s.pnt.slots → r.kind = .value

/-- What becomes of the boundary's record, as the entries of a field see it. -/
structure Boundary.agesAlike (b c : Boundary) (m : Nat) (queued : Prop) : Prop where
  aged : c.aged = b.aged
  kept : m ∈ b.fresh → m ∈ c.fresh
  noNew : queued → m ∈ c.fresh → m ∈ b.fresh

/-- A change of state that leaves a field's entries where they are and the aging of ROUTINE as it was. -/
structure State.leavesEntry (s t : State) (m : Nat) : Prop where
  plain : s.plain m → t.plain m
  ageLimit : t.pnt.ageLimit = s.pnt.ageLimit
  urgent : m ∈ s.pnt.urgent → m ∈ t.pnt.urgent
  routine : ∀ e ∈ s.pnt.routine, e.field = m → e ∈ t.pnt.routine
  boundary : ∀ b, s.boundary = some b →
    ∃ c, t.boundary = some c ∧ b.agesAlike c m (m ∈ s.pnt.routine.map RoutineEntry.field)

theorem Boundary.agesAlike_refl (b : Boundary) (m : Nat) (queued : Prop) : b.agesAlike b m queued := ⟨rfl, id, fun _ => id⟩

theorem State.leavesEntry_refl (s : State) (m : Nat) : s.leavesEntry s m :=
  ⟨id, rfl, id, fun _ he _ => he, fun b hb => ⟨b, hb, b.agesAlike_refl m _⟩⟩

theorem State.leavesEntry.trans {t u : State} (h : s.leavesEntry t m) (k : t.leavesEntry u m) : s.leavesEntry u m where
  plain hs := k.plain (h.plain hs)
  ageLimit := k.ageLimit.trans h.ageLimit
  urgent hm := k.urgent (h.urgent hm)
  routine e he hown := k.routine e (h.routine e he hown) hown
  boundary b hb := by
    obtain ⟨c, hc, hbc⟩ := h.boundary b hb
    obtain ⟨d, hd, hcd⟩ := k.boundary c hc
    refine ⟨d, hd, hcd.aged.trans hbc.aged, fun hm => hcd.kept (hbc.kept hm), fun hqueued hm => ?_⟩
    refine hbc.noNew hqueued (hcd.noNew ?_ hm)
    obtain ⟨e, he, hown⟩ := List.mem_map.1 hqueued
    exact List.mem_map.2 ⟨e, h.routine e he hown, hown⟩

/-- A change of the records and of the slots alone. -/
theorem State.leavesEntry_of_queue {t : State} (hplain : s.plain m → t.plain m) (hage : t.pnt.ageLimit = s.pnt.ageLimit)
    (hurgent : t.pnt.urgent = s.pnt.urgent) (hroutine : t.pnt.routine = s.pnt.routine) (hboundary : t.boundary = s.boundary) :
    s.leavesEntry t m :=
  ⟨hplain, hage, hurgent ▸ id, fun _ he _ => hroutine ▸ he, fun b hb => ⟨b, hboundary.trans hb, b.agesAlike_refl m _⟩⟩

theorem State.leavesEntry_of_eq {t : State} (hfields : t.fields = s.fields) (hpnt : t.pnt = s.pnt)
    (hboundary : t.boundary = s.boundary) : s.leavesEntry t m := by
  refine State.leavesEntry_of_queue (fun ⟨hclass, hvalue⟩ => ⟨?_, ?_⟩) (by rw [hpnt]) (by rw [hpnt]) (by rw [hpnt]) hboundary
  · rw [State.field?, hfields]; exact hclass
  · rw [hpnt]; exact hvalue

theorem State.latchFrameIf_leavesEntry (now : Bool) : s.leavesEntry (s.latchFrameIf now n) m := by
  unfold State.latchFrameIf
  split
  · exact State.leavesEntry_of_eq (by simp) (by simp) (by simp)
  · exact s.leavesEntry_refl m

theorem State.latchOpen_leavesEntry (groups : List (List EventSet)) : s.leavesEntry (s.latchOpen groups n) m :=
  State.leavesEntry_of_eq (by simp) (by simp) (by simp)

theorem State.expireFreeze_leavesEntry : s.leavesEntry (s.expireFreeze n) m := by
  unfold State.expireFreeze
  split
  · exact State.leavesEntry_of_eq (by simp [State.endFreeze]) (by simp [State.endFreeze]) (by simp [State.endFreeze])
  · exact s.leavesEntry_refl m

theorem State.judgeBlink_leavesEntry : s.leavesEntry (s.judgeBlink n) m := by
  cases hb : s.boundary with
  | none =>
    rw [State.judgeBlink, hb]
    exact State.leavesEntry_of_eq rfl rfl hb.symm
  | some b =>
    cases ht : b.toggled with
    | true => rw [State.judgeBlink_of_toggled n hb ht]; exact s.leavesEntry_refl m
    | false =>
      rw [State.judgeBlink_of_untoggled n hb ht]
      refine ⟨fun hs => ⟨hs.routine, hs.value⟩, rfl, id, fun _ he _ => he, fun c hc => ?_⟩
      obtain rfl := Option.some.inj (hb.symm.trans hc)
      exact ⟨_, rfl, rfl, id, fun _ => id⟩

theorem State.markExamined_leavesEntry (upTo : Nat) : s.leavesEntry (s.markExamined upTo) m :=
  ⟨fun hs => ⟨hs.routine, hs.value⟩, rfl, id, fun _ he _ => he, fun _ hb =>
    ⟨_, congrArg (Option.map _) hb, rfl, id, fun _ => id⟩⟩

/-- A record written with its class kept. -/
theorem State.putField_leavesEntry {j : Nat} {f g : Field} (hf : s.field? j = some f)
    (hclass : g.options.urgent = f.options.urgent) : s.leavesEntry (s.putField j g) m := by
  refine State.leavesEntry_of_queue (fun ⟨hroutine, hvalue⟩ => ⟨fun k hk => ?_, hvalue⟩) rfl rfl rfl rfl
  by_cases hown : m = j
  · subst hown
    rw [s.putField_field?_self] at hk
    obtain rfl := Option.some.inj hk
    rw [hclass]
    exact hroutine f hf
  · rw [s.putField_otherFieldsKept j g m hown] at hk
    exact hroutine k hk

/-- A request for a field moves no entry of a field of class ROUTINE, and makes none of its entries fresh (R66). -/
theorem State.enqueueAtBoundary_leavesEntry (j : Nat) (hplain : s.plain m) :
    s.leavesEntry (s.enqueueAtBoundary j false) m := by
  have hpnt := s.enqueue_pnt_cases j false
  rw [← State.enqueueAtBoundary_pnt] at hpnt
  refine ⟨fun ⟨hroutine, hvalue⟩ => ⟨?_, ?_⟩, by simp, fun hm => ?_, fun e he hown => ?_, fun b hb => ?_⟩
  · rw [State.field?, State.enqueueAtBoundary_fields]; exact hroutine
  · rw [State.enqueueAtBoundary_pnt.slots]; exact hvalue
  · rcases hpnt with ⟨hsame, -⟩ | ⟨f, -, -, -, ⟨-, -, hsame⟩ | ⟨-, hsame⟩⟩ <;> rw [hsame]
    · exact hm
    · exact List.mem_append_left _ hm
    · rw [Paint.append]
      cases false || f.options.urgent
      · exact hm
      · exact List.mem_append_left _ hm
  · rcases hpnt with ⟨hsame, -⟩ | ⟨f, hf, -, -, ⟨-, hclass, hsame⟩ | ⟨-, hsame⟩⟩ <;> rw [hsame]
    · exact he
    · refine List.mem_filter.2 ⟨he, ?_⟩
      have hne : e.field ≠ j := fun hj => by
        rw [hplain.routine f (hown ▸ hj ▸ hf)] at hclass
        exact nomatch hclass
      simpa using hne
    · rw [Paint.append]
      cases false || f.options.urgent
      · exact List.mem_append_left _ he
      · exact he
  · unfold State.enqueueAtBoundary
    dsimp only
    split
    · exact ⟨b, (s.enqueue_boundary j false).trans hb, b.agesAlike_refl m _⟩
    · rename_i hmoved
      refine ⟨{ b with fresh := j :: b.fresh }, by simp [hb], rfl, List.mem_cons_of_mem _, fun hqueued hm => ?_⟩
      refine (List.mem_cons.1 hm).resolve_left fun hown => hmoved ?_
      subst hown
      have hsame : (s.enqueue m false).pnt = s.pnt := by
        rw [← State.enqueueAtBoundary_pnt]
        rcases hpnt with ⟨hsame, -⟩ | ⟨f, hf, -, -, ⟨-, hclass, -⟩ | ⟨hout, -⟩⟩
        · exact hsame
        · rw [hplain.routine f hf] at hclass
          exact nomatch hclass
        · exact absurd hqueued hout
      simp [State.membershipCode, State.inUrgent, State.inRoutine, hsame]

theorem State.expireField_leavesEntry {j : Nat} {f : Field} (hf : s.field? j = some f) (hplain : s.plain m) :
    s.leavesEntry (s.expireField j f n) m := by
  have htaken : s.leavesEntry (s.expiryTaken j f n) m := by
    rw [State.expiryTaken_eq]
    exact (State.putField_leavesEntry (g := f.expired n) hf rfl).trans (State.leavesEntry_of_eq rfl rfl rfl)
  rw [State.expireField_eq]
  exact (htaken.trans (State.enqueueAtBoundary_leavesEntry j (htaken.plain hplain))).trans (State.latchOpen_leavesEntry _)

theorem State.examineAll_leavesEntry (l : List Nat) (hplain : s.plain m) : s.leavesEntry (s.examineAll n l) m := by
  induction l generalizing s with
  | nil => exact s.leavesEntry_refl m
  | cons j rest ih =>
    have hfirst : s.leavesEntry (s.examine n j) m := by
      unfold State.examine
      split
      · rename_i f hf
        split
        · exact State.expireField_leavesEntry hf hplain
        · exact s.leavesEntry_refl m
      · exact s.leavesEntry_refl m
    exact hfirst.trans (ih (hfirst.plain hplain))

theorem State.takeExpiries_leavesEntry (hplain : s.plain m) : s.leavesEntry (s.takeExpiries n) m := by
  unfold State.takeExpiries
  split
  · exact s.leavesEntry_refl m
  · split
    · exact State.markExamined_leavesEntry _
    · exact (State.examineAll_leavesEntry _ hplain).trans (State.markExamined_leavesEntry _)

theorem State.putCells_leavesEntry (k : Nat) (f : Field) (r : Rendered) : s.leavesEntry (s.putCells k f r) m :=
  State.leavesEntry_of_queue (fun ⟨hroutine, hvalue⟩ => ⟨hroutine, fun j q hq => hvalue j q (Store.mem_erase hq)⟩)
    rfl rfl rfl rfl

theorem State.release_leavesEntry {j : Nat} (hne : m ≠ j) : s.leavesEntry (s.release j n) m := by
  obtain ⟨hurgent, hroutine, hage, -, -⟩ := s.removeEntry_dequeued j n
  refine ⟨fun ⟨hclass, hvalue⟩ => ⟨fun f hf => ?_, fun k r hk => ?_⟩, hage, fun hm => ?_, fun e he hown => ?_, fun b hb =>
    ⟨b, by rw [← hb]; simp [State.release], b.agesAlike_refl m _⟩⟩
  · rw [State.field?, State.release_fields, Store.find?_erase_ne hne] at hf
    exact hclass f hf
  · rw [State.release_slots] at hk
    exact hvalue k r (abandonSlots_owner hk rfl).1
  · change m ∈ (s.removeEntry j n).pnt.urgent
    rw [hurgent]
    exact List.mem_filter.2 ⟨hm, by simpa using hne⟩
  · change e ∈ (s.removeEntry j n).pnt.routine
    rw [hroutine]
    exact List.mem_filter.2 ⟨he, by simpa [hown] using hne⟩

theorem State.commitSlot_leavesEntry (k : Nat) (hplain : s.plain m) : s.leavesEntry (s.commitSlot n k) m := by
  rcases s.commitSlot_cases_of_kind n k with hsame | ⟨j, r, f, hslot, hf, ⟨-, hput⟩ | ⟨hblank, hfreed⟩⟩
  · rw [hsame]; exact s.leavesEntry_refl m
  · rw [hput]
    exact (State.putCells_leavesEntry k f r).trans (State.putField_leavesEntry (g := f.committed r n) hf rfl)
  · have hne : m ≠ j := by
      rintro rfl
      exact nomatch hblank.symm.trans (hplain.value k r hslot)
    rw [hfreed]
    exact (State.putCells_leavesEntry k f r).trans (State.release_leavesEntry hne)

theorem State.commitAll_leavesEntry (hplain : s.plain m) : s.leavesEntry (s.commitAll n) m := by
  have hslots : ∀ l (u : State), u.plain m → u.leavesEntry (u.commitSlots n l) m := by
    intro l
    induction l with
    | nil => exact fun u _ => u.leavesEntry_refl m
    | cons k rest ih =>
      exact fun u hu =>
        have hfirst := State.commitSlot_leavesEntry k hu
        hfirst.trans (ih _ (hfirst.plain hu))
  unfold State.commitAll
  split
  · exact s.leavesEntry_refl m
  · exact hslots _ s hplain

/-! ### Aging (R69) -/

/-- An entry that aging has passed: the boundary has aged ROUTINE already, or has appended the entry. -/
def RoutineEntry.spared (e : RoutineEntry) (b : Boundary) : Prop := b.aged = true ∨ e.field ∈ b.fresh

theorem State.age_spared {b : Boundary} {e : RoutineEntry} (hb : s.boundary = some b) (he : e ∈ s.pnt.routine)
    (h : e.spared b) : e ∈ s.age.pnt.routine := by
  cases haged : b.aged with
  | true => rwa [State.age_of_aged hb haged]
  | false =>
    have hfresh : e.field ∈ b.fresh := h.resolve_left (by simp [haged])
    rw [State.age_of_unaged hb haged, ← RoutineEntry.aged_of_fresh hfresh]
    refine List.mem_map_of_mem (List.mem_filter.2 ⟨he, ?_⟩)
    simp [RoutineEntry.promoted, hfresh]

theorem State.age_promotes {b : Boundary} {e : RoutineEntry} (hb : s.boundary = some b) (he : e ∈ s.pnt.routine)
    (h : ¬e.spared b) (hlimit : s.pnt.ageLimit ≤ e.wait + 1) : e.field ∈ s.age.pnt.urgent := by
  obtain ⟨haged, hfresh⟩ := not_or.1 h
  rw [State.age_of_unaged hb (by simpa using haged)]
  have hpromoted := (RoutineEntry.promoted_iff b.fresh s.pnt.ageLimit e).2 ⟨hfresh, hlimit⟩
  exact List.mem_append_left _ (List.mem_append_right _ (List.mem_map_of_mem (List.mem_filter.2 ⟨he, hpromoted⟩)))

theorem State.age_waits {b : Boundary} {e : RoutineEntry} (hb : s.boundary = some b) (he : e ∈ s.pnt.routine)
    (h : ¬e.spared b) (hlimit : e.wait + 1 < s.pnt.ageLimit) : { e with wait := e.wait + 1 } ∈ s.age.pnt.routine := by
  obtain ⟨haged, hfresh⟩ := not_or.1 h
  rw [State.age_of_unaged hb (by simpa using haged), ← RoutineEntry.aged_of_old hfresh]
  refine List.mem_map_of_mem (List.mem_filter.2 ⟨he, ?_⟩)
  rw [Bool.not_eq_true', ← Bool.not_eq_true, RoutineEntry.promoted_iff]
  rintro ⟨-, hreached⟩
  omega

theorem State.age_plain (h : s.plain m) : s.age.plain m := by
  refine ⟨fun f hf => h.routine f ?_, fun k r hk => h.value k r ?_⟩
  · rwa [State.age_leavesRecord.record] at hf
  · rwa [s.age_pnt.1] at hk

theorem State.age_ageIf {t : State} {b : Boundary} (hb : s.boundary = some b) (h : s.age.leavesEntry t m) : t.age = t := by
  have haged : ∃ c, s.age.boundary = some c ∧ c.aged = true := by
    cases haged : b.aged with
    | true => rw [State.age_of_aged hb haged]; exact ⟨b, hb, haged⟩
    | false => rw [State.age_of_unaged hb haged]; exact ⟨_, rfl, rfl⟩
  obtain ⟨c, hc, haged⟩ := haged
  obtain ⟨d, hd, hcd⟩ := h.boundary c hc
  exact State.age_of_aged hd (hcd.aged.trans haged)

/-! ### The whole boundary -/

/-- The commits and what comes after them. -/
theorem State.closing_leavesEntry (order : BoundaryOrder) (hplain : s.plain m) :
    s.leavesEntry ((s.judgeBlink n).latePart order n) m := by
  have hjudged : s.leavesEntry (s.judgeBlink n) m := State.judgeBlink_leavesEntry
  have hcommitted := hjudged.trans (State.commitAll_leavesEntry (n := n) (hjudged.plain hplain))
  exact (hcommitted.trans (State.takeExpiries_leavesEntry (hcommitted.plain hplain))).trans
    (State.latchFrameIf_leavesEntry _)

/-- The boundary ages ROUTINE once, and leaves a field's entries where they are before and after. -/
theorem State.boundaryWork_ages (order : BoundaryOrder) (hone : s.oneWaits) (h : s.nothingApplied s.boundaryNumber)
    (hplain : s.plain m) :
    ∃ a, s.started.leavesEntry a m ∧ a.age.leavesEntry (s.boundaryWork order) m := by
  have hstarted : s.started.plain m := ⟨hplain.routine, hplain.value⟩
  have hlatched : s.started.leavesEntry (s.started.latchFrameIf order.frameFirst s.boundaryNumber) m :=
    State.latchFrameIf_leavesEntry _
  have hearly := State.earlyPart_eq (s := s) order
  dsimp only at hearly
  generalize hexamined : (if order.ftuFirst then
    (s.started.latchFrameIf order.frameFirst s.boundaryNumber).takeExpiries s.boundaryNumber
    else s.started.latchFrameIf order.frameFirst s.boundaryNumber) = x at hearly
  have hx : s.started.leavesEntry x m := by
    rw [← hexamined]
    split
    · exact hlatched.trans (State.takeExpiries_leavesEntry (hlatched.plain hstarted))
    · exact hlatched
  obtain ⟨b, hb, -⟩ := hx.boundary s.begun rfl
  have hwork : s.boundaryWork order =
      (((s.earlyPart order).expireFreeze s.boundaryNumber).age.judgeBlink s.boundaryNumber).latePart order
        s.boundaryNumber := by
    rw [State.boundaryWork, State.pendingPart_of_nothingApplied order hone h]
  rw [hwork, hearly]
  cases order.agingFirst with
  | true =>
    refine ⟨x, hx, ?_⟩
    have hended : x.age.leavesEntry (x.age.expireFreeze s.boundaryNumber) m := State.expireFreeze_leavesEntry
    rw [if_pos rfl, State.age_ageIf hb hended]
    exact hended.trans (State.closing_leavesEntry order (hended.plain (State.age_plain (hx.plain hstarted))))
  | false =>
    have hended : s.started.leavesEntry (x.expireFreeze s.boundaryNumber) m := hx.trans State.expireFreeze_leavesEntry
    exact ⟨_, hended, State.closing_leavesEntry order (State.age_plain (hended.plain hstarted))⟩

/-- What a boundary makes of an entry of ROUTINE: an entry that it has aged, or appended, stays; any other waits one longer, and
goes to URGENT at the limit (R69). -/
theorem State.boundaryWork_entry (order : BoundaryOrder) (hone : s.oneWaits) (h : s.nothingApplied s.boundaryNumber)
    {e : RoutineEntry} (he : e ∈ s.pnt.routine) (hplain : s.plain e.field) :
    let w := s.boundaryWork order
    (¬e.spared s.begun → s.pnt.ageLimit ≤ e.wait + 1 → e.field ∈ w.pnt.urgent) ∧
      (¬e.spared s.begun → e.wait + 1 < s.pnt.ageLimit → { e with wait := e.wait + 1 } ∈ w.pnt.routine) ∧
      (e.spared s.begun → e ∈ w.pnt.routine) := by
  intro w
  obtain ⟨a, hbefore, hafter⟩ := State.boundaryWork_ages order hone h hplain
  obtain ⟨b, hb, hages⟩ := hbefore.boundary s.begun rfl
  have hstands : e ∈ a.pnt.routine := hbefore.routine e he rfl
  have hlimit : a.pnt.ageLimit = s.pnt.ageLimit := hbefore.ageLimit
  have hspared : e.spared b ↔ e.spared s.begun :=
    or_congr (by rw [hages.aged]) ⟨hages.noNew (List.mem_map_of_mem he), hages.kept⟩
  rw [← hspared, ← hlimit]
  exact ⟨fun hold hreached => hafter.urgent (State.age_promotes hb hstands hold hreached),
    fun hold hlow => hafter.routine _ (State.age_waits hb hstands hold hlow) rfl,
    fun hold => hafter.routine e (State.age_spared hb hstands hold) rfl⟩

end Sys2Proof.Machine
end

section
/-! The frame boundary as a whole (R66, R69, R96, R99 to R103, R106, R112, R115, R122, R125 to R129, R152). -/

namespace Sys2Proof.Machine

variable {s : State}

theorem exec_frameBoundary_of_running (order : BoundaryOrder) (h : s.resetCause = none) :
    exec (.frameBoundary order) s = .next (s.takeBoundary order) := by
  change execFrameBoundary order s = _
  simp [execFrameBoundary, State.inReset, h]

/-- SCR's first work at a boundary, as it stands at the end of it (R96, R99, R103). -/
theorem State.boundaryWork_staged (order : BoundaryOrder) (hone : s.oneWaits) :
    let w := s.boundaryWork order
    w.scr.frameCounter = s.boundaryNumber ∧
      w.scr.palette = List.zipWith (fun now staged => staged.getD now) s.scr.palette s.scr.stagedPalette ∧
      w.scr.stagedPalette = List.replicate 16 none ∧ w.scr.stagedMode = none ∧
      w.scr.mode = (s.scr.stagedMode.map Prod.fst).getD s.scr.mode ∧
      w.scr.brightness = (s.scr.stagedMode.map Prod.snd).getD s.scr.brightness := by
  intro w
  have hscr : w.scr = _ := State.boundaryWork_progress order hone
  rw [hscr, State.expireFreeze_scr]
  split <;> rw [State.started, State.startBoundary_scr] <;> exact ⟨rfl, rfl, rfl, rfl, rfl, rfl⟩

/-- A staged colour takes effect, and every other index keeps its colour (R96). -/
theorem stagedColour_getElem? (palette : List Colour) (staged : List (Option Colour)) (h : staged.length = palette.length)
    (i : Nat) :
    (List.zipWith (fun now later => Option.getD later now) palette staged)[i]? =
      (match staged.getD i none with
        | some c => some c
        | none => palette[i]?) := by
  rw [List.getElem?_zipWith, List.getD_eq_getElem?_getD]
  by_cases hi : i < palette.length
  · rw [List.getElem?_eq_getElem hi, List.getElem?_eq_getElem (h ▸ hi)]
    cases staged[i]'(h ▸ hi) <;> rfl
  · rw [List.getElem?_eq_none (by omega), List.getElem?_eq_none (by omega)]
    rfl

/-- The freeze ends where its limit is reached (R122). -/
theorem State.boundaryWork_limit (order : BoundaryOrder) (hone : s.oneWaits) (h : s.freezeDue s.boundaryNumber = true) :
    let w := s.boundaryWork order
    w.scr.frozen = false ∧ w.scr.freezeDeadline = none ∧ w.scr.timerHold = false ∧ w.aeu.latched.getLsbD 10 = true := by
  intro w
  have hscr : w.scr = _ := State.boundaryWork_progress order hone
  rw [State.expireFreeze_scr, State.started_freezeDue, if_pos h] at hscr
  have hlatched : ((s.earlyPart order).expireFreeze s.boundaryNumber).aeu.latched.getLsbD 10 = true := by
    rw [State.expireFreeze_of_due _ ((State.earlyPart_freezeDue order _).trans h), State.latch_aeu.latched,
      BitVec.getLsbD_or, show evFreezeExpired.getLsbD 10 = true by decide, Bool.or_true]
  exact ⟨by rw [hscr], by rw [hscr], by rw [hscr],
    EventSet.getLsbD_of_or_eq (State.boundaryWork_latchesMore order).latched hlatched⟩

theorem State.boundaryWork_noLimit (order : BoundaryOrder) (hone : s.oneWaits)
    (h : ¬s.freezeDue s.boundaryNumber = true) :
    let w := s.boundaryWork order
    w.scr.frozen = s.scr.frozen ∧ w.scr.freezeDeadline = s.scr.freezeDeadline ∧ w.scr.timerHold = s.scr.timerHold := by
  intro w
  have hscr : w.scr = _ := State.boundaryWork_progress order hone
  rw [State.expireFreeze_scr, State.started_freezeDue, if_neg h, State.started, State.startBoundary_scr] at hscr
  rw [hscr]
  exact ⟨rfl, rfl, rfl⟩

/-! ### The boundary as it is begun -/

theorem State.begun_of_some {b : Boundary} (h : s.boundary = some b) : s.begun = b := by rw [State.begun, h]

theorem State.begun_held_iff :
    s.begun.held = true ↔ (match s.boundary with
      | some b => b.held = true
      | none => s.scr.frozen = true ∧ s.scr.timerHold = true) := by
  unfold State.begun
  cases s.boundary with
  | none => exact Bool.and_eq_true _ _ ▸ Iff.rfl
  | some b => rfl

theorem State.lt_begun_examined_iff (m : Nat) : m < s.begun.examined ↔ ∃ b, s.boundary = some b ∧ m < b.examined := by
  unfold State.begun
  cases s.boundary with
  | none => simp
  | some b => simp

theorem State.not_spared_begun_iff (e : RoutineEntry) :
    ¬e.spared s.begun ↔ ∀ b, s.boundary = some b → b.aged = false ∧ e.field ∉ b.fresh := by
  unfold State.begun RoutineEntry.spared
  cases s.boundary with
  | none => simp
  | some b => simp [not_or]

theorem State.begun_toggled_of_none_judged (h : ∀ b, s.boundary = some b → b.toggled = false) : s.begun.toggled = false := by
  unfold State.begun
  cases hb : s.boundary with
  | none => rfl
  | some b => exact h b hb

/-- A field's record after a boundary that has its expiries taken (R127 to R129). -/
theorem Field.expired_spec (f : Field) (n : FrameNo) :
    ∃ state stale flash,
      f.expired n = { f with state := state, staleDeadline := stale, flashDeadline := flash } ∧
        (deadlineReached f.staleDeadline n → state = .stale ∧ stale = none) ∧
        (¬deadlineReached f.staleDeadline n → state = f.state ∧ stale = f.staleDeadline) ∧
        (deadlineReached f.flashDeadline n → flash = none) ∧
        (¬deadlineReached f.flashDeadline n → flash = f.flashDeadline) := by
  refine ⟨_, _, _, rfl, ?_, ?_, ?_, ?_⟩ <;> rw [← dueAt_iff] <;> intro h
  · exact ⟨if_pos h, if_pos h⟩
  · exact ⟨if_neg h, if_neg h⟩
  · exact if_pos h
  · exact if_neg h

theorem Field.expires_iff (f : Field) (n : FrameNo) : f.expires n = true ↔ f.dueBy n := by
  rw [Field.expires, Bool.or_eq_true, dueAt_iff, dueAt_iff, Field.dueBy]

/-- Settles O47: `boundaryWork` part by part. -/
theorem boundaryAdvancesFrame : Obligations.BoundaryAdvancesFrame := by
  intro s order hreset hlaw n limit nothingApplied held examined unaged
  have hone := hlaw.oneWaits
  have hlimit : s.freezeDue s.boundaryNumber = true ↔ limit := State.freezeDue_iff _
  have hunaged : ∀ e, ¬RoutineEntry.spared e s.begun ↔ unaged e := State.not_spared_begun_iff
  have hmore := State.started_latchesMore (s := s) order
  obtain ⟨hpalette, hstaged, -⟩ := hlaw
  obtain ⟨hcounter, hcolours, hnone, hnomode, hmode, hlevel⟩ := State.boundaryWork_staged order hone
  refine ⟨_, exec_frameBoundary_of_running order hreset, rfl, hcounter, fun i _ => ?_, hnone, hnomode, fun m level hm => ?_,
    fun hm => ?_, fun hfresh period hfrom => ?_, fun b hb ht => ?_, State.boundaryWork_frame order, hmore.latched,
    hmore.mask, hmore.fault, State.takeBoundary_line s order, fun h => State.boundaryWork_limit order hone (hlimit.2 h),
    fun h => State.boundaryWork_noLimit order hone (mt hlimit.1 h), fun p hp hfree => State.boundaryWork_page order hone hp hfree,
    fun c hc hfree => State.boundaryWork_configuration order hone hc hfree, fun h => ?settings,
    fun h htable m f hf hcommits => ?record, fun h hroutine e he hvalue => ?entry⟩
  · exact (congrArg (·[i]?) hcolours).trans (stagedColour_getElem? _ _ (hstaged.trans hpalette.symm) i)
  · rw [hm] at hmode hlevel
    exact ⟨hmode, hlevel, hlevel⟩
  · rw [hm] at hmode hlevel
    exact ⟨hmode, hlevel, hlevel⟩
  · exact State.boundaryWork_blinkOn order hone (State.begun_toggled_of_none_judged hfresh) hfrom
  · exact State.boundaryWork_blinkOn_of_toggled order hone (by rw [State.begun_of_some hb]; exact ht)
  case settings =>
    have hsame := State.boundaryWork_settings order hone h
    exact ⟨hsame.msg, hsame.replies, hsame.page, hsame.geometry, hsame.defaultFg, hsame.defaultBg, hsame.blinkPeriod,
      hsame.ageLimit, hsame.lagThreshold⟩
  case record =>
    have hm : m < 512 := htable.2 _ (Store.mem_of_find? hf)
    refine ⟨fun hpast => ?_, fun hunheld hunexamined => ?_⟩
    · have hpassed : s.started.passed m :=
        ⟨_, rfl, hpast.imp State.begun_held_iff.2 (State.lt_begun_examined_iff m).2⟩
      exact (State.boundaryWork_leavesRecord order hone h hm hcommits hpassed).record.trans hf
    · have hawaits : s.started.awaits m :=
        ⟨_, rfl, by simpa using mt State.begun_held_iff.1 hunheld,
          Nat.le_of_not_lt (mt (State.lt_begun_examined_iff m).1 hunexamined)⟩
      have hexamined := State.boundaryWork_examinesRecord order hone h hm hcommits hawaits
      obtain ⟨state, stale, flash, hexpired, hdeadlines⟩ := f.expired_spec n
      refine ⟨state, stale, flash, ?_, hdeadlines.1, hdeadlines.2.1, hdeadlines.2.2.1, hdeadlines.2.2.2, fun hdue hv => ?_⟩
      · rw [← hexpired]
        exact hexamined.record.trans (congrArg (Option.map _) hf)
      · refine hexamined.asked f hf ((Field.expires_iff f n).2 hdue) ?_
        rw [State.shows, State.started, State.startBoundary_scr]
        exact hv
  case entry =>
    have hplain : s.plain e.field := ⟨hroutine e he, hvalue⟩
    obtain ⟨hpromoted, hwaits, hstays⟩ := State.boundaryWork_entry order hone h he hplain
    refine ⟨fun hold => hpromoted ((hunaged e).2 hold), fun _ => ⟨fun hold => hwaits ((hunaged e).2 hold), fun hspared => ?_⟩⟩
    exact hstays (by_contra fun hnot => hspared ((hunaged e).1 hnot))

end Sys2Proof.Machine
end

section
/-! The screen requests that are accepted (R111, R114, R118, R119, R121): the operations that wait for a boundary, and the
freeze. -/

namespace Sys2Proof.Machine

variable {s : State}

/-! ### The operations that wait (R111, R114) -/

theorem State.operationPending_of_none (hpage : s.msg.pendingPage = none) (hconfigure : s.msg.pendingConfigure = none) :
    s.operationPending = false := by
  rw [State.operationPending, hpage, hconfigure]
  rfl

/-- SELECT PAGE carries its two-bit page in a byte, which holds no more (R111). -/
theorem zeroExtend_page (page : BitVec 2) :
    (page.zeroExtend 8).toNat ≤ 3 ∧ (page.zeroExtend 8).extractLsb' 0 2 = page := by
  revert page
  decide

theorem State.selectPage_accepted (page : BitVec 2) (hfrozen : s.scr.frozen = false) (hidle : s.operationPending = false) :
    s.selectPage (page.zeroExtend 8) =
      { s with msg := { s.msg with inHand := none, pendingPage := some ⟨page, s.tagInHand⟩ } } := by
  obtain ⟨hlow, hpage⟩ := zeroExtend_page page
  rw [State.selectPage, if_neg (Nat.not_lt.2 hlow), hfrozen, hidle, hpage]
  rfl

theorem Geometry.ofCode_code (g : Geometry) : Geometry.ofCode g.code = some g := by cases g <;> rfl

theorem State.configure_accepted {r : ConfigureFields} {g : Geometry} (hg : r.geometry = g.code)
    (hfrozen : s.scr.frozen = false) (hidle : s.operationPending = false) :
    s.configure r =
      { s with msg := { s.msg with
          inHand := none, pendingConfigure := some (ConfigureFields.stored r g s.tagInHand) } } := by
  rw [State.configure, hg, Geometry.ofCode_code, hfrozen, hidle]
  rfl

/-- A request whose act, by a change of MSG alone, ends the take with one entry more RESERVED than before it fills no reply and
leaves the blocks alone (R111, R114, R170). -/
theorem State.exec_waits {α : Type} {c : Instr} {f : Frame} {a : α} {act : α → State → State} {msg : Message}
    (hc : exec c s = s.takeThen c fun u => u.checkLength (.fields a) act) (hf : c.frame? = some f) (h : s.ready c = true)
    (hact : act a (s.take f) = { s.take f with msg := { msg with inHand := none } }) (hempty : msg.inHand = none)
    (hreserved : ({ s with msg := msg } : State).entriesReserved = s.entriesReserved + 1) :
    ∃ t, exec c s = .next t ∧ t.msg = msg ∧ s.blocksKept t ∧ t.aeu = s.aeu ∧ t.lnk.replies = s.lnk.replies ∧
      t.lnk.notice = s.lnk.notice ∧ s.lineAfterTake t ∧ s.outsideBlocks t ∧ t.entriesUsed = s.entriesUsed + 1 := by
  have hmsg : { msg with inHand := none } = msg := by rw [← hempty]
  rw [hmsg] at hact
  refine ⟨_, (State.exec_of_ready hc hf h).trans (congrArg Host.Outcome.next hact), rfl, ⟨rfl, rfl, rfl⟩, rfl,
    s.take_replies f, s.take_notice f, s.take_line f, ⟨rfl, rfl, rfl, rfl⟩, ?_⟩
  exact (congrArg₂ (· + ·) (congrArg List.length (s.take_replies f)) hreserved).trans (Nat.add_assoc _ _ _).symm

/-- Settles O40: the request's own rule on the state after the take, and the entries counted. -/
theorem pageAndConfigurationWait : Obligations.PageAndConfigurationWait := by
  intro s tag hfrozen hpage hconfigure waits
  have hidle : s.operationPending = false := State.operationPending_of_none hpage hconfigure
  refine ⟨fun page hready => ?page, fun g r hg hready => ?configure⟩
  case page =>
    have hempty := State.ready_inHand hready
    refine State.exec_waits (exec_selectPage ..) rfl hready ?_ hempty ?_
    · exact State.selectPage_accepted (s := s.take _) page hfrozen hidle
    · simp [State.entriesReserved, hempty, hpage, hconfigure]
  case configure =>
    have hempty := State.ready_inHand hready
    refine State.exec_waits (exec_configureDisplay ..) rfl hready ?_ hempty ?_
    · exact State.configure_accepted (s := s.take _) hg hfrozen hidle
    · simp [State.entriesReserved, hempty, hpage, hconfigure]

/-! ### The freeze (R118, R119, R121) -/

theorem State.thaw_frozen (h : s.scr.frozen = true) : s.thaw = s.endFreeze.answer [byteOfNat s.readySlots] := by
  rw [State.thaw, if_pos h]

/-- A request that changes SCR alone: the other blocks and the NOTICE are as before, and the reply is filled. -/
theorem State.answer_of_screen_change {c : Instr} {f : Frame} {scr : Screen} (payload : List Byte) (h : s.ready c = true) :
    let t := ({ s.take f with scr := scr } : State).answer payload
    t.scr = scr ∧ t.fields = s.fields ∧ t.pnt = s.pnt ∧ t.aeu = s.aeu ∧ t.lnk.notice = s.lnk.notice ∧
      s.answered t (f.type + 0x80) f.tag payload :=
  ⟨State.answer_scr _ _, State.answer_fields _ _, State.answer_pnt _ _, State.answer_aeu _ _,
    (State.answer_notice _ _).trans (s.take_notice f), State.answered_of_scr payload h⟩

/-- Settles O41: each request is a take, a change of SCR and a reply. -/
theorem freezeAndThaw : Obligations.FreezeAndThaw := by
  intro s tag
  refine ⟨fun r hready => ?freeze, fun hfrozen hready => ?thaw⟩
  case freeze =>
    exact ⟨_, State.exec_of_ready (exec_freeze tag _ s) rfl hready,
      State.answer_of_screen_change (f := goodFrame 0x07 tag [r.limit, r.flags]) _ hready⟩
  case thaw =>
    have hexec := State.exec_of_ready (exec_thaw tag _ s) rfl hready
    rw [State.thaw_frozen (s := s.take _) hfrozen] at hexec
    have hcount : s.readySlots = (s.pnt.slots.filter fun e => !e.2.content.isFilling).length := by
      simp only [State.readySlots, SlotContent.isReady_eq]
    exact ⟨_, hexec, hcount ▸ State.answer_of_screen_change (f := goodFrame 0x08 tag []) _ hready⟩

end Sys2Proof.Machine
end

section
/-! Commits one after another (R107 to R109): the slots that they free, the records that they rewrite or free, and the cells that
they put on the plane. -/

namespace Sys2Proof.Machine

variable {s : State} {k m : Nat} {n : FrameNo}

/-- A READY slot that belongs to a field, with the field's record (R73). -/
def State.readyAt (s : State) (k m : Nat) (r : Rendered) (f : Field) : Prop :=
  (k, ⟨some m, .ready r⟩) ∈ s.pnt.slots ∧ s.field? m = some f

/-! ### The pool before and after one commit -/

/-- The pool keeps R73's law of its own, and every owner of a slot is in use. -/
structure State.poolLaw (s : State) : Prop where
  slots : slotsLaw s.pnt.slots
  owners : s.ownersAre fun _ => True

theorem State.poolLaw_of_slotLaw (h : s.slotLaw) : s.poolLaw := by
  obtain ⟨hrising, heach, hfilling, howners, hscreen⟩ := h
  refine ⟨⟨hrising, heach, hfilling, howners⟩, fun e he m hm => ?_⟩
  obtain ⟨f, hf, -⟩ := hscreen e he m hm
  exact ⟨f, hf, trivial⟩

/-- A READY slot has an owner, and its owner a record. -/
theorem State.poolLaw.readyAt (h : s.poolLaw) {e : Nat × Slot} (he : e ∈ s.pnt.slots)
    (hready : e.2.content.isFilling = false) : ∃ m r f, e = (e.1, ⟨some m, .ready r⟩) ∧ s.readyAt e.1 m r f := by
  obtain ⟨k, field, content⟩ := e
  cases content with
  | filling inputs discard => exact nomatch hready
  | ready r =>
    obtain ⟨m, rfl⟩ := Option.isSome_iff_exists.1 (h.slots.each _ he).2
    obtain ⟨f, hf, -⟩ := h.owners _ he m rfl
    exact ⟨m, r, f, rfl, he, hf⟩

/-- A READY slot is committed: its cells go to the plane, and its field is rewritten or goes FREE (R107, R109). -/
theorem State.commitSlot_of_ready {r : Rendered} {f : Field} (h : s.poolLaw) (hready : s.readyAt k m r f) :
    s.commitSlot n k =
      match r.kind with
      | .value => (s.putCells k f r).putField m (f.committed r n)
      | .blank => (s.putCells k f r).release m n := by
  unfold State.commitSlot
  rw [show Store.find? k s.pnt.slots = _ from Store.find?_of_mem h.slots.rising hready.1]
  dsimp only
  rw [hready.2]
  rfl

/-- No READY slot with this number: nothing is committed. -/
theorem State.commitSlot_of_not_ready (h : ∀ m r f, ¬s.readyAt k m r f) : s.commitSlot n k = s := by
  rcases s.commitSlot_cases n k with hsame | ⟨m, r, f, hslot, hf, -⟩
  · exact hsame
  · exact absurd ⟨Store.mem_of_find? hslot, hf⟩ (h m r f)

/-- A slot's other slots belong to other fields, so a field that goes FREE with its slot gives up no second one. -/
theorem State.putCells_slots_of_ready {r : Rendered} {f g : Field} (h : s.poolLaw) (hready : s.readyAt k m r f) :
    abandonSlots (fun slot => slot.field == some m) (s.putCells k g r).pnt.slots = (s.putCells k g r).pnt.slots := by
  refine abandonSlots_eq_self fun e he => beq_eq_false_iff_ne.2 fun hm => ?_
  have hsame := h.slots.owner_unique (Store.mem_erase he) hready.1 hm rfl
  exact Store.ne_of_mem_erase h.slots.rising he (by rw [hsame])

/-- What one commit leaves of the pool: every slot but a READY one of its number (R107). -/
theorem State.commitSlot_slots (h : s.poolLaw) :
    (s.commitSlot n k).pnt.slots = s.pnt.slots.filter fun e => e.2.content.isFilling || e.1 != k := by
  by_cases hready : ∃ m r f, s.readyAt k m r f
  · obtain ⟨m, r, f, hready⟩ := hready
    have herased : (s.commitSlot n k).pnt.slots = Store.erase k s.pnt.slots := by
      rw [State.commitSlot_of_ready h hready]
      cases r.kind
      · rfl
      · exact (State.release_slots _ m n).trans (State.putCells_slots_of_ready h hready)
    rw [herased, Store.erase_eq_filter k h.slots.rising]
    refine List.filter_congr fun e he => ?_
    by_cases hk : e.1 = k
    · have hsame := Store.find?_of_mem h.slots.rising he
      rw [hk, show Store.find? k s.pnt.slots = _ from Store.find?_of_mem h.slots.rising hready.1] at hsame
      rw [← Option.some.inj hsame]
      rfl
    · simp [hk]
  · have hnone : ∀ m r f, ¬s.readyAt k m r f := fun m r f hr => hready ⟨m, r, f, hr⟩
    rw [State.commitSlot_of_not_ready hnone]
    refine (List.filter_eq_self.2 fun e he => ?_).symm
    by_cases hfilling : e.2.content.isFilling = true
    · simp [hfilling]
    · obtain ⟨m, r, f, -, hr⟩ := h.readyAt he (by simpa using hfilling)
      have hk : e.1 ≠ k := fun hk => hnone m r f (hk ▸ hr)
      simp [hk]

/-- The commits of other fields leave a record alone. -/
theorem State.commitSlot_field? (h : ∀ r, (k, ⟨some m, .ready r⟩) ∉ s.pnt.slots) :
    (s.commitSlot n k).field? m = s.field? m := by
  rcases s.commitSlot_cases n k with hsame | ⟨j, r, f, hslot, -, hput | hfreed⟩
  · rw [hsame]
  · have hne : m ≠ j := by rintro rfl; exact h r (Store.mem_of_find? hslot)
    rw [hput]
    exact State.putField_otherFieldsKept _ j _ m hne
  · have hne : m ≠ j := by rintro rfl; exact h r (Store.mem_of_find? hslot)
    rw [hfreed]
    exact (State.release_leavesRecord hne).record

theorem State.commitSlot_poolLaw (h : s.poolLaw) : (s.commitSlot n k).poolLaw := by
  have hslots := State.commitSlot_slots (n := n) (k := k) h
  refine ⟨hslots ▸ h.slots.sublist List.filter_sublist, fun e he m hm => ?_⟩
  rw [hslots] at he
  obtain ⟨he, hstays⟩ := List.mem_filter.1 he
  rw [State.commitSlot_field?]
  · exact h.owners e he m hm
  · intro r hr
    obtain rfl := h.slots.owner_unique he hr hm rfl
    simp at hstays

/-! ### Several commits -/

theorem State.commitSlots_append (before after : List Nat) :
    s.commitSlots n (before ++ after) = (s.commitSlots n before).commitSlots n after := by
  induction before generalizing s with
  | nil => rfl
  | cons k rest ih => exact ih

theorem State.commitSlots_poolLaw (l : List Nat) (h : s.poolLaw) : (s.commitSlots n l).poolLaw := by
  induction l generalizing s with
  | nil => exact h
  | cons k rest ih => exact ih (State.commitSlot_poolLaw h)

/-- The READY slots with the numbers named become FREE, and a FILLING one stays (R107, R109). -/
theorem State.commitSlots_slots (l : List Nat) (h : s.poolLaw) :
    (s.commitSlots n l).pnt.slots = s.pnt.slots.filter fun e => e.2.content.isFilling || !l.contains e.1 := by
  induction l generalizing s with
  | nil => exact (List.filter_eq_self.2 fun e _ => by simp).symm
  | cons k rest ih =>
    rw [State.commitSlots, ih (State.commitSlot_poolLaw h), State.commitSlot_slots h, List.filter_filter]
    refine List.filter_congr fun e _ => ?_
    rw [List.contains_cons, Bool.not_or, Bool.or_and_distrib_left]
    exact Bool.and_comm _ _

theorem State.commitSlots_field? (l : List Nat) (h : s.poolLaw)
    (hother : ∀ j ∈ l, ∀ r, (j, ⟨some m, .ready r⟩) ∉ s.pnt.slots) : (s.commitSlots n l).field? m = s.field? m := by
  induction l generalizing s with
  | nil => rfl
  | cons j rest ih =>
    refine (ih (State.commitSlot_poolLaw h) fun i hi r hr => ?_).trans
      (State.commitSlot_field? (hother j List.mem_cons_self))
    rw [State.commitSlot_slots h] at hr
    exact hother i (List.mem_cons_of_mem _ hi) r (List.mem_filter.1 hr).1

theorem State.commitSlots_boundary (l : List Nat) : (s.commitSlots n l).boundary = s.boundary := by
  induction l generalizing s with
  | nil => rfl
  | cons k rest ih =>
    refine ih.trans ?_
    rcases s.commitSlot_cases n k with hsame | ⟨m, r, f, -, -, hput | hfreed⟩
    · rw [hsame]
    · rw [hput]; rfl
    · rw [hfreed]; exact ((s.putCells k f r).release_leavesLine m n).boundary

theorem State.commitAll_of_unfrozen (hfrozen : s.scr.frozen = false) :
    s.commitAll n = s.commitSlots n (List.range slotCount) := by
  rw [State.commitAll, if_neg (by simp [hfrozen])]

/-- The commits before and after the one of a slot. -/
theorem State.commitAll_around (hfrozen : s.scr.frozen = false) (hk : k < 32) :
    ∃ before after, k ∉ before ∧ k ∉ after ∧
      s.commitAll n = ((s.commitSlots n before).commitSlot n k).commitSlots n after := by
  obtain ⟨before, after, hsplit⟩ := List.append_of_mem (List.mem_range.2 hk)
  have hnodup : (before ++ k :: after).Nodup := hsplit ▸ List.nodup_range
  rw [List.nodup_middle, List.nodup_cons, List.mem_append, not_or] at hnodup
  refine ⟨before, after, hnodup.1.1, hnodup.1.2, ?_⟩
  rw [State.commitAll_of_unfrozen hfrozen, slotCount, hsplit]
  exact State.commitSlots_append before (k :: after)

theorem State.commitAll_slots (hfrozen : s.scr.frozen = false) (h : s.poolLaw) :
    (s.commitAll n).pnt.slots = s.pnt.slots.filter fun e => e.2.content.isFilling := by
  rw [State.commitAll_of_unfrozen hfrozen, State.commitSlots_slots _ h]
  refine List.filter_congr fun e he => ?_
  have hk : e.1 < slotCount := (h.slots.each e he).1
  simp [hk]

/-! ### One field's commit among the others -/

/-- No second slot belongs to the owner of a slot. -/
theorem State.readyAt.other {r : Rendered} {f : Field} (hready : s.readyAt k m r f) (h : s.poolLaw) {l : List Nat}
    (hl : k ∉ l) : ∀ j ∈ l, ∀ q, (j, ⟨some m, .ready q⟩) ∉ s.pnt.slots := by
  intro j hj q hq
  obtain rfl : j = k := congrArg Prod.fst (h.slots.owner_unique hq hready.1 rfl rfl)
  exact hl hj

/-- The commits of other slots leave a READY slot and its field alone. -/
theorem State.readyAt.commitSlots {r : Rendered} {f : Field} (hready : s.readyAt k m r f) (h : s.poolLaw) {l : List Nat}
    (hl : k ∉ l) : (s.commitSlots n l).readyAt k m r f := by
  refine ⟨?_, (State.commitSlots_field? l h (hready.other h hl)).trans hready.2⟩
  rw [State.commitSlots_slots l h]
  exact List.mem_filter.2 ⟨hready.1, by simpa using hl⟩

theorem State.mem_slots_of_commitSlot (h : s.poolLaw) {e : Nat × Slot} (he : e ∈ (s.commitSlot n k).pnt.slots) :
    e ∈ s.pnt.slots := by
  rw [State.commitSlot_slots h] at he
  exact (List.mem_filter.1 he).1

/-- A slot that is still READY after another's commit was READY before, with the same record. -/
theorem State.readyAt_of_commitSlot {j : Nat} {r : Rendered} {f : Field} (h : s.poolLaw)
    (hready : (s.commitSlot n k).readyAt j m r f) : s.readyAt j m r f := by
  obtain ⟨hslot, hf⟩ := hready
  have hbefore := State.mem_slots_of_commitSlot h hslot
  refine ⟨hbefore, (State.commitSlot_field? fun q hq => ?_).symm.trans hf⟩
  obtain rfl : k = j := congrArg Prod.fst (h.slots.owner_unique hq hbefore rfl rfl)
  rw [State.commitSlot_slots h] at hslot
  simpa using (List.mem_filter.1 hslot).2

/-! ### Fields that are FREE and on no list (R23) -/

/-- A number whose record is FREE and that stands on no list. -/
def State.vacant (s : State) (m : Nat) : Prop :=
  s.field? m = none ∧ m ∉ s.scanOrder ∧ m ∉ s.aeu.alertList ∧ ∀ w ∈ s.aeu.watchList, w.field ≠ m

theorem State.release_scanOrder : (s.release m n).scanOrder = s.scanOrder.filter fun j => j != m :=
  State.removeEntry_scanOrder m n

theorem State.release_vacant (h : Store.rising s.fields = true) : (s.release m n).vacant m := by
  refine ⟨?_, ?_, ?_, fun w hw => ?_⟩
  · rw [State.field?, State.release_fields, Store.find?_erase_self m h]
  · simp [State.release_scanOrder]
  · simp [State.release]
  · simp only [State.release, State.removeEntry_aeu.watchList, List.mem_filter, bne_iff_ne] at hw
    exact hw.2

theorem State.vacant.release {j : Nat} (h : s.vacant m) (hne : m ≠ j) : (s.release j n).vacant m := by
  obtain ⟨hfree, hqueue, halerts, hwatch⟩ := h
  refine ⟨(State.release_leavesRecord hne).record.trans hfree, ?_, ?_, fun w hw => hwatch w ?_⟩
  · rw [State.release_scanOrder]
    exact fun hin => hqueue (List.mem_filter.1 hin).1
  · simp [State.release, halerts]
  · simp only [State.release, State.removeEntry_aeu.watchList, List.mem_filter] at hw
    exact hw.1

/-- A commit is of a field in use. -/
theorem State.vacant.commitSlot (h : s.vacant m) : (s.commitSlot n k).vacant m := by
  rcases s.commitSlot_cases n k with hsame | ⟨j, r, f, -, hf, hput | hfreed⟩
  · rwa [hsame]
  · have hne : m ≠ j := by rintro rfl; exact nomatch h.1.symm.trans hf
    rw [hput]
    exact ⟨(State.putField_otherFieldsKept _ j _ m hne).trans h.1, h.2⟩
  · have hne : m ≠ j := by rintro rfl; exact nomatch h.1.symm.trans hf
    rw [hfreed]
    exact State.vacant.release (s := s.putCells k f r) h hne

theorem State.vacant.commitSlots (l : List Nat) (h : s.vacant m) : (s.commitSlots n l).vacant m := by
  induction l generalizing s with
  | nil => exact h
  | cons k rest ih => exact ih h.commitSlot

/-! ### The record of a field after its commit (R107, R109) -/

theorem State.commitSlots_rising (l : List Nat) (h : Store.rising s.fields = true) :
    Store.rising (s.commitSlots n l).fields = true := by
  induction l generalizing s with
  | nil => exact h
  | cons k rest ih =>
    refine ih ?_
    rcases s.commitSlot_cases n k with hsame | ⟨m, r, f, -, -, hput | hfreed⟩
    · rwa [hsame]
    · rw [hput]; exact Store.rising_insert _ _ h
    · rw [hfreed, State.release_fields]; exact Store.rising_erase _ h

theorem State.commitAll_value {r : Rendered} {f : Field} (hfrozen : s.scr.frozen = false) (h : s.poolLaw)
    (hready : s.readyAt k m r f) (hkind : r.kind = .value) : (s.commitAll n).field? m = some (f.committed r n) := by
  obtain ⟨before, after, hbefore, hafter, hall⟩ := State.commitAll_around (n := n) hfrozen (h.slots.each _ hready.1).1
  have hpool := State.commitSlots_poolLaw (n := n) before h
  have hstill := hready.commitSlots (n := n) h hbefore
  have hothers : ∀ j ∈ after, ∀ q,
      (j, ⟨some m, .ready q⟩) ∉ ((s.commitSlots n before).commitSlot n k).pnt.slots := fun j hj q hq =>
    hstill.other hpool hafter j hj q (State.mem_slots_of_commitSlot hpool hq)
  rw [hall, State.commitSlots_field? after (State.commitSlot_poolLaw hpool) hothers,
    State.commitSlot_of_ready hpool hstill, hkind]
  exact State.putField_field?_self _ m _

theorem State.commitAll_blank {r : Rendered} {f : Field} (hfrozen : s.scr.frozen = false) (h : s.poolLaw)
    (hrising : Store.rising s.fields = true) (hready : s.readyAt k m r f) (hkind : r.kind = .blank) :
    (s.commitAll n).vacant m := by
  obtain ⟨before, after, hbefore, -, hall⟩ := State.commitAll_around (n := n) hfrozen (h.slots.each _ hready.1).1
  have hstill := hready.commitSlots (n := n) h hbefore
  rw [hall]
  refine State.vacant.commitSlots after ?_
  rw [State.commitSlot_of_ready (State.commitSlots_poolLaw before h) hstill, hkind]
  exact State.release_vacant (State.commitSlots_rising (n := n) before hrising)

end Sys2Proof.Machine
end

section
/-! The plane under commits (R9, R107 to R110): a READY slot's cells stand over its field's extent, and every other cell stays. -/

namespace Sys2Proof.Machine

variable {s : State} {k m place : Nat} {n : FrameNo}

/-! ### A run of cells on the plane -/

theorem Memory.read_writeRun_inside {plane : List (Nat × Cell)} {cells : List Cell} {start i : Nat}
    (h : Memory.wf plane = true) (hi : i < cells.length) :
    cells[i]? = some (Memory.read (Memory.writeRun plane start cells) (start + i)) := by
  rw [Memory.read_writeRun _ _ _ _ h, if_pos (Nat.le_add_right _ _), Nat.add_sub_cancel_left, List.getElem?_eq_getElem hi]
  rfl

theorem Memory.read_writeRun_outside {plane : List (Nat × Cell)} {cells : List Cell} {start : Nat}
    (h : Memory.wf plane = true) (hout : ¬(start ≤ place ∧ place < start + cells.length)) :
    Memory.read (Memory.writeRun plane start cells) place = Memory.read plane place := by
  rw [Memory.read_writeRun _ _ _ _ h]
  split
  · rw [List.getElem?_eq_none (by omega)]
    rfl
  · rfl

/-! ### Extents (R8, R9) -/

/-- A field's extent lies in its row: where it covers a place, the place has the field's row, and one of its columns. -/
theorem Field.row_of_covers {f : Field} {g : Geometry} (hin : f.inBounds g = true) (h : f.covers g place = true) :
    place / g.columns = f.row ∧ f.column ≤ place % g.columns ∧ place % g.columns < f.column + f.width := by
  obtain ⟨hlow, hhigh⟩ := (f.covers_iff g place).1 h
  have hcolumns : f.column + f.width ≤ g.columns := by
    rw [Field.inBounds, Bool.and_eq_true, decide_eq_true_iff, decide_eq_true_iff] at hin
    exact hin.2
  obtain ⟨c, rfl⟩ := Nat.exists_eq_add_of_le (Nat.le_of_add_right_le hlow)
  have hc : c < g.columns := by omega
  rw [Nat.mul_comm, Nat.mul_add_div (by omega), Nat.mul_add_mod, Nat.div_eq_of_lt hc, Nat.mod_eq_of_lt hc]
  rw [Nat.mul_comm] at hlow hhigh
  exact ⟨rfl, by omega, by omega⟩

theorem Page.meets_of_visibleOn {p q : Page} {selected : BitVec 2} (hp : p.visibleOn selected = true)
    (hq : q.visibleOn selected = true) : p.meets q = true := by
  cases p with
  | common => rfl
  | numbered a =>
    cases q with
    | common => rfl
    | numbered b => exact beq_iff_eq.2 ((beq_iff_eq.1 hp).trans (beq_iff_eq.1 hq).symm)

/-- Two visible fields in use share no cell (R9). -/
theorem State.placementLaw.extents_apart {j : Nat} {f g : Field} (h : s.placementLaw) (hf : s.field? m = some f)
    (hg : s.field? j = some g) (hne : m ≠ j) (hvf : s.shows f = true) (hvg : s.shows g = true)
    (hcovers : f.covers s.scr.geometry place = true) : g.covers s.scr.geometry place = false := by
  have hmf := Store.mem_of_find? hf
  have hmg := Store.mem_of_find? hg
  have hapart : f.conflicts g = false := h.1 _ hmf _ hmg hne
  have hinf : f.inBounds s.scr.geometry = true := h.2 _ hmf
  have hing : g.inBounds s.scr.geometry = true := h.2 _ hmg
  rw [Field.conflicts, Page.meets_of_visibleOn hvf hvg, Bool.true_and] at hapart
  by_contra hboth
  obtain ⟨hrow, hleft, hright⟩ := Field.row_of_covers hinf hcovers
  obtain ⟨hrow', hleft', hright'⟩ := Field.row_of_covers hing (by simpa using hboth)
  simp only [Field.overlaps, Bool.and_eq_false_iff, beq_eq_false_iff_ne, decide_eq_false_iff_not] at hapart
  omega

/-- The READY slots' cells fill their fields' extents, and no two of these share a cell (R9, R73). -/
structure State.extentLaw (s : State) : Prop where
  width : ∀ k m r f, s.readyAt k m r f → r.cells.length = f.width
  apart : ∀ k m r f j m' q g, s.readyAt k m r f → s.readyAt j m' q g → k ≠ j →
    ∀ place, f.covers s.scr.geometry place = true → g.covers s.scr.geometry place = false

theorem State.extentLaw_of_laws (hplace : s.placementLaw) (hslots : s.slotLaw) (hcells : s.cellsLaw) : s.extentLaw := by
  obtain ⟨hpool, hfits⟩ := s.slotLaw_and_cellsLaw_iff.1 ⟨hslots, hcells⟩
  have hfit : ∀ k m r f, s.readyAt k m r f → s.shows f = true ∧ r.cells.length = f.width := by
    rintro k m r f ⟨hslot, hf⟩
    obtain ⟨g, hg, hv, hwidth⟩ := hfits _ hslot m rfl
    obtain rfl := Option.some.inj (hg.symm.trans hf)
    exact ⟨hv, hwidth⟩
  refine ⟨fun k m r f hr => (hfit k m r f hr).2, fun k m r f j m' q g hr hq hkj place => ?_⟩
  refine hplace.extents_apart hr.2 hq.2 ?_ (hfit _ _ _ _ hr).1 (hfit _ _ _ _ hq).1
  rintro rfl
  exact hkj (congrArg Prod.fst (hpool.owner_unique hr.1 hq.1 rfl rfl))

/-! ### The plane after commits -/

theorem State.commitSlot_geometry : (s.commitSlot n k).scr.geometry = s.scr.geometry :=
  (s.commitSlot_samePanelBut n k).settings.geometry

theorem State.commitSlot_plane {r : Rendered} {f : Field} (h : s.poolLaw) (hready : s.readyAt k m r f) :
    (s.commitSlot n k).scr.plane =
      Memory.writeRun s.scr.plane (s.scr.geometry.place f.row f.column) r.cells := by
  rw [State.commitSlot_of_ready h hready]
  cases r.kind
  · rfl
  · exact congrArg Screen.plane (State.release_scr _ m n)

/-- No READY slot among those with the numbers named covers a place with its cells. -/
def State.clearOf (s : State) (l : List Nat) (place : Nat) : Prop :=
  ∀ k ∈ l, ∀ m r f, s.readyAt k m r f → r.cells.length = f.width ∧ f.covers s.scr.geometry place = false

theorem State.commitSlot_read (h : s.poolLaw) (hplane : s.planeCanonical) (hclear : s.clearOf [k] place) :
    Memory.read (s.commitSlot n k).scr.plane place = Memory.read s.scr.plane place := by
  by_cases hready : ∃ m r f, s.readyAt k m r f
  · obtain ⟨m, r, f, hready⟩ := hready
    obtain ⟨hwidth, hout⟩ := hclear k List.mem_cons_self m r f hready
    rw [State.commitSlot_plane h hready]
    refine Memory.read_writeRun_outside hplane ?_
    rw [hwidth]
    exact fun hin => absurd ((f.covers_iff _ _).2 hin) (by simp [hout])
  · rw [State.commitSlot_of_not_ready fun m r f hr => hready ⟨m, r, f, hr⟩]

theorem State.clearOf.commitSlot {l : List Nat} (h : s.poolLaw) (hclear : s.clearOf l place) :
    (s.commitSlot n k).clearOf l place := fun j hj m r f hr => by
  rw [State.commitSlot_geometry]
  exact hclear j hj m r f (State.readyAt_of_commitSlot h hr)

theorem State.commitSlots_read (l : List Nat) (h : s.poolLaw) (hplane : s.planeCanonical) (hclear : s.clearOf l place) :
    Memory.read (s.commitSlots n l).scr.plane place = Memory.read s.scr.plane place := by
  induction l generalizing s with
  | nil => rfl
  | cons k rest ih =>
    have hfirst : s.clearOf [k] place := fun j hj => hclear j (List.mem_cons.2 (.inl (List.mem_singleton.1 hj)))
    have hrest : s.clearOf rest place := fun j hj => hclear j (List.mem_cons_of_mem _ hj)
    exact (ih (State.commitSlot_poolLaw h) (State.commitSlot_planeCanonical n k hplane) (hrest.commitSlot h)).trans
      (State.commitSlot_read h hplane hfirst)

theorem State.commitSlots_planeCanonical (l : List Nat) (h : s.planeCanonical) : (s.commitSlots n l).planeCanonical := by
  induction l generalizing s with
  | nil => exact h
  | cons k rest ih => exact ih (State.commitSlot_planeCanonical n k h)

theorem State.commitSlots_geometry (l : List Nat) : (s.commitSlots n l).scr.geometry = s.scr.geometry := by
  induction l generalizing s with
  | nil => rfl
  | cons k rest ih => exact ih.trans State.commitSlot_geometry

theorem State.readyAt_of_commitSlots {j : Nat} {r : Rendered} {f : Field} (l : List Nat) (h : s.poolLaw)
    (hready : (s.commitSlots n l).readyAt j m r f) : s.readyAt j m r f := by
  induction l generalizing s with
  | nil => exact hready
  | cons k rest ih => exact State.readyAt_of_commitSlot h (ih (State.commitSlot_poolLaw h) hready)

/-- A place that no READY slot's field covers keeps its cell (R107). -/
theorem State.commitAll_read_outside (hfrozen : s.scr.frozen = false) (h : s.poolLaw) (hplane : s.planeCanonical)
    (hextents : s.extentLaw) (hout : ∀ k m r f, s.readyAt k m r f → f.covers s.scr.geometry place = false) :
    Memory.read (s.commitAll n).scr.plane place = Memory.read s.scr.plane place := by
  rw [State.commitAll_of_unfrozen hfrozen]
  exact State.commitSlots_read _ h hplane fun k _ m r f hr => ⟨hextents.width k m r f hr, hout k m r f hr⟩

/-- A READY slot's cells stand over its field's extent after the commits, because the later ones write elsewhere (R9, R107). -/
theorem State.commitAll_read_inside {r : Rendered} {f : Field} {i : Nat} (hfrozen : s.scr.frozen = false) (h : s.poolLaw)
    (hplane : s.planeCanonical) (hextents : s.extentLaw) (hready : s.readyAt k m r f) (hi : i < f.width) :
    r.cells[i]? =
      some (Memory.read (s.commitAll n).scr.plane (s.scr.geometry.place f.row f.column + i)) := by
  obtain ⟨before, after, hbefore, hafter, hall⟩ := State.commitAll_around (n := n) hfrozen (h.slots.each _ hready.1).1
  have hwidth := hextents.width k m r f hready
  have hpool := State.commitSlots_poolLaw (n := n) before h
  have hcanonical := State.commitSlots_planeCanonical (n := n) before hplane
  have hcovers : f.covers s.scr.geometry (s.scr.geometry.place f.row f.column + i) = true :=
    (f.covers_iff _ _).2 ⟨Nat.le_add_right _ _, Nat.add_lt_add_left hi _⟩
  have hclear : ((s.commitSlots n before).commitSlot n k).clearOf after
      (s.scr.geometry.place f.row f.column + i) := by
    intro j hj m' q g hq
    have hfirst := State.readyAt_of_commitSlots before h (State.readyAt_of_commitSlot hpool hq)
    rw [State.commitSlot_geometry, State.commitSlots_geometry]
    exact ⟨hextents.width j m' q g hfirst,
      hextents.apart k m r f j m' q g hready hfirst (fun hkj => hafter (hkj ▸ hj)) _ hcovers⟩
  rw [hall, State.commitSlots_read after (State.commitSlot_poolLaw hpool)
    (State.commitSlot_planeCanonical n k hcanonical) hclear, State.commitSlot_plane hpool (hready.commitSlots h hbefore),
    State.commitSlots_geometry]
  exact Memory.read_writeRun_inside hcanonical (hwidth ▸ hi)

end Sys2Proof.Machine
end

section
/-! A boundary that nothing holds up (R106 to R110): FTU's examination before or after the commits, and the commits among the other
parts. -/

namespace Sys2Proof.Machine

variable {s : State} {k m : Nat} {n : FrameNo}

/-! ### FTU's examination and the fields that are FREE -/

theorem State.mem_scanOrder_of_enqueue_other {j : Nat} (u : Bool) (hne : m ≠ j)
    (h : m ∈ (s.enqueueAtBoundary j u).scanOrder) : m ∈ s.scanOrder := by
  rw [State.mem_scanOrder_iff] at h ⊢
  rw [State.enqueueAtBoundary_pnt] at h
  rcases s.enqueue_pnt_cases j u with ⟨hpnt, -⟩ | ⟨f, -, -, -, ⟨-, -, hpnt⟩ | ⟨-, hpnt⟩⟩ <;> rw [hpnt] at h
  · exact h
  · refine h.imp (fun hu => ?_) fun hr => ?_
    · simpa [Paint.promote, hne] using hu
    · obtain ⟨e, he, rfl⟩ := List.mem_map.1 hr
      exact List.mem_map_of_mem (List.mem_filter.1 he).1
  · rw [Paint.append] at h
    generalize (u || f.options.urgent) = urgent at h
    cases urgent <;> simpa [hne, hne.symm] using h

theorem mem_addWatch {r w : WatchRecord} {list : List WatchRecord} (h : w ∈ addWatch r list) : w = r ∨ w ∈ list := by
  rw [addWatch_eq] at h
  split at h
  · simpa [or_comm] using h
  · exact .inr h

theorem State.expireField_alertList (j : Nat) (f : Field) (n : FrameNo) :
    (s.expireField j f n).aeu.alertList = s.aeu.alertList := by
  rw [State.expireField_eq, State.latchOpen_aeu.alertList, State.enqueueAtBoundary_aeu.alertList, State.expiryTaken]
  dsimp only
  split <;> rfl

theorem State.mem_watchList_of_expireField {j : Nat} {f : Field} {w : WatchRecord}
    (h : w ∈ (s.expireField j f n).aeu.watchList) : w.field = j ∨ w ∈ s.aeu.watchList := by
  rw [State.expireField_eq, State.latchOpen_aeu.watchList, State.enqueueAtBoundary_aeu.watchList, State.expiryTaken] at h
  dsimp only at h
  split at h
  · exact (mem_addWatch h).imp (congrArg WatchRecord.field) id
  · exact .inr h

/-- An expiry is of a field in use. -/
theorem State.vacant.expireField {j : Nat} {f : Field} (h : s.vacant m) (hf : s.field? j = some f) :
    (s.expireField j f n).vacant m := by
  obtain ⟨hfree, hqueue, halerts, hwatch⟩ := h
  have hne : m ≠ j := by rintro rfl; exact nomatch hfree.symm.trans hf
  refine ⟨?_, fun hin => hqueue ?_, ?_, fun w hw => ?_⟩
  · rw [State.expireField_field?]
    exact (s.putField_otherFieldsKept j _ m hne).trans hfree
  · rw [State.scanOrder, State.expireField_pnt] at hin
    have hbefore := State.mem_scanOrder_of_enqueue_other false hne hin
    rw [State.expiryTaken_eq] at hbefore
    exact hbefore
  · rwa [State.expireField_alertList]
  · rcases State.mem_watchList_of_expireField hw with rfl | hw
    · exact hne.symm
    · exact hwatch w hw

theorem State.vacant.examineAll (l : List Nat) (h : s.vacant m) : (s.examineAll n l).vacant m := by
  induction l generalizing s with
  | nil => exact h
  | cons j rest ih =>
    refine ih ?_
    unfold State.examine
    split
    · split
      · exact h.expireField ‹_›
      · exact h
    · exact h

theorem State.vacant.takeExpiries (h : s.vacant m) : (s.takeExpiries n).vacant m := by
  unfold State.takeExpiries
  split
  · exact h
  · split
    · exact h
    · exact h.examineAll _

theorem State.vacant.latchFrameIf (now : Bool) (h : s.vacant m) : (s.latchFrameIf now n).vacant m := by
  unfold State.latchFrameIf
  split
  · simpa [State.vacant, State.field?, State.scanOrder] using h
  · exact h

/-! ### The parts before the commits -/

theorem State.takeExpiries_slots : (s.takeExpiries n).pnt.slots = s.pnt.slots := by
  unfold State.takeExpiries
  split
  · rfl
  · split
    · rfl
    · exact (State.examineAll_examinesFor (m := 0) _).slots

/-- The boundary up to the commits, where no page and no configuration is applied. -/
def State.preparedPart (s : State) (order : BoundaryOrder) : State :=
  ((s.earlyPart order).expireFreeze s.boundaryNumber).age.judgeBlink s.boundaryNumber

/-- A boundary that no block has begun, of a part that is not frozen, with no operation waiting. -/
structure State.unhindered (s : State) : Prop where
  boundary : s.boundary = none
  frozen : s.scr.frozen = false
  page : s.msg.pendingPage = none
  configure : s.msg.pendingConfigure = none

theorem State.unhindered.nothingApplied (h : s.unhindered) : s.nothingApplied n := .inr ⟨h.page, h.configure⟩

theorem State.unhindered.oneWaits (h : s.unhindered) : s.oneWaits := fun _ hc => nomatch hc.symm.trans h.configure

/-- FTU has every field still to examine (R125, R126). -/
theorem State.unhindered.awaits (h : s.unhindered) (m : Nat) : s.started.awaits m :=
  ⟨_, rfl, by simp [State.begun, h.boundary, h.frozen], by simp [State.begun, h.boundary]⟩

theorem State.unhindered.boundaryWork_eq (h : s.unhindered) (order : BoundaryOrder) :
    s.boundaryWork order =
      (((s.preparedPart order).commitAll s.boundaryNumber).takeExpiries s.boundaryNumber).latchFrameIf
        (!order.frameFirst) s.boundaryNumber :=
  State.boundaryWork_of_nothingApplied order h.oneWaits h.nothingApplied

theorem State.earlyPart_slots (order : BoundaryOrder) : (s.earlyPart order).pnt.slots = s.pnt.slots := by
  rw [State.earlyPart_eq]
  have hlatched : (s.started.latchFrameIf order.frameFirst s.boundaryNumber).pnt.slots = s.pnt.slots :=
    (State.latchFrameIf_sameTable ..).slots
  have hexamined := State.takeExpiries_slots (n := s.boundaryNumber).trans hlatched
  cases order.ftuFirst <;> cases order.agingFirst
  · exact hlatched
  · exact (State.age_sameTable _).slots.trans hlatched
  · exact hexamined
  · exact (State.age_sameTable _).slots.trans hexamined

theorem State.preparedPart_slots (order : BoundaryOrder) : (s.preparedPart order).pnt.slots = s.pnt.slots :=
  (State.judgeBlink_sameTable ..).slots.trans <| (State.age_sameTable _).slots.trans <|
    (State.expireFreeze_sameTable ..).slots.trans (s.earlyPart_slots order)

/-- The parts before the commits change of SCR what SCR's first work changes, and the blink phase. -/
theorem State.unhindered.preparedPart_scr (h : s.unhindered) (order : BoundaryOrder) :
    (s.preparedPart order).scr = { s.started.scr with blinkOn := (s.preparedPart order).scr.blinkOn } := by
  have hdue : (s.earlyPart order).freezeDue s.boundaryNumber = false := by
    rw [State.earlyPart_freezeDue, State.freezeDue, h.frozen]
    rfl
  have hpart : s.preparedPart order = (s.earlyPart order).age.judgeBlink s.boundaryNumber := by
    rw [State.preparedPart, State.expireFreeze_of_not_due _ hdue]
  have haged : (s.earlyPart order).age.scr = s.started.scr :=
    (State.age_samePanel _).scr.trans (s.earlyPart_samePanel order).scr
  have hjudged := (State.judgeBlink_samePanelBut (s.earlyPart order).age s.boundaryNumber).scr
  rw [State.judgeBlink_plane, ← hpart, haged] at hjudged
  exact hjudged

theorem State.unhindered.preparedPart_view (h : s.unhindered) (order : BoundaryOrder) :
    (s.preparedPart order).scr.frozen = false ∧ (s.preparedPart order).scr.geometry = s.scr.geometry ∧
      (s.preparedPart order).scr.plane = s.scr.plane := by
  rw [h.preparedPart_scr order, State.started, State.startBoundary_scr]
  exact ⟨h.frozen, rfl, rfl⟩

/-- Before the commits FTU has taken a field's expiries, or leaves the field alone and has it still to examine (R125). -/
theorem State.unhindered.preparedPart_record (h : s.unhindered) (order : BoundaryOrder) (hm : m < 512) :
    ((s.preparedPart order).field? m = (s.field? m).map (Field.expired · s.boundaryNumber) ∧ (s.preparedPart order).passed m) ∨
      ((s.preparedPart order).field? m = s.field? m ∧ (s.preparedPart order).awaits m) := by
  have hlatched : s.started.leavesRecord (s.started.latchFrameIf order.frameFirst s.boundaryNumber) m :=
    State.latchFrameIf_leavesRecord _
  have hlate : (s.earlyPart order).leavesRecord (s.preparedPart order) m :=
    State.expireFreeze_leavesRecord.trans (State.age_leavesRecord.trans State.judgeBlink_leavesRecord)
  rw [State.earlyPart_eq] at hlate
  cases hfirst : order.ftuFirst <;> rw [hfirst] at hlate
  · have hleft := (hlatched.trans (State.ageIf_leavesRecord _)).trans hlate
    exact .inr ⟨hleft.record, hleft.awaits (h.awaits m)⟩
  · have hexamined := (hlatched.examines (State.takeExpiries_examinesRecord hm (hlatched.awaits (h.awaits m)))).leaves
      ((State.ageIf_leavesRecord _).trans hlate)
    exact .inl ⟨hexamined.record, hexamined.passed⟩

/-- The parts before the commits leave a READY slot and where its field stands. -/
theorem State.unhindered.preparedPart_readyAt (h : s.unhindered) (order : BoundaryOrder) {r : Rendered} {f : Field}
    (hm : m < 512) (hready : s.readyAt k m r f) :
    ((s.preparedPart order).readyAt k m r (f.expired s.boundaryNumber) ∧ (s.preparedPart order).passed m) ∨
      ((s.preparedPart order).readyAt k m r f ∧ (s.preparedPart order).awaits m) := by
  obtain ⟨hslot, hf⟩ := hready
  rw [← s.preparedPart_slots order] at hslot
  rcases h.preparedPart_record order hm with ⟨hrecord, hpassed⟩ | ⟨hrecord, hawaits⟩ <;> rw [hf] at hrecord
  · exact .inl ⟨⟨hslot, hrecord⟩, hpassed⟩
  · exact .inr ⟨⟨hslot, hrecord⟩, hawaits⟩

end Sys2Proof.Machine
end
section
/-! A boundary's commits (R106 to R110), with FTU's examination before or after them. -/

namespace Sys2Proof.Machine

variable {s : State} {k m : Nat} {n : FrameNo}

/-! ### The laws before the commits -/

/-- What the commits of a boundary rest on: nothing holds them up, and the laws of the records, the pool, the extents and the plane
hold. -/
structure State.commitLaws (s : State) : Prop where
  free : s.unhindered
  records : s.recordLaw
  pool : s.poolLaw
  extents : s.extentLaw
  plane : s.planeCanonical

theorem State.commitLaws.lt_of_owner (h : s.commitLaws) {e : Nat × Slot} (he : e ∈ s.pnt.slots)
    (hm : e.2.field = some m) : m < 512 := by
  obtain ⟨f, hf, -⟩ := h.pool.owners e he m hm
  exact h.records.1.2 _ (Store.mem_of_find? hf)

/-- A READY slot before the commits was READY before the boundary, and its field stands where it stood. -/
theorem State.commitLaws.readyAt_of_preparedPart (h : s.commitLaws) (order : BoundaryOrder) {r : Rendered} {g : Field}
    (hready : (s.preparedPart order).readyAt k m r g) : ∃ f, s.readyAt k m r f ∧ f.mayBecome g := by
  obtain ⟨hslot, hg⟩ := hready
  rw [s.preparedPart_slots order] at hslot
  obtain ⟨f, hf, -⟩ := h.pool.owners _ hslot m rfl
  refine ⟨f, ⟨hslot, hf⟩, ?_⟩
  rcases h.free.preparedPart_record order (h.lt_of_owner hslot rfl) with ⟨hrecord, -⟩ | ⟨hrecord, -⟩ <;>
    rw [hf, hg] at hrecord <;> obtain rfl := Option.some.inj hrecord
  · exact f.expired_mayBecome _
  · exact g.mayBecome_refl

theorem Field.mayBecome.covers_eq {f g : Field} (h : f.mayBecome g) (x : Geometry) : g.covers x = f.covers x := by
  funext place
  simp [Field.covers, h.row, h.column, h.width]

theorem State.commitLaws.preparedPart_pool (h : s.commitLaws) (order : BoundaryOrder) : (s.preparedPart order).poolLaw := by
  have hslots := s.preparedPart_slots order
  refine ⟨hslots ▸ h.pool.slots, fun e he j hj => ?_⟩
  rw [hslots] at he
  obtain ⟨f, hf, -⟩ := h.pool.owners e he j hj
  rcases h.free.preparedPart_record order (h.lt_of_owner he hj) with ⟨hrecord, -⟩ | ⟨hrecord, -⟩ <;> rw [hf] at hrecord
  · exact ⟨_, hrecord, trivial⟩
  · exact ⟨_, hrecord, trivial⟩

theorem State.preparedPart_keeps (s : State) (order : BoundaryOrder) : s.keepsFieldLaws (s.preparedPart order) := by
  have hstarted : s.sameTable s.started := by
    constructor <;> rw [State.started]
    all_goals rw [State.startBoundary_scr]
  have hlatched := hstarted.keeps.trans (State.latchFrameIf_sameTable s.started order.frameFirst s.boundaryNumber).keeps
  have hexamined := hlatched.trans (State.takeExpiries_keeps _ s.boundaryNumber)
  have hearly : s.keepsFieldLaws (s.earlyPart order) := by
    rw [State.earlyPart_eq]
    cases order.ftuFirst <;> cases order.agingFirst
    · exact hlatched
    · exact hlatched.trans (State.age_sameTable _).keeps
    · exact hexamined
    · exact hexamined.trans (State.age_sameTable _).keeps
  exact hearly.trans <| (State.expireFreeze_sameTable ..).keeps.trans <| (State.age_sameTable _).keeps.trans
    (State.judgeBlink_sameTable ..).keeps

theorem State.commitLaws.preparedPart_extents (h : s.commitLaws) (order : BoundaryOrder) :
    (s.preparedPart order).extentLaw := by
  obtain ⟨-, hgeometry, -⟩ := h.free.preparedPart_view order
  refine ⟨fun k m r g hr => ?_, fun k m r f j m' q g hr hq hkj place => ?_⟩
  · obtain ⟨f, hf, hm⟩ := h.readyAt_of_preparedPart order hr
    rw [hm.width]
    exact h.extents.width k m r f hf
  · obtain ⟨f', hf, hm⟩ := h.readyAt_of_preparedPart order hr
    obtain ⟨g', hg, hm'⟩ := h.readyAt_of_preparedPart order hq
    rw [hgeometry, hm.covers_eq, hm'.covers_eq]
    exact h.extents.apart k m r f' j m' q g' hf hg hkj place

theorem State.commitLaws.preparedPart_plane (h : s.commitLaws) (order : BoundaryOrder) :
    (s.preparedPart order).planeCanonical := by
  rw [State.planeCanonical, (h.free.preparedPart_view order).2.2]
  exact h.plane

/-! ### The record of a field after its commit and its expiries -/

/-- A flash deadline that the boundary itself gives is not reached at it, since a flash lasts at most 255 frames (R83, R108,
R124). -/
theorem dueAt_flash_started {length : Nat} (hpos : length ≠ 0) (hlow : length ≤ 255) (n : FrameNo) :
    dueAt (some (n + BitVec.ofNat 32 length)) n = false := by
  rw [← Bool.not_eq_true, dueAt_iff]
  rintro ⟨d, hd, hreached⟩
  obtain rfl := Option.some.inj hd
  bv_omega

/-- A marked slot's commit starts the flash of a LIVE field whose stale expiry is not due, whichever of the two comes first
(R108, R127). -/
theorem Field.flash_of_commit {f g : Field} {r : Rendered}
    (hg : g = (f.expired n).committed r n ∨ g = (f.committed r n).expired n) (hstart : r.flashStart = true)
    (hlive : f.state = .live) (hstale : ¬deadlineReached f.staleDeadline n) (hpos : f.flashLength ≠ 0)
    (hlow : f.flashLength ≤ 255) : g.flashDeadline = some (n + BitVec.ofNat 32 f.flashLength) := by
  rw [← dueAt_iff, Bool.not_eq_true] at hstale
  rcases hg with rfl | rfl
  · have hstate : (f.expired n).state = .live := by simp [Field.expired, hstale, hlive]
    rw [Field.committed, hstart, hstate]
    rfl
  · have hdeadline : (f.committed r n).flashDeadline = some (n + BitVec.ofNat 32 f.flashLength) := by
      rw [Field.committed, hstart, hlive]
      rfl
    rw [Field.expired, hdeadline, dueAt_flash_started hpos hlow]
    rfl

/-- What a VALUE commit and the expiries of the same boundary make of a record, in either order (R107, R127, R128). -/
theorem Field.shows_of_commit {f g : Field} {r : Rendered}
    (hg : g = (f.expired n).committed r n ∨ g = (f.committed r n).expired n) :
    g.shown = (if r.value.isSome then r.value else f.shown) ∧
      g.shownFrame = (if r.value.isSome then some n else f.shownFrame) ∧ g.direction = r.direction ∧
      g.value = f.value ∧ g.lastPost = f.lastPost ∧ g.zone = f.zone ∧ g.alertLatched = f.alertLatched ∧
      g.overflow = f.overflow := by
  rcases hg with rfl | rfl <;> exact ⟨rfl, rfl, rfl, rfl, rfl, rfl, rfl, rfl⟩

theorem State.commitAll_boundary : (s.commitAll n).boundary = s.boundary := by
  unfold State.commitAll
  split
  · rfl
  · exact State.commitSlots_boundary _

theorem State.boundaryWork_slots (h : s.commitLaws) (order : BoundaryOrder) :
    (s.boundaryWork order).pnt.slots = s.pnt.slots.filter fun e => e.2.content.isFilling := by
  rw [h.free.boundaryWork_eq order, (State.latchFrameIf_sameTable ..).slots, State.takeExpiries_slots,
    State.commitAll_slots (h.free.preparedPart_view order).1 (h.preparedPart_pool order), s.preparedPart_slots order]

theorem State.boundaryWork_plane (h : s.commitLaws) (order : BoundaryOrder) :
    (s.boundaryWork order).scr.plane = ((s.preparedPart order).commitAll s.boundaryNumber).scr.plane := by
  rw [h.free.boundaryWork_eq order, (State.latchFrameIf_samePanel ..).scr, (State.takeExpiries_samePanel ..).scr]

/-- A VALUE commit's field after the boundary: FTU's examination came before the commit or came after it. -/
theorem State.boundaryWork_value (h : s.commitLaws) (order : BoundaryOrder) {r : Rendered} {f : Field}
    (hready : s.readyAt k m r f) (hkind : r.kind = .value) :
    ∃ g, (s.boundaryWork order).field? m = some g ∧
      (g = (f.expired s.boundaryNumber).committed r s.boundaryNumber ∨
        g = (f.committed r s.boundaryNumber).expired s.boundaryNumber) := by
  have hm := h.lt_of_owner hready.1 rfl
  have hfrozen := (h.free.preparedPart_view order).1
  have hpool := h.preparedPart_pool order
  have hboundary : ((s.preparedPart order).commitAll s.boundaryNumber).boundary = (s.preparedPart order).boundary :=
    State.commitAll_boundary
  rw [h.free.boundaryWork_eq order, (State.latchFrameIf_leavesRecord _).record]
  rcases h.free.preparedPart_readyAt order hm hready with ⟨hstill, hpassed⟩ | ⟨hstill, hawaits⟩
  · have hafter : ((s.preparedPart order).commitAll s.boundaryNumber).passed m := by
      rw [State.passed, hboundary]
      exact hpassed
    refine ⟨_, ?_, .inl rfl⟩
    rw [(State.takeExpiries_leavesRecord hm hafter).record]
    exact State.commitAll_value hfrozen hpool hstill hkind
  · have hafter : ((s.preparedPart order).commitAll s.boundaryNumber).awaits m := by
      rw [State.awaits, hboundary]
      exact hawaits
    refine ⟨_, ?_, .inr rfl⟩
    rw [(State.takeExpiries_examinesRecord hm hafter).record, State.commitAll_value hfrozen hpool hstill hkind]
    rfl

/-- A BLANK commit's field is FREE after the boundary (R109). -/
theorem State.boundaryWork_blank (h : s.commitLaws) (order : BoundaryOrder) {r : Rendered} {f : Field}
    (hready : s.readyAt k m r f) (hkind : r.kind = .blank) : (s.boundaryWork order).vacant m := by
  have hm := h.lt_of_owner hready.1 rfl
  have hrising := ((s.preparedPart_keeps order).records h.records).1.1
  obtain ⟨g, hstill⟩ : ∃ g, (s.preparedPart order).readyAt k m r g := by
    rcases h.free.preparedPart_readyAt order hm hready with ⟨hstill, -⟩ | ⟨hstill, -⟩ <;> exact ⟨_, hstill⟩
  rw [h.free.boundaryWork_eq order]
  exact (State.commitAll_blank (h.free.preparedPart_view order).1 (h.preparedPart_pool order) hrising hstill
    hkind).takeExpiries.latchFrameIf _

/-- No record comes into use at the boundary. -/
theorem State.boundaryWork_free (h : s.commitLaws) (order : BoundaryOrder) (hfree : s.field? m = none) :
    (s.boundaryWork order).field? m = none := by
  by_cases hm : m < 512
  · have hslots : s.uncommitted m := fun k r hslot => by
      obtain ⟨f, hf, -⟩ := h.pool.owners _ hslot m rfl
      exact nomatch hfree.symm.trans hf
    rw [(State.boundaryWork_examinesRecord order h.free.oneWaits h.free.nothingApplied hm hslots (h.free.awaits m)).record]
    exact congrArg (Option.map _) hfree
  · have htable := ((s.takeBoundary_keeps order).records h.records).1
    refine Option.eq_none_iff_forall_ne_some.2 fun f hf => hm ?_
    exact htable.2 _ (Store.mem_of_find? hf)

/-! ### Settling -/

/-- Settles O48: the commits of the READY slots, which write apart from one another, among the boundary's other parts. -/
theorem boundaryCommitsReadySlots : Obligations.BoundaryCommitsReadySlots := by
  intro s order hreset hboundary hfrozen hpage hconfigure htable hplace hslots hcells hplane hrecords n ready
  have hlaws : s.commitLaws :=
    ⟨⟨hboundary, hfrozen, hpage, hconfigure⟩, ⟨htable, hplace, hrecords⟩, State.poolLaw_of_slotLaw hslots,
      State.extentLaw_of_laws hplace hslots hcells, hplane⟩
  obtain ⟨hunfrozen, hgeometry, hsame⟩ := hlaws.free.preparedPart_view order
  have hpool := hlaws.preparedPart_pool order
  have hextents := hlaws.preparedPart_extents order
  have hcanonical := hlaws.preparedPart_plane order
  have hcommitted := State.boundaryWork_plane hlaws order
  refine ⟨_, exec_frameBoundary_of_running order hreset,
    (State.boundaryWork_settings order hlaws.free.oneWaits hlaws.free.nothingApplied).geometry,
    fun k m r f hready i hi => ?inside, fun place hout => ?outside, State.boundaryWork_slots hlaws order,
    fun k m r f hready hkind => ?value, fun k m r f hready hkind => State.boundaryWork_blank hlaws order hready hkind,
    fun m hfree => State.boundaryWork_free hlaws order hfree⟩
  case inside =>
    change r.cells[i]? = some (Memory.read (s.boundaryWork order).scr.plane _)
    rw [hcommitted]
    obtain ⟨g, hstill, hrow, hcolumn, hwidth⟩ :
        ∃ g, (s.preparedPart order).readyAt k m r g ∧ g.row = f.row ∧ g.column = f.column ∧ g.width = f.width := by
      rcases hlaws.free.preparedPart_readyAt order (hlaws.lt_of_owner hready.1 rfl) hready with ⟨h, -⟩ | ⟨h, -⟩ <;>
        exact ⟨_, h, rfl, rfl, rfl⟩
    have hread := State.commitAll_read_inside (n := s.boundaryNumber) hunfrozen hpool hcanonical hextents hstill
      (hwidth.symm ▸ hi)
    rw [hgeometry, hrow, hcolumn] at hread
    exact hread
  case outside =>
    change Memory.read (s.boundaryWork order).scr.plane place = _
    rw [hcommitted, ← hsame]
    refine State.commitAll_read_outside hunfrozen hpool hcanonical hextents fun k m r g hr => ?_
    obtain ⟨f, hready, hm⟩ := hlaws.readyAt_of_preparedPart order hr
    rw [hgeometry, hm.covers_eq, ← Bool.not_eq_true, Field.covers_iff]
    exact hout k m r f hready
  case value =>
    obtain ⟨g, hg, hform⟩ := State.boundaryWork_value hlaws order hready hkind
    obtain ⟨hshown, hframe, hdirection, hvalue, hpost, hzone, halert, hoverflow⟩ := Field.shows_of_commit hform
    obtain ⟨-, -, -, hlength, -⟩ := (hrecords _ (Store.mem_of_find? hready.2)).2
    exact ⟨g, hg, hshown, hframe, hdirection, hvalue, hpost, hzone, halert, hoverflow,
      fun hstart hlive hstale hpos => Field.flash_of_commit hform hstart hlive hstale hpos hlength⟩

end Sys2Proof.Machine
end

section
/-! FTU's expiries taken ahead of their boundary, field by field (R125 to R129; assumption log 3). -/

namespace Sys2Proof.Machine

variable {s : State} {m : Nat} {n : FrameNo} {f : Field}

/-! ### The field that comes next (R125, R126) -/

/-- In a rising store the first number that passes a test is the lowest one that passes it. -/
theorem Store.head?_filter_keys_iff {α : Type} {l : List (Nat × α)} (hrising : Store.rising l = true)
    (p : Nat × α → Bool) (k : Nat) :
    ((l.filter p).map Prod.fst).head? = some k ↔
      ∃ v, (k, v) ∈ l ∧ p (k, v) = true ∧ ∀ e ∈ l, e.1 < k → p e = false := by
  induction l with
  | nil => simp
  | cons d rest ih =>
    obtain ⟨hlow, hrest⟩ := (Store.rising_cons _ _).1 hrising
    cases hd : p d with
    | true =>
      rw [List.filter_cons_of_pos hd, List.map_cons, List.head?_cons, Option.some.injEq]
      constructor
      · rintro rfl
        refine ⟨d.2, List.mem_cons_self, hd, fun e he hlt => ?_⟩
        rcases List.mem_cons.1 he with rfl | he
        · exact absurd hlt (lt_irrefl _)
        · exact absurd hlt (lt_asymm (hlow e he))
      · rintro ⟨v, hmem, -, hlowest⟩
        rcases List.mem_cons.1 hmem with rfl | hmem
        · rfl
        · exact absurd (hd.symm.trans (hlowest d List.mem_cons_self (hlow _ hmem))) (by decide)
    | false =>
      rw [List.filter_cons_of_neg (by simp [hd]), ih hrest]
      refine exists_congr fun v => ?_
      constructor
      · rintro ⟨hmem, hp, hlowest⟩
        exact ⟨List.mem_cons_of_mem _ hmem, hp, List.forall_mem_cons.2 ⟨fun _ => hd, hlowest⟩⟩
      · rintro ⟨hmem, hp, hlowest⟩
        refine ⟨(List.mem_cons.1 hmem).resolve_left ?_, hp, fun e he => hlowest e (List.mem_cons_of_mem _ he)⟩
        rintro rfl
        exact absurd (hp.symm.trans hd) (by decide)

/-- A field comes next in FTU's examination for boundary N: expiries are not held, it is still to be examined and due, and no
field below it is (R125, R126). -/
structure State.comesNext (s : State) (m : Nat) (f : Field) (n : FrameNo) : Prop where
  free : s.begun.held = false
  record : s.field? m = some f
  unexamined : s.begun.examined ≤ m
  due : f.dueBy n
  lowest : ∀ k g, k < m → s.begun.examined ≤ k → s.field? k = some g → ¬g.dueBy n

/-- The field that the model takes next is the one that comes next. -/
theorem State.nextExpiry_iff (htable : s.tableLaw) :
    s.openBoundary.nextExpiry n = some m ↔ ∃ f, s.comesNext m f n := by
  rw [State.openBoundary_eq, State.nextExpiry]
  dsimp only
  cases hheld : s.begun.held with
  | true => exact ⟨nofun, fun ⟨_, hnext⟩ => absurd (hheld.symm.trans hnext.free) (by decide)⟩
  | false =>
    rw [if_neg Bool.false_ne_true, Store.head?_filter_keys_iff htable.1]
    simp only [Bool.and_eq_true, decide_eq_true_iff, Field.expires_iff]
    refine exists_congr fun f => ⟨fun ⟨hmem, ⟨hunexamined, hdue⟩, hlowest⟩ => ?_, fun hnext => ?_⟩
    · refine ⟨hheld, Store.find?_of_mem htable.1 hmem, hunexamined, hdue, fun k g hk hlow hg hgdue => ?_⟩
      have hskipped := hlowest _ (Store.mem_of_find? hg) hk
      simp [hlow, (Field.expires_iff g n).2 hgdue] at hskipped
    · refine ⟨Store.mem_of_find? hnext.record, ⟨hnext.unexamined, hnext.due⟩, fun e he hk => ?_⟩
      rw [← Bool.not_eq_true, Bool.and_eq_true, decide_eq_true_iff, Field.expires_iff]
      exact fun ⟨hlow, hedue⟩ => hnext.lowest e.1 e.2 hk hlow (Store.find?_of_mem htable.1 he) hedue

/-! ### The commands -/

/-- FTU's part of the next boundary as far as one field, whose expiries are taken. -/
def State.expiryAhead (s : State) (m : Nat) (f : Field) : State :=
  (s.openBoundary.expireField m f s.boundaryNumber).markExamined (m + 1)

/-- Neither command does anything for a field that does not come next. -/
theorem exec_expiries_of_not_next (htable : s.tableLaw) (hnot : ∀ f, ¬s.comesNext m f s.boundaryNumber) :
    exec (.staleExpiry m) s = .next s ∧ exec (.flashExpiry m) s = .next s := by
  have hnext : s.openBoundary.nextExpiry s.boundaryNumber ≠ some m := fun h =>
    (State.nextExpiry_iff htable).1 h |>.elim hnot
  constructor
  · change execStaleExpiry m s = _
    unfold execStaleExpiry
    dsimp only
    split
    · rw [if_neg (by simp [hnext])]
    · rfl
  · change execFlashExpiry m s = _
    unfold execFlashExpiry
    dsimp only
    split
    · rw [if_neg (by simp [hnext])]
    · rfl

/-- The field that comes next is taken by STALE_EXPIRY where its stale expiry is due (R127, R129). -/
theorem exec_staleExpiry_of_next (hreset : s.resetCause = none) (htable : s.tableLaw)
    (h : s.comesNext m f s.boundaryNumber) :
    exec (.staleExpiry m) s =
      .next (if dueAt f.staleDeadline s.boundaryNumber then s.expiryAhead m f else s) := by
  have hnext : s.openBoundary.nextExpiry s.boundaryNumber = some m := (State.nextExpiry_iff htable).2 ⟨f, h⟩
  have hrecord : s.openBoundary.field? m = some f := by rw [State.openBoundary_eq]; exact h.record
  change execStaleExpiry m s = _
  rw [execStaleExpiry, hrecord]
  cases hdue : dueAt f.staleDeadline s.boundaryNumber <;>
    simp [hnext, hdue, State.inReset, hreset, State.expiryAhead]

/-- The field that comes next is taken by FLASH_EXPIRY where no stale expiry of it is due (R128, R129). -/
theorem exec_flashExpiry_of_next (hreset : s.resetCause = none) (htable : s.tableLaw)
    (h : s.comesNext m f s.boundaryNumber) :
    exec (.flashExpiry m) s =
      .next (if dueAt f.staleDeadline s.boundaryNumber then s else s.expiryAhead m f) := by
  have hnext : s.openBoundary.nextExpiry s.boundaryNumber = some m := (State.nextExpiry_iff htable).2 ⟨f, h⟩
  have hrecord : s.openBoundary.field? m = some f := by rw [State.openBoundary_eq]; exact h.record
  change execFlashExpiry m s = _
  rw [execFlashExpiry, hrecord]
  cases hdue : dueAt f.staleDeadline s.boundaryNumber <;>
    simp [hnext, hdue, State.inReset, hreset, State.expiryAhead]

/-! ### The expiries of one field (R127 to R129) -/

theorem Field.handsStale_iff (f : Field) (n : FrameNo) :
    f.handsStale n = true ↔ dueAt f.staleDeadline n = true ∧ f.options.staleWatch = true := by
  rw [Field.handsStale, Bool.and_eq_true]

theorem State.expiryTaken_pnt (m : Nat) (f : Field) (n : FrameNo) : (s.expiryTaken m f n).pnt = s.pnt := by
  rw [State.expiryTaken_eq]; rfl

theorem State.expiryTaken_aeu (m : Nat) (f : Field) (n : FrameNo) :
    (s.expiryTaken m f n).aeu =
      { s.aeu with
        watchList := if f.handsStale n then addWatch ⟨m, .stale, n⟩ s.aeu.watchList else s.aeu.watchList } := by
  unfold State.expiryTaken
  dsimp only
  split <;> rfl

theorem State.expireField_watchList (m : Nat) (f : Field) (n : FrameNo) :
    (s.expireField m f n).aeu.watchList =
      if f.handsStale n then addWatch ⟨m, .stale, n⟩ s.aeu.watchList else s.aeu.watchList := by
  rw [State.expireField_eq, State.latchOpen_aeu.watchList, State.enqueueAtBoundary_aeu, State.expiryTaken_aeu]

theorem State.expireField_faultRecord (m : Nat) (f : Field) (n : FrameNo) :
    (s.expireField m f n).aeu.faultRecord = s.aeu.faultRecord := by
  rw [State.expireField_eq, State.latchOpen_aeu.faultRecord, State.enqueueAtBoundary_aeu, State.expiryTaken_aeu]

/-- The field is asked for once, by its class (R66). -/
theorem State.expireField_enqueued (m : Nat) (f : Field) (n : FrameNo) :
    s.enqueued (s.expireField m f n) m (s.shows f) f.options.urgent := by
  have hput : (s.expiryTaken m f n).field? m = some (f.expired n) := by
    rw [State.expiryTaken_eq]; exact s.putField_field?_self m _
  have hshows : (s.expiryTaken m f n).shows (f.expired n) = s.shows f := by rw [State.expiryTaken_eq]; rfl
  have hqueue := State.enqueue_enqueued false hput
  rw [hshows] at hqueue
  refine State.enqueued_congr (State.expiryTaken_pnt m f n).symm ?_ hqueue
  rw [State.expireField_pnt, State.enqueueAtBoundary_pnt]

/-- What the expiries of one field hand over to AEU: the STALE record's occurrence, and a rise of LAGGING. -/
theorem State.expireField_inTurn (m : Nat) (f : Field) (n : FrameNo) :
    s.latchedInTurn (s.expireField m f n)
      (unionOf (if f.handsStale n then watchChange ⟨m, .stale, n⟩ s.aeu.watchList else []) |||
        if s.pnt.lagging = false ∧ (s.expireField m f n).pnt.lagging = true then 0x0200 else 0) n := by
  have hnotice : (s.expiryTaken m f n).lnk.notice = s.lnk.notice := by rw [State.expiryTaken_eq]; rfl
  have hlatched := State.latchOpen_inTurn (s := (s.expiryTaken m f n).enqueueAtBoundary m false)
    [if f.handsStale n then watchChange ⟨m, .stale, n⟩ s.aeu.watchList else [],
      lagChange (s.expiryTaken m f n) ((s.expiryTaken m f n).enqueueAtBoundary m false)] n
  rw [List.flatten_cons, List.flatten_singleton, unionOf_append, unionOf_lagChange, State.expiryTaken_pnt, ← State.expireField_eq,
    ← State.expireField_pnt] at hlatched
  refine State.latchedInTurn_congr ?_ ?_ ?_ ?_ rfl rfl hlatched <;> simp [State.expiryTaken_aeu, hnotice]

/-- The expiries of one field have every effect that the rules give them. -/
theorem State.expireField_expiredAs (s : State) (m : Nat) (f : Field) (n : FrameNo) :
    s.expiredAs (s.expireField m f n) m f n (dueAt f.staleDeadline n) (dueAt f.flashDeadline n) := by
  refine ⟨?record, fun k hk => ?others, (s.expireField_samePanel m f n).scr, State.expireField_enqueued m f n,
    State.expireField_alertList m f n, State.expireField_faultRecord m f n, ?handed, ?kept,
    ⟨unionOf (if f.handsStale n then watchChange ⟨m, .stale, n⟩ s.aeu.watchList else []), ?new, ?none,
      State.expireField_inTurn m f n⟩, ?msg, ?line, ?replies⟩
  case record => rw [State.expireField_field?, State.putField_field?_self]; rfl
  case others => rw [State.expireField_field?, s.putField_otherFieldsKept m _ k hk]
  case handed =>
    rintro ⟨⟨hstale, hwatch, hnew⟩, hroom⟩
    rw [State.expireField_watchList, if_pos ((f.handsStale_iff n).2 ⟨hstale, hwatch⟩), addWatch_eq, if_pos ⟨hnew, hroom⟩]
  case kept =>
    intro hnone
    rw [State.expireField_watchList, addWatch_eq, ite_eq_right_iff]
    intro hhands
    obtain ⟨hstale, hwatch⟩ := (f.handsStale_iff n).1 hhands
    exact if_neg fun ⟨hnew, hroom⟩ => hnone ⟨⟨hstale, hwatch, hnew⟩, hroom⟩
  case new =>
    rintro ⟨hstale, hwatch, hnew⟩
    rw [if_pos ((f.handsStale_iff n).2 ⟨hstale, hwatch⟩), unionOf_watchChange, if_neg hnew]
  case none =>
    intro hnone
    split
    · rename_i hhands
      obtain ⟨hstale, hwatch⟩ := (f.handsStale_iff n).1 hhands
      rw [unionOf_watchChange, if_pos (not_not.1 fun hnew => hnone ⟨hstale, hwatch, hnew⟩)]
    · rfl
  case msg => rw [State.expireField_eq, State.expiryTaken_eq]; simp
  case line => rw [State.expireField_eq, State.expiryTaken_eq]; simp [State.lineUntouched]
  case replies => rw [State.expireField_eq, State.expiryTaken_eq]; simp

/-! ### The boundary's record (R69, R103) -/

/-- An entry that the expiries append is fresh at the boundary (R69). -/
theorem State.expireField_fresh {b : Boundary} (m : Nat) (f : Field) (n : FrameNo) (hb : s.boundary = some b) :
    ∃ fresh, (s.expireField m f n).boundary = some { b with fresh := fresh } ∧
      (m ∈ (s.expireField m f n).scanOrder → m ∉ s.scanOrder → m ∈ fresh) := by
  have hbefore : (s.expiryTaken m f n).scanOrder = s.scanOrder := by
    rw [State.scanOrder, State.expiryTaken_pnt, State.scanOrder]
  have hboundary : (s.expiryTaken m f n).boundary = some b := by rw [State.expiryTaken_eq]; exact hb
  rw [State.expireField_boundary, State.scanOrder, State.expireField_pnt, ← State.scanOrder, ← hbefore]
  generalize s.expiryTaken m f n = u at hboundary
  have hafter : m ∈ (u.enqueueAtBoundary m false).scanOrder ↔ (u.enqueue m false).membershipCode m ≠ 0 := by
    rw [Ne, State.membershipCode_eq_zero_iff, not_not, State.scanOrder, State.enqueueAtBoundary_pnt]
    rfl
  rw [hafter, ← State.membershipCode_eq_zero_iff, State.enqueueAtBoundary]
  split
  · rename_i hsame
    exact ⟨b.fresh, by simpa using hboundary, fun hin hout => absurd (hsame.trans hout) hin⟩
  · exact ⟨m :: b.fresh, by simp [hboundary], fun _ _ => List.mem_cons_self⟩

theorem State.expiryAhead_expiredAs (s : State) (m : Nat) (f : Field) :
    s.expiredAs (s.expiryAhead m f) m f s.boundaryNumber (dueAt f.staleDeadline s.boundaryNumber)
      (dueAt f.flashDeadline s.boundaryNumber) := by
  have htaken := s.openBoundary.expireField_expiredAs m f s.boundaryNumber
  rw [State.expiryAhead]
  rw [State.openBoundary_eq] at htaken ⊢
  exact htaken

theorem State.expiryAhead_boundary (s : State) (m : Nat) (f : Field) :
    ∃ fresh, (s.expiryAhead m f).boundary = some { s.begun with examined := m + 1, fresh := fresh } ∧
      (m ∈ (s.expiryAhead m f).scanOrder → m ∉ s.scanOrder → m ∈ fresh) := by
  obtain ⟨fresh, hboundary, hnew⟩ := State.expireField_fresh (s := s.openBoundary) (b := s.begun) m f s.boundaryNumber
    (by rw [State.openBoundary_eq])
  refine ⟨fresh, ?_, fun hin hout => hnew hin ?_⟩
  · rw [State.expiryAhead, State.markExamined_boundary, hboundary]; rfl
  · rw [State.openBoundary_eq]; exact hout

/-! ### Settling -/

/-- Settles O52: the field that each command takes is the one that `comesNext`, and its expiries are those of `expireField`. -/
theorem expiriesTakeDeadlines : Obligations.ExpiriesTakeDeadlines := by
  intro s m hreset htable n unexamined first
  refine ⟨fun hb => ?unbegun, fun hpast => ?past, fun hquiet => ?quiet, fun ⟨k, g, hk, hlow, hg, hdue⟩ => ?lower,
    fun f hfree ⟨hrecord, hunexamined, hlowest⟩ hstale => ?stale,
    fun f hfree ⟨hrecord, hunexamined, hlowest⟩ hstale hflash => ?flash⟩
  case unbegun =>
    refine ⟨by rw [State.begun, hb], fun k => ?_⟩
    change s.begun.examined ≤ k
    rw [State.begun, hb]
    exact k.zero_le
  case past =>
    refine exec_expiries_of_not_next htable fun f hnext => ?_
    exact hpast.elim (fun hheld => absurd (hheld.symm.trans hnext.free) (by decide)) fun h => h hnext.unexamined
  case quiet => exact exec_expiries_of_not_next htable fun f hnext => hquiet f hnext.record hnext.due
  case lower => exact exec_expiries_of_not_next htable fun f hnext => hnext.lowest k g hk hlow hg hdue
  case stale =>
    have hnext : s.comesNext m f n := ⟨hfree, hrecord, hunexamined, .inl hstale, hlowest⟩
    have hdue : dueAt f.staleDeadline s.boundaryNumber = true := (dueAt_iff _ _).2 hstale
    have htaken := s.expiryAhead_expiredAs m f
    rw [hdue] at htaken
    exact ⟨(exec_flashExpiry_of_next hreset htable hnext).trans (congrArg _ (if_pos hdue)), s.expiryAhead m f, _,
      (exec_staleExpiry_of_next hreset htable hnext).trans (congrArg _ (if_pos hdue)), dueAt_iff _ _, htaken,
      s.expiryAhead_boundary m f⟩
  case flash =>
    have hnext : s.comesNext m f n := ⟨hfree, hrecord, hunexamined, .inr hflash, hlowest⟩
    have hnot : ¬dueAt f.staleDeadline s.boundaryNumber = true := mt (dueAt_iff _ _).1 hstale
    have hdue : dueAt f.flashDeadline s.boundaryNumber = true := (dueAt_iff _ _).2 hflash
    have htaken := s.expiryAhead_expiredAs m f
    rw [Bool.eq_false_iff.2 hnot, hdue] at htaken
    exact ⟨(exec_staleExpiry_of_next hreset htable hnext).trans (congrArg _ (if_neg hnot)), s.expiryAhead m f,
      (exec_flashExpiry_of_next hreset htable hnext).trans (congrArg _ (if_neg hnot)), htaken,
      s.expiryAhead_boundary m f⟩

end Sys2Proof.Machine
end

section
/-! The laws of the alert list (R142) and of the watch list (R23, R146) as one statement about a change of state: what AEU's
lists take in and give up, and what their laws see of a record. -/

namespace Sys2Proof.Machine

/-! ### What the lists take in (R142, R147) -/

theorem mem_offerAlert {n m : Nat} {list : List Nat} (h : m ∈ offerAlert n list) : m = n ∨ m ∈ list := by
  rw [offerAlert_eq] at h
  split at h
  · simpa [or_comm] using h
  · exact .inr h

theorem offerAlert_length_le {n : Nat} {list : List Nat} (h : list.length ≤ 32) : (offerAlert n list).length ≤ 32 := by
  rw [offerAlert_eq]
  split
  · rw [List.length_append, List.length_singleton]
    omega
  · exact h

theorem offerAlert_nodup {n : Nat} {list : List Nat} (h : list.Nodup) : (offerAlert n list).Nodup := by
  rw [offerAlert_eq]
  split
  · rename_i hnew
    exact List.nodup_append'.2 ⟨h, List.nodup_singleton n, List.disjoint_singleton.2 hnew.1⟩
  · exact h

theorem addWatch_length_le {r : WatchRecord} {list : List WatchRecord} (h : list.length ≤ 16) :
    (addWatch r list).length ≤ 16 := by
  rw [addWatch_eq]
  split
  · rw [List.length_append, List.length_singleton]
    omega
  · exact h

theorem addWatch_nodup {r : WatchRecord} {list : List WatchRecord} (h : (list.map fun q => (q.field, q.kind)).Nodup) :
    ((addWatch r list).map fun q => (q.field, q.kind)).Nodup := by
  rw [addWatch_eq]
  split
  · rename_i hnew
    rw [List.map_append]
    refine List.nodup_append'.2 ⟨h, List.nodup_singleton _, List.disjoint_singleton.2 fun hin => hnew.1 ?_⟩
    obtain ⟨q, hq, heq⟩ := List.mem_map.1 hin
    exact ⟨q, hq, congrArg Prod.fst heq, congrArg Prod.snd heq⟩
  · exact h

/-! ### The laws -/

/-- A change of state that keeps the laws of AEU's two lists. -/
structure State.keepsAttention (s t : State) : Prop where
  alert : s.alertLaw → t.alertLaw
  watch : s.watchLaw → t.watchLaw

theorem State.keepsAttention.trans {s t u : State} (h : s.keepsAttention t) (k : t.keepsAttention u) :
    s.keepsAttention u :=
  ⟨fun a => k.alert (h.alert a), fun a => k.watch (h.watch a)⟩

/-- A field is in use and its alert is latched. -/
def State.latchedAt (s : State) (n : Nat) : Prop := ∃ f, s.field? n = some f ∧ f.alertLatched = true

/-- A field is in use. -/
def State.inUse (s : State) (n : Nat) : Prop := (s.field? n).isSome = true

variable {s : State}

/-- Entries leave the lists, and the fields of those that stay are as latched and as much in use as before. -/
theorem State.keepsAttention_of_sublist {t : State} (halerts : t.aeu.alertList.Sublist s.aeu.alertList)
    (hwatches : t.aeu.watchList.Sublist s.aeu.watchList)
    (hlatched : ∀ n ∈ t.aeu.alertList, s.latchedAt n → t.latchedAt n)
    (hused : ∀ r ∈ t.aeu.watchList, s.inUse r.field → t.inUse r.field) : s.keepsAttention t where
  alert := fun ⟨hlength, hnodup, hall⟩ => ⟨halerts.length_le.trans hlength, hnodup.sublist halerts,
    fun n hn => hlatched n hn (hall n (halerts.subset hn))⟩
  watch := fun ⟨hlength, hnodup, hall⟩ => ⟨hwatches.length_le.trans hlength, hnodup.sublist (hwatches.map _),
    fun r hr => hused r hr (hall r (hwatches.subset hr))⟩

/-- A latched field may be offered to the alert list (R142). -/
theorem State.alertLaw_of_offer {t : State} {n : Nat} {raised : Bool}
    (hlist : t.aeu.alertList = if raised then offerAlert n s.aeu.alertList else s.aeu.alertList)
    (hkept : ∀ m, s.latchedAt m → t.latchedAt m) (hnew : raised = true → t.latchedAt n) (h : s.alertLaw) :
    t.alertLaw := by
  obtain ⟨hlength, hnodup, hall⟩ := h
  rw [State.alertLaw, hlist]
  cases raised with
  | false => exact ⟨hlength, hnodup, fun m hm => hkept m (hall m hm)⟩
  | true =>
    refine ⟨offerAlert_length_le hlength, offerAlert_nodup hnodup, fun m hm => ?_⟩
    exact (mem_offerAlert hm).elim (fun hmn => hmn ▸ hnew rfl) fun hm => hkept m (hall m hm)

/-- A record of a field in use may be handed to the watch list (R147). -/
theorem State.watchLaw_of_add {t : State} {r : WatchRecord} {handed : Bool}
    (hlist : t.aeu.watchList = if handed then addWatch r s.aeu.watchList else s.aeu.watchList)
    (hkept : ∀ m, s.inUse m → t.inUse m) (hnew : handed = true → t.inUse r.field) (h : s.watchLaw) : t.watchLaw := by
  obtain ⟨hlength, hnodup, hall⟩ := h
  rw [State.watchLaw, hlist]
  cases handed with
  | false => exact ⟨hlength, hnodup, fun q hq => hkept _ (hall q hq)⟩
  | true =>
    refine ⟨addWatch_length_le hlength, addWatch_nodup hnodup, fun q hq => ?_⟩
    exact (mem_addWatch hq).elim (fun hqr => hqr ▸ hnew rfl) fun hq => hkept _ (hall q hq)

/-! ### Changes that the laws do not see -/

/-- AEU's lists are as before, and the same fields are in use and latched. -/
structure State.sameAttention (s t : State) : Prop where
  alerts : t.aeu.alertList = s.aeu.alertList
  watches : t.aeu.watchList = s.aeu.watchList
  latch : ∀ n, (t.field? n).map Field.alertLatched = (s.field? n).map Field.alertLatched

theorem State.latchedAt_iff (n : Nat) : s.latchedAt n ↔ (s.field? n).map Field.alertLatched = some true :=
  Option.map_eq_some_iff.symm

theorem State.inUse_iff (n : Nat) : s.inUse n ↔ ((s.field? n).map Field.alertLatched).isSome = true := by
  rw [State.inUse, Option.isSome_map]

theorem State.sameAttention.keeps {t : State} (h : s.sameAttention t) : s.keepsAttention t :=
  State.keepsAttention_of_sublist (h.alerts ▸ .refl _) (h.watches ▸ .refl _)
    (fun n _ hn => by rwa [State.latchedAt_iff, h.latch, ← State.latchedAt_iff])
    fun r _ hr => by rwa [State.inUse_iff, h.latch, ← State.inUse_iff]

/-- The table and AEU's lists are as before. -/
theorem State.sameAttention_of {t : State} (hfields : t.fields = s.fields) (halerts : t.aeu.alertList = s.aeu.alertList)
    (hwatches : t.aeu.watchList = s.aeu.watchList) : s.sameAttention t :=
  ⟨halerts, hwatches, fun n => by rw [State.field?, hfields, State.field?]⟩

theorem State.sameAttention_refl (s : State) : s.sameAttention s := State.sameAttention_of rfl rfl rfl

theorem State.keepsAttention_refl (s : State) : s.keepsAttention s := s.sameAttention_refl.keeps

theorem State.sameAttention.trans {t u : State} (h : s.sameAttention t) (k : t.sameAttention u) : s.sameAttention u :=
  ⟨k.alerts.trans h.alerts, k.watches.trans h.watches, fun n => (k.latch n).trans (h.latch n)⟩

/-- A record written in place of one with the same latch. -/
theorem State.putField_sameAttention {n : Nat} {f g : Field} (h : s.field? n = some f)
    (hlatch : g.alertLatched = f.alertLatched) : s.sameAttention (s.putField n g) := by
  refine ⟨rfl, rfl, fun m => ?_⟩
  by_cases hm : m = n
  · subst hm
    rw [State.putField_field?_self, h, Option.map_some, Option.map_some, hlatch]
  · rw [State.putField_otherFieldsKept _ _ _ m hm]

end Sys2Proof.Machine
end

section
/-! The laws of AEU's lists along the parts of a frame boundary (R23, R103, R106, R112, R116, R127, R147). -/

namespace Sys2Proof.Machine

variable (s : State)

/-! ### Fields that go FREE (R23) -/

theorem State.release_keepsAttention (n : Nat) (at_ : FrameNo) : s.keepsAttention (s.release n at_) := by
  obtain ⟨halerts, hwatches⟩ : (s.release n at_).aeu.alertList = s.aeu.alertList.filter (fun m => m != n) ∧
      (s.release n at_).aeu.watchList = s.aeu.watchList.filter fun r => r.field != n := by simp [State.release]
  have hother : ∀ m, m ≠ n → (s.release n at_).field? m = s.field? m := fun m hm => by
    rw [State.field?, State.release_fields, Store.find?_erase_ne hm, State.field?]
  refine State.keepsAttention_of_sublist (halerts ▸ List.filter_sublist) (hwatches ▸ List.filter_sublist)
    (fun m hm => ?_) fun r hr => ?_
  · rw [halerts] at hm
    rw [State.latchedAt_iff, State.latchedAt_iff, hother m (by simpa using (List.mem_filter.1 hm).2)]
    exact id
  · rw [hwatches] at hr
    rw [State.inUse, State.inUse, hother _ (by simpa using (List.mem_filter.1 hr).2)]
    exact id

theorem State.releaseAll_keepsAttention (at_ : FrameNo) (l : List Nat) : s.keepsAttention (s.releaseAll at_ l) := by
  induction l generalizing s with
  | nil => exact s.keepsAttention_refl
  | cons n rest ih => exact (s.release_keepsAttention n at_).trans (ih _)

/-! ### Expiries (R127, R147) -/

/-- The STALE record that an expiry hands over is of a field in use. -/
theorem State.expireField_keepsAttention {m : Nat} {f : Field} (n : FrameNo) (h : s.field? m = some f) :
    s.keepsAttention (s.expireField m f n) := by
  have hput : s.sameAttention (s.putField m (f.expired n)) := State.putField_sameAttention h rfl
  have hlatch : ∀ k, ((s.expireField m f n).field? k).map Field.alertLatched = (s.field? k).map Field.alertLatched :=
    fun k => by rw [State.expireField_field?, hput.latch]
  have hused : ∀ k, s.inUse k → (s.expireField m f n).inUse k := fun k hk => by
    rwa [State.inUse_iff, hlatch, ← State.inUse_iff]
  refine ⟨fun ⟨hlength, hnodup, hall⟩ => ?_, fun hwatch => ?_⟩
  · rw [State.alertLaw, State.expireField_alertList]
    refine ⟨hlength, hnodup, fun k hk => ?_⟩
    have hk : s.latchedAt k := hall k hk
    exact (State.latchedAt_iff k).2 ((hlatch k).trans ((State.latchedAt_iff k).1 hk))
  · have hnew : s.inUse m := by rw [State.inUse, h]; rfl
    exact State.watchLaw_of_add (s.expireField_watchList m f n) hused (fun _ => hused m hnew) hwatch

theorem State.examine_keepsAttention (n : FrameNo) (m : Nat) : s.keepsAttention (s.examine n m) := by
  unfold State.examine
  split
  · split
    · exact s.expireField_keepsAttention n ‹_›
    · exact s.keepsAttention_refl
  · exact s.keepsAttention_refl

theorem State.examineAll_keepsAttention (n : FrameNo) (l : List Nat) : s.keepsAttention (s.examineAll n l) := by
  induction l generalizing s with
  | nil => exact s.keepsAttention_refl
  | cons m rest ih => exact (s.examine_keepsAttention n m).trans (ih _)

theorem State.markExamined_sameAttention (n : Nat) : s.sameAttention (s.markExamined n) :=
  State.sameAttention_of rfl rfl rfl

theorem State.takeExpiries_keepsAttention (n : FrameNo) : s.keepsAttention (s.takeExpiries n) := by
  unfold State.takeExpiries
  split
  · exact s.keepsAttention_refl
  · split
    · exact (s.markExamined_sameAttention _).keeps
    · exact (s.examineAll_keepsAttention _ _).trans (State.markExamined_sameAttention _ _).keeps

/-! ### Parts that the laws do not see -/

theorem State.latchFrameIf_sameAttention (now : Bool) (n : FrameNo) : s.sameAttention (s.latchFrameIf now n) := by
  unfold State.latchFrameIf
  split
  · exact State.sameAttention_of (by simp) (by simp) (by simp)
  · exact s.sameAttention_refl

theorem State.openBoundary_sameAttention : s.sameAttention s.openBoundary :=
  State.sameAttention_of (by simp) (by simp) (by simp)

theorem State.startBoundary_sameAttention (n : FrameNo) : s.sameAttention (s.startBoundary n) := by
  rw [State.startBoundary_eq]
  exact State.sameAttention_of rfl rfl rfl

theorem State.age_sameAttention : s.sameAttention s.age := by
  unfold State.age
  split
  · exact s.sameAttention_refl
  · split <;> exact State.sameAttention_of rfl rfl rfl

theorem State.expireFreeze_sameAttention (n : FrameNo) : s.sameAttention (s.expireFreeze n) := by
  unfold State.expireFreeze
  split
  · exact State.sameAttention_of (by simp) (by simp) (by simp)
  · exact s.sameAttention_refl

theorem State.judgeBlink_sameAttention (n : FrameNo) : s.sameAttention (s.judgeBlink n) := by
  unfold State.judgeBlink
  split <;> exact State.sameAttention_of rfl rfl rfl

/-! ### Commits (R107 to R109) -/

theorem State.commitSlot_keepsAttention (n : FrameNo) (k : Nat) : s.keepsAttention (s.commitSlot n k) := by
  have hcells : ∀ f r, s.sameAttention (s.putCells k f r) := fun _ _ => State.sameAttention_of rfl rfl rfl
  rcases s.commitSlot_cases n k with h | ⟨m, r, f, -, hf, h | h⟩ <;> rw [h]
  · exact s.keepsAttention_refl
  · exact ((hcells f r).trans (State.putField_sameAttention (f := f) hf (by rfl))).keeps
  · exact (hcells f r).keeps.trans (State.release_keepsAttention _ m n)

theorem State.commitSlots_keepsAttention (n : FrameNo) (l : List Nat) : s.keepsAttention (s.commitSlots n l) := by
  induction l generalizing s with
  | nil => exact s.keepsAttention_refl
  | cons k rest ih => exact (s.commitSlot_keepsAttention n k).trans (ih _)

theorem State.commitAll_keepsAttention (n : FrameNo) : s.keepsAttention (s.commitAll n) := by
  unfold State.commitAll
  split
  · exact s.keepsAttention_refl
  · exact s.commitSlots_keepsAttention _ _

/-! ### Page change (R112) and geometry change (R115, R116) -/

theorem Field.leaving_alertLatched (p : BitVec 2) (f : Field) : (f.leaving p).alertLatched = f.alertLatched := by
  unfold Field.leaving
  split <;> rfl

theorem State.clearPage_sameAttention (p : BitVec 2) : s.sameAttention (s.clearPage p) := by
  refine ⟨rfl, rfl, fun n => ?_⟩
  rw [State.clearPage_field?, Option.map_map]
  exact congrArg (fun g => (s.field? n).map g) (funext fun f => f.leaving_alertLatched p)

/-- Of a page change only the releases of the page left are seen by the laws (R23, R112). -/
theorem State.changePage_keepsAttention (r : PendingPage) (n : FrameNo) : s.keepsAttention (s.changePage r n) := by
  have hcleared : s.keepsAttention (s.clearedPage n) :=
    (s.clearPage_sameAttention _).keeps.trans (State.releaseAll_keepsAttention _ n _)
  refine hcleared.trans (State.sameAttention.keeps ?_)
  unfold State.changePage
  dsimp only
  split <;> exact State.sameAttention_of (by simp [State.clearedPage]) (by simp [State.clearedPage])
    (by simp [State.clearedPage])

theorem State.applyPendingPage_keepsAttention (n : FrameNo) : s.keepsAttention (s.applyPendingPage n) := by
  unfold State.applyPendingPage
  split
  · split
    · exact s.keepsAttention_refl
    · exact s.changePage_keepsAttention _ _
  · exact s.keepsAttention_refl

theorem State.takeParameters_sameAttention (c : PendingConfigure) (n : FrameNo) : s.sameAttention (s.takeParameters c n) :=
  State.sameAttention_of (by simp [State.takeParameters]) (by simp [State.takeParameters]) (by simp [State.takeParameters])

theorem State.clearForGeometry_sameAttention (g : Geometry) : s.sameAttention (s.clearForGeometry g) := by
  refine ⟨rfl, rfl, fun n => ?_⟩
  rw [State.clearForGeometry_field?, Option.map_map]
  rfl

theorem State.changeGeometry_keepsAttention (g : Geometry) (n : FrameNo) : s.keepsAttention (s.changeGeometry g n) :=
  (s.clearForGeometry_sameAttention g).keeps.trans <| (State.releaseAll_keepsAttention _ n (s.releasedBy g)).trans
    (State.sameAttention_of (by simp [State.changeGeometry]) (by simp [State.changeGeometry])
      (by simp [State.changeGeometry])).keeps

theorem State.applyConfigure_keepsAttention (c : PendingConfigure) (n : FrameNo) :
    s.keepsAttention (s.applyConfigure c n) := by
  refine (s.takeParameters_sameAttention c n).keeps.trans ?_
  unfold State.applyConfigure
  dsimp only
  split
  · exact State.sameAttention.keeps (State.sameAttention_of rfl rfl rfl)
  · exact (State.changeGeometry_keepsAttention _ c.geometry n).trans
      (State.sameAttention.keeps (State.sameAttention_of rfl rfl rfl))

theorem State.applyPendingConfigure_keepsAttention (n : FrameNo) : s.keepsAttention (s.applyPendingConfigure n) := by
  unfold State.applyPendingConfigure
  split
  · split
    · exact s.keepsAttention_refl
    · exact s.applyConfigure_keepsAttention _ _
  · exact s.keepsAttention_refl

/-! ### The boundary as a whole (R103, R106) -/

theorem State.earlyPart_keepsAttention (order : BoundaryOrder) : s.keepsAttention (s.earlyPart order) := by
  have hstarted : s.keepsAttention ((s.openBoundary.startBoundary s.boundaryNumber).latchFrameIf order.frameFirst
      s.boundaryNumber) :=
    (s.openBoundary_sameAttention.trans <| (State.startBoundary_sameAttention _ _).trans
      (State.latchFrameIf_sameAttention _ _ _)).keeps
  have hexamined := hstarted.trans (State.takeExpiries_keepsAttention _ s.boundaryNumber)
  unfold State.earlyPart
  cases order.ftuFirst <;> cases order.agingFirst
  · exact hstarted
  · exact hstarted.trans (State.age_sameAttention _).keeps
  · exact hexamined
  · exact hexamined.trans (State.age_sameAttention _).keeps

theorem State.takeBoundary_keepsAttention (order : BoundaryOrder) : s.keepsAttention (s.takeBoundary order) := by
  rw [State.takeBoundary_eq, State.boundaryWork]
  generalize s.boundaryNumber = n
  refine (s.earlyPart_keepsAttention order).trans ?_
  generalize s.earlyPart order = early
  have hpending : early.keepsAttention (early.pendingPart n) :=
    (early.expireFreeze_sameAttention n).keeps.trans <| (State.applyPendingPage_keepsAttention _ n).trans
      (State.applyPendingConfigure_keepsAttention _ n)
  have hjudged := hpending.trans ((State.age_sameAttention _).trans (State.judgeBlink_sameAttention _ n)).keeps
  exact hjudged.trans <| (State.commitAll_keepsAttention _ n).trans <| (State.takeExpiries_keepsAttention _ n).trans <|
    (State.latchFrameIf_sameAttention _ _ n).keeps.trans (State.sameAttention.keeps (State.sameAttention_of rfl rfl rfl))

theorem State.settle_keepsAttention : s.keepsAttention s.settle := by
  unfold State.settle
  split
  · exact s.keepsAttention_refl
  · exact s.takeBoundary_keepsAttention _

end Sys2Proof.Machine
end

section
/-! The laws of AEU's lists under the line, the requests and the painter (chapters 1, 3, 4, 8 to 10). -/

namespace Sys2Proof.Machine

variable {s : State}

/-! ### Replies and refusals -/

theorem State.answer_sameAttention (payload : List Byte) : s.sameAttention (s.answer payload) :=
  State.sameAttention_of (by simp) (by simp) (by simp)

theorem State.answer_keepsAttention (payload : List Byte) : s.keepsAttention (s.answer payload) :=
  (State.answer_sameAttention payload).keeps

theorem State.refuse_keepsAttention (code : RefusalCode) (number : Option Half) :
    s.keepsAttention (s.refuse code number) := by
  unfold State.refuse
  split
  · exact s.keepsAttention_refl
  · exact State.sameAttention.keeps (State.sameAttention_of (by simp) (by simp) (by simp))

theorem State.refuseEntry_keepsAttention (code : RefusalCode) (number : Half) (index : Nat) :
    s.keepsAttention (s.refuseEntry code number index) := by
  unfold State.refuseEntry
  split
  · exact s.keepsAttention_refl
  · exact State.sameAttention.keeps (State.sameAttention_of (by simp) (by simp) (by simp))

/-- A state that differs from another outside what the laws see, answered. -/
theorem State.sameAttention.answer {t : State} (h : s.sameAttention t) (payload : List Byte) :
    s.keepsAttention (t.answer payload) :=
  (h.trans (State.answer_sameAttention payload)).keeps

/-! ### The line -/

theorem State.receiveByte_sameAttention (b : Byte) : s.sameAttention (s.receiveByte b) := by
  unfold State.receiveByte
  split
  · split
    · split
      · exact State.sameAttention_of rfl rfl rfl
      · exact State.sameAttention_of (by simp [State.latchLine]) (by simp [State.latchLine]) (by simp [State.latchLine])
    · exact s.sameAttention_refl
  · split
    · exact State.sameAttention_of rfl rfl rfl
    · exact State.sameAttention_of (by simp [State.latchLine]) (by simp [State.latchLine]) (by simp [State.latchLine])
  · split <;> exact State.sameAttention_of rfl rfl rfl

theorem State.receiveSignal_sameAttention (x : LineSignal) : s.sameAttention (s.receiveSignal x) := by
  cases x with
  | character c =>
    simp only [State.receiveSignal]
    split
    · exact s.sameAttention_refl
    · exact State.receiveByte_sameAttention _
  | heldLow =>
    simp only [State.receiveSignal]
    split
    · exact s.sameAttention_refl
    · exact (State.receiveByte_sameAttention _).trans (State.sameAttention_of rfl rfl rfl)
  | returnsHigh => exact State.sameAttention_of rfl rfl rfl

theorem State.receiveSignals_sameAttention (l : List LineSignal) : s.sameAttention (s.receiveSignals l) := by
  induction l generalizing s with
  | nil => exact s.sameAttention_refl
  | cons x rest ih => exact (State.receiveSignal_sameAttention x).trans ih

/-- A reset part's lists are empty (R149). -/
theorem State.beginReset_keepsAttention (cause : ResetCause) (level : Bool) (straps : Straps) :
    s.keepsAttention (s.beginReset cause level straps) :=
  ⟨fun _ => reset_alertLaw, fun _ => reset_watchLaw⟩

/-! ### The field requests -/

theorem State.onField_keepsAttention {number : Half} {act : Nat → Field → State}
    (h : ∀ f, s.field? number.toNat = some f → s.keepsAttention (act number.toNat f)) :
    s.keepsAttention (s.onField number act) := by
  unfold State.onField
  split
  · exact State.refuse_keepsAttention _ _
  · split
    · exact State.refuse_keepsAttention _ _
    · split
      · exact State.refuse_keepsAttention _ _
      · exact h _ ‹_›

/-- A record rewritten with the same latch, its field enqueued and the request answered. -/
theorem State.putAndAnswer_keepsAttention {n : Nat} {f g : Field} (h : s.field? n = some f)
    (hlatch : g.alertLatched = f.alertLatched) (u : Bool) (at_ : FrameNo) (payload : List Byte) :
    s.keepsAttention (((s.putField n g).enqueueAndLatch n u at_).answer payload) :=
  ((State.putField_sameAttention h hlatch).trans (State.sameAttention_of (by simp) (by simp) (by simp))).answer payload

theorem State.restyle_keepsAttention (r : RestyleFields) : s.keepsAttention (s.restyle r) :=
  State.onField_keepsAttention fun _ hf => State.putAndAnswer_keepsAttention hf (by rfl) _ _ _

theorem State.setLimits_keepsAttention (r : LimitFields) : s.keepsAttention (s.setLimits r) := by
  refine State.onField_keepsAttention fun f hf => ?_
  split
  · exact State.refuse_keepsAttention _ _
  · split
    · exact State.refuse_keepsAttention _ _
    · exact State.sameAttention.answer (State.putField_sameAttention hf (by rfl)) _

theorem State.delete_keepsAttention (number : Half) : s.keepsAttention (s.delete number) := by
  refine State.onField_keepsAttention fun f hf => ?_
  split
  · exact State.putAndAnswer_keepsAttention hf (by rfl) _ _ _
  · exact (State.release_keepsAttention _ _ _).trans (State.answer_keepsAttention _)

theorem State.readField_keepsAttention (number : Half) : s.keepsAttention (s.readField number) := by
  unfold State.readField
  split
  · exact State.refuse_keepsAttention _ _
  · split
    · exact State.refuse_keepsAttention _ _
    · exact State.answer_keepsAttention _

theorem State.unhold_keepsAttention (number : Half) : s.keepsAttention (s.unhold number) := by
  refine State.onField_keepsAttention fun f hf => ?_
  split
  · exact State.putAndAnswer_keepsAttention hf (by rfl) _ _ _
  · exact State.refuse_keepsAttention _ _

/-- A record under a number that was FREE: every field that was in use has the record that it had. -/
theorem State.putField_new_keepsAttention {n : Nat} (f : Field) (hfree : s.field? n = none) :
    s.keepsAttention (s.putField n f) := by
  have hother : ∀ m, (s.field? m).isSome = true → (s.putField n f).field? m = s.field? m := fun m hm =>
    s.putField_otherFieldsKept n f m fun hmn => by rw [hmn, hfree] at hm; exact nomatch hm
  refine State.keepsAttention_of_sublist (.refl _) (.refl _) (fun m _ hm => ?_) fun r _ hr => ?_
  · obtain ⟨g, hg, hlatched⟩ := hm
    exact ⟨g, (hother m (by rw [hg]; rfl)).trans hg, hlatched⟩
  · rw [State.inUse, hother _ hr]
    exact hr

theorem State.define_keepsAttention (r : DefineFields) : s.keepsAttention (s.define r) := by
  unfold State.define
  split
  · exact State.refuse_keepsAttention _ _
  · split
    · exact State.refuse_keepsAttention _ _
    · rename_i page format hok
      obtain ⟨hfree, -⟩ := State.checkDefine_ok hok
      dsimp only
      split
      · exact State.refuse_keepsAttention _ _
      · split
        · exact State.refuse_keepsAttention _ _
        · split
          · exact State.refuse_keepsAttention _ _
          · refine (State.putField_new_keepsAttention (DefineFields.record r page format) hfree).trans
              (State.sameAttention.answer (State.sameAttention_of ?_ ?_ ?_) _) <;> simp

/-! ### Posts (R140, R142, R147) -/

/-- The alert that a post raises is offered with its latch set, and its REVIVE record is of a field in use. -/
theorem State.applyPost_keepsAttention {n : Nat} {f : Field} (v : Value) (h : s.field? n = some f) :
    s.keepsAttention (s.applyPost n f v) := by
  obtain ⟨-, hothers, -⟩ := s.applyPost_postedAs n f v
  have hrecord : (s.applyPost n f v).field? n = some (f.posted v s.now) := by
    rw [State.field?, State.applyPost_fields, Store.find?_insert_self]
  have hused : (s.applyPost n f v).inUse n := by rw [State.inUse, hrecord]; rfl
  refine ⟨fun halert => ?_, fun hwatch => ?_⟩
  · refine State.alertLaw_of_offer (State.applyPost_alertList n f v) (fun m hm => ?_) (fun hraised => ?_) halert
    · obtain ⟨g, hg, hlatched⟩ := hm
      by_cases hmn : m = n
      · subst hmn
        obtain rfl := Option.some.inj (h.symm.trans hg)
        exact ⟨_, hrecord, by simp [Field.posted, hlatched]⟩
      · exact ⟨g, (hothers m hmn).trans hg, hlatched⟩
    · exact ⟨_, hrecord, by simp [Field.posted, hraised]⟩
  · refine State.watchLaw_of_add (State.applyPost_watchList n f v) (fun m hm => ?_) (fun _ => hused) hwatch
    by_cases hmn : m = n
    · exact hmn ▸ hused
    · rw [State.inUse, hothers m hmn]
      exact hm

theorem State.post_keepsAttention (r : PostFields) : s.keepsAttention (s.post r) := by
  unfold State.post
  split
  · exact State.refuse_keepsAttention _ _
  · exact (State.applyPost_keepsAttention _ (State.checkPost_ok ‹_›).1).trans (State.answer_keepsAttention _)

theorem State.postText_keepsAttention (r : TextFields) : s.keepsAttention (s.postText r) := by
  unfold State.postText
  split
  · exact State.refuse_keepsAttention _ _
  · exact (State.applyPost_keepsAttention _ (State.checkPost_ok ‹_›).1).trans (State.answer_keepsAttention _)

theorem BatchRun.entry_keepsAttention (b : BatchRun) (index : Nat) (r : PostFields) :
    b.state.keepsAttention (b.entry index r).state := by
  unfold BatchRun.entry
  split
  · exact State.refuseEntry_keepsAttention _ _ _
  · exact State.applyPost_keepsAttention _ (State.checkPost_ok ‹_›).1

theorem BatchRun.entries_keepsAttention (b : BatchRun) (index : Nat) (l : List PostFields) :
    b.state.keepsAttention (b.entries index l).state := by
  induction l generalizing b index with
  | nil => exact b.state.keepsAttention_refl
  | cons r rest ih => exact (b.entry_keepsAttention index r).trans (ih _ _)

theorem State.postBatch_keepsAttention (entries : List PostFields) : s.keepsAttention (s.postBatch entries) :=
  (BatchRun.entries_keepsAttention ⟨s, 0, none⟩ 0 entries).trans (State.answer_keepsAttention _)

/-! ### ACK ALERT (R144, R145) -/

theorem State.clearLatch_alertList (n : Nat) (f : Field) :
    (s.clearLatch n f).aeu.alertList = s.aeu.alertList.filter fun m => m != n := by simp [State.clearLatch]

theorem State.clearLatch_watchList (n : Nat) (f : Field) : (s.clearLatch n f).aeu.watchList = s.aeu.watchList := by
  simp [State.clearLatch]

theorem State.clearLatch_scr (n : Nat) (f : Field) : (s.clearLatch n f).scr = s.scr := by simp [State.clearLatch]

theorem State.clearLatch_fields (n : Nat) (f : Field) :
    (s.clearLatch n f).fields = Store.insert n { f with alertLatched := false } s.fields := by simp [State.clearLatch]

theorem State.clearLatch_field?_self (n : Nat) (f : Field) :
    (s.clearLatch n f).field? n = some { f with alertLatched := false } := by
  rw [State.field?, State.clearLatch_fields, Store.find?_insert_self]

theorem State.clearLatch_otherFieldsKept (n : Nat) (f : Field) : s.otherFieldsKept (s.clearLatch n f) n := fun m hm => by
  rw [State.field?, State.clearLatch_fields, Store.find?_insert_ne hm, State.field?]

/-- The field whose latch is cleared leaves the alert list with it, and stays in use. -/
theorem State.clearLatch_keepsAttention (n : Nat) (f : Field) : s.keepsAttention (s.clearLatch n f) := by
  refine State.keepsAttention_of_sublist (State.clearLatch_alertList n f ▸ List.filter_sublist)
    (by rw [State.clearLatch_watchList]) (fun m hm => ?_) fun r _ hr => ?_
  · rw [State.clearLatch_alertList] at hm
    rw [State.latchedAt_iff, State.latchedAt_iff,
      State.clearLatch_otherFieldsKept n f m (by simpa using (List.mem_filter.1 hm).2)]
    exact id
  · by_cases hrn : r.field = n
    · rw [State.inUse, hrn, State.clearLatch_field?_self]
      rfl
    · rw [State.inUse, State.clearLatch_otherFieldsKept n f _ hrn]
      exact hr

theorem State.clearLatches_keepsAttention (l : List Nat) : s.keepsAttention (s.clearLatches l) := by
  induction l generalizing s with
  | nil => exact s.keepsAttention_refl
  | cons n rest ih =>
    unfold State.clearLatches
    split
    · exact (State.clearLatch_keepsAttention _ _).trans ih
    · exact ih

theorem State.ackAll_keepsAttention : s.keepsAttention s.ackAll :=
  (State.clearLatches_keepsAttention _).trans (State.answer_keepsAttention _)

theorem State.ack_keepsAttention (number : Half) : s.keepsAttention (s.ack number) := by
  unfold State.ack
  split
  · exact State.ackAll_keepsAttention
  · refine State.onField_keepsAttention fun f _ => ?_
    split
    · exact (State.clearLatch_keepsAttention _ _).trans (State.answer_keepsAttention _)
    · exact State.answer_keepsAttention _

/-! ### The screen and attention requests -/

theorem State.setPalette_keepsAttention (r : PaletteFields) : s.keepsAttention (s.setPalette r) := by
  unfold State.setPalette
  split
  · exact State.refuse_keepsAttention _ _
  · exact State.sameAttention.answer (State.sameAttention_of (by rfl) (by rfl) (by rfl)) _

theorem State.stageMode_keepsAttention (r : ModeFields) : s.keepsAttention (s.stageMode r) := by
  unfold State.stageMode
  split
  · exact State.refuse_keepsAttention _ _
  · exact State.sameAttention.answer (State.sameAttention_of (by rfl) (by rfl) (by rfl)) _

theorem State.selectPage_keepsAttention (page : Byte) : s.keepsAttention (s.selectPage page) := by
  unfold State.selectPage
  split
  · exact State.refuse_keepsAttention _ _
  · split
    · exact State.refuse_keepsAttention _ _
    · split
      · exact State.refuse_keepsAttention _ _
      · exact State.sameAttention.keeps (State.sameAttention_of rfl rfl rfl)

theorem State.configure_keepsAttention (r : ConfigureFields) : s.keepsAttention (s.configure r) := by
  unfold State.configure
  split
  · exact State.refuse_keepsAttention _ _
  · split
    · exact State.refuse_keepsAttention _ _
    · split
      · exact State.refuse_keepsAttention _ _
      · exact State.sameAttention.keeps (State.sameAttention_of rfl rfl rfl)

theorem State.freeze_keepsAttention (r : FreezeFields) : s.keepsAttention (s.freeze r) :=
  State.sameAttention.answer (State.sameAttention_of (by rfl) (by rfl) (by rfl)) _

theorem State.thaw_keepsAttention : s.keepsAttention s.thaw := by
  unfold State.thaw
  split
  · exact State.sameAttention.answer (State.sameAttention_of (by rfl) (by rfl) (by rfl)) _
  · exact State.refuse_keepsAttention _ _

theorem State.readCells_keepsAttention (r : CellFields) : s.keepsAttention (s.readCells r) := by
  unfold State.readCells
  dsimp only
  split
  · exact State.refuse_keepsAttention _ _
  · split
    · exact State.refuse_keepsAttention _ _
    · split
      · exact State.refuse_keepsAttention _ _
      · exact State.answer_keepsAttention _

/-- READ WATCH removes every record (R148). -/
theorem State.readWatch_keepsAttention : s.keepsAttention s.readWatch :=
  (State.keepsAttention_of_sublist (s := s) (t := { s with aeu := { s.aeu with watchList := [] } }) (.refl _)
    (List.nil_sublist _) (fun _ _ => id) fun _ hr => nomatch hr).trans (State.answer_keepsAttention _)

theorem State.renotify_sameAttention : s.sameAttention s.renotify := by
  unfold State.renotify
  split
  · exact State.sameAttention_of rfl rfl rfl
  · exact s.sameAttention_refl

theorem State.clearEvents_keepsAttention (kinds : EventSet) : s.keepsAttention (s.clearEvents kinds) :=
  State.sameAttention.answer ((State.sameAttention_of (by rfl) (by rfl) (by rfl)).trans State.renotify_sameAttention) _

theorem State.setNoticeMask_keepsAttention (kinds : EventSet) : s.keepsAttention (s.setNoticeMask kinds) :=
  State.sameAttention.answer ((State.sameAttention_of (by rfl) (by rfl) (by rfl)).trans State.renotify_sameAttention) _

/-! ### The painter (R75 to R77) -/

theorem State.paintNext_sameAttention : s.sameAttention s.paintNext := by
  unfold State.paintNext
  split
  · exact s.sameAttention_refl
  · split
    · exact s.sameAttention_refl
    · split
      · exact State.sameAttention_of (by simp [State.beginRender]) (by simp [State.beginRender])
          (by simp [State.beginRender])
      · exact s.sameAttention_refl

theorem State.finishRender_sameAttention : s.sameAttention s.finishRender := by
  have hlists : s.finishRender.aeu = s.aeu := by
    unfold State.finishRender
    split
    · dsimp only
      split <;> rfl
    · rfl
    · rfl
  obtain ⟨-, hsame | ⟨n, f, b, hf, hput⟩⟩ := s.finishRender_fields
  · exact State.sameAttention_of hsame (by rw [hlists]) (by rw [hlists])
  · exact (State.putField_sameAttention (g := { f with overflow := b }) hf rfl).trans
      (State.sameAttention_of hput (by rw [hlists]; rfl) (by rw [hlists]; rfl))

end Sys2Proof.Machine
end

section
/-! Every step keeps the laws of the alert list and of the watch list. -/

namespace Sys2Proof.Machine

variable {s : State}

theorem State.take_keepsAttention {c : Instr} {act : State → State} {t : State} (hc : exec c s = s.takeThen c act)
    (h : ∀ u, State.keepsAttention u (act u)) (ht : exec c s = .next t) : s.keepsAttention t := by
  rw [hc] at ht
  rcases s.takeThen_cases c act with hsame | ⟨f, -, -, htaken⟩
  · obtain rfl := Host.Outcome.next.inj (hsame.symm.trans ht)
    exact s.keepsAttention_refl
  · obtain rfl := Host.Outcome.next.inj (htaken.symm.trans ht)
    have htake : s.settle.sameAttention (s.settle.take f) := State.sameAttention_of rfl rfl rfl
    exact s.settle_keepsAttention.trans (htake.keeps.trans (h _))

/-- A request whose own rule keeps the laws keeps them with its take and its checks. -/
theorem State.request_keepsAttention {α : Type} {c : Instr} {p : Carried α} {act : α → State → State} {t : State}
    (hc : exec c s = s.takeThen c fun u => u.checkLength p act) (h : ∀ a u, State.keepsAttention u (act a u))
    (ht : exec c s = .next t) : s.keepsAttention t := by
  refine State.take_keepsAttention hc (fun u => ?_) ht
  cases p with
  | fields a => exact h a u
  | wrongLength _ => exact State.refuse_keepsAttention _ _

/-- A command that, unless something stands against it, takes the part to a state. -/
theorem State.keepsAttention_of_unless {t u : State} {stopped : Prop} [Decidable stopped]
    (ht : (if stopped then .next s else .next u : Host.Outcome State Fault Refusal) = .next t) (h : s.keepsAttention u) :
    s.keepsAttention t := by
  split at ht
  · obtain rfl := Host.Outcome.next.inj ht
    exact s.keepsAttention_refl
  · obtain rfl := Host.Outcome.next.inj ht
    exact h

theorem execTransmitComplete_keepsAttention {t : State} (h : execTransmitComplete s = .next t) : s.keepsAttention t := by
  unfold execTransmitComplete at h
  split at h <;> obtain rfl := Host.Outcome.next.inj h <;>
    exact State.sameAttention.keeps (State.sameAttention_of rfl rfl rfl)

theorem execResetDone_keepsAttention {t : State} (h : execResetDone s = .next t) : s.keepsAttention t := by
  unfold execResetDone at h
  split at h <;> obtain rfl := Host.Outcome.next.inj h <;>
    exact State.sameAttention.keeps (State.sameAttention_of rfl rfl rfl)

/-- One field's expiries taken ahead of the rest of the boundary, if they are next (R127, R128). -/
theorem State.expiryAhead_keepsAttention {t : State} {m : Nat} {f : Field} {due : Prop} [Decidable due]
    (hf : s.openBoundary.field? m = some f)
    (h : (if due then .next ((s.openBoundary.expireField m f s.boundaryNumber).markExamined (m + 1)) else .next s :
      Host.Outcome State Fault Refusal) = .next t) : s.keepsAttention t := by
  split at h
  · obtain rfl := Host.Outcome.next.inj h
    exact s.openBoundary_sameAttention.keeps.trans <| (State.expireField_keepsAttention _ _ hf).trans
      (State.markExamined_sameAttention _ _).keeps
  · obtain rfl := Host.Outcome.next.inj h
    exact s.keepsAttention_refl

theorem execStaleExpiry_keepsAttention {t : State} {m : Nat} (h : execStaleExpiry m s = .next t) : s.keepsAttention t := by
  unfold execStaleExpiry at h
  dsimp only at h
  split at h
  · exact State.expiryAhead_keepsAttention ‹_› h
  · obtain rfl := Host.Outcome.next.inj h
    exact s.keepsAttention_refl

theorem execFlashExpiry_keepsAttention {t : State} {m : Nat} (h : execFlashExpiry m s = .next t) : s.keepsAttention t := by
  unfold execFlashExpiry at h
  dsimp only at h
  split at h
  · exact State.expiryAhead_keepsAttention ‹_› h
  · obtain rfl := Host.Outcome.next.inj h
    exact s.keepsAttention_refl

theorem exec_keepsAttention (c : Instr) {t : State} (h : exec c s = .next t) : s.keepsAttention t := by
  cases c with
  | identify => exact State.request_keepsAttention (exec_identify ..) (fun _ _ => State.answer_keepsAttention _) h
  | readStatus => exact State.request_keepsAttention (exec_readStatus ..) (fun _ _ => State.answer_keepsAttention _) h
  | configureDisplay =>
    exact State.request_keepsAttention (exec_configureDisplay ..) (fun r _ => State.configure_keepsAttention r) h
  | setPalette => exact State.request_keepsAttention (exec_setPalette ..) (fun r _ => State.setPalette_keepsAttention r) h
  | displayMode => exact State.request_keepsAttention (exec_displayMode ..) (fun r _ => State.stageMode_keepsAttention r) h
  | selectPage =>
    exact State.request_keepsAttention (exec_selectPage ..) (fun page _ => State.selectPage_keepsAttention page) h
  | freeze => exact State.request_keepsAttention (exec_freeze ..) (fun r _ => State.freeze_keepsAttention r) h
  | thaw => exact State.request_keepsAttention (exec_thaw ..) (fun _ _ => State.thaw_keepsAttention) h
  | reset => exact State.request_keepsAttention (exec_reset ..) (fun _ _ => State.beginReset_keepsAttention _ _ _) h
  | defineField => exact State.request_keepsAttention (exec_defineField ..) (fun r _ => State.define_keepsAttention r) h
  | restyleField => exact State.request_keepsAttention (exec_restyleField ..) (fun r _ => State.restyle_keepsAttention r) h
  | setLimits => exact State.request_keepsAttention (exec_setLimits ..) (fun r _ => State.setLimits_keepsAttention r) h
  | deleteField =>
    exact State.request_keepsAttention (exec_deleteField ..) (fun number _ => State.delete_keepsAttention number) h
  | readField =>
    exact State.request_keepsAttention (exec_readField ..) (fun number _ => State.readField_keepsAttention number) h
  | post => exact State.request_keepsAttention (exec_post ..) (fun r _ => State.post_keepsAttention r) h
  | postBatch =>
    exact State.request_keepsAttention (exec_postBatch ..) (fun entries _ => State.postBatch_keepsAttention entries) h
  | postText => exact State.request_keepsAttention (exec_postText ..) (fun r _ => State.postText_keepsAttention r) h
  | unhold => exact State.request_keepsAttention (exec_unhold ..) (fun number _ => State.unhold_keepsAttention number) h
  | ackAlert => exact State.request_keepsAttention (exec_ackAlert ..) (fun number _ => State.ack_keepsAttention number) h
  | ackAlertAll => exact State.take_keepsAttention (exec_ackAlertAll ..) (fun _ => State.ackAll_keepsAttention) h
  | readAlerts => exact State.request_keepsAttention (exec_readAlerts ..) (fun _ _ => State.answer_keepsAttention _) h
  | readWatch => exact State.request_keepsAttention (exec_readWatch ..) (fun _ _ => State.readWatch_keepsAttention) h
  | clearEvents =>
    exact State.request_keepsAttention (exec_clearEvents ..) (fun kinds _ => State.clearEvents_keepsAttention kinds) h
  | setNoticeMask =>
    exact State.request_keepsAttention (exec_setNoticeMask ..) (fun kinds _ => State.setNoticeMask_keepsAttention kinds) h
  | readFault => exact State.request_keepsAttention (exec_readFault ..) (fun _ _ => State.answer_keepsAttention _) h
  | readCells => exact State.request_keepsAttention (exec_readCells ..) (fun r _ => State.readCells_keepsAttention r) h
  | unknownType => exact State.take_keepsAttention (exec_unknownType ..) (fun _ => State.refuse_keepsAttention _ _) h
  | badCheck => exact State.take_keepsAttention (exec_badCheck ..) (fun _ => State.refuse_keepsAttention _ _) h
  | frameReceived signals => exact State.keepsAttention_of_unless h (State.receiveSignals_sameAttention signals).keeps
  | gapTimeout =>
    exact State.keepsAttention_of_unless h (State.sameAttention.keeps (State.sameAttention_of (by simp [State.latchLine])
      (by simp [State.latchLine]) (by simp [State.latchLine])))
  | transmitBegin =>
    exact State.keepsAttention_of_unless h (State.sameAttention.keeps (State.sameAttention_of rfl rfl rfl))
  | transmitComplete => exact execTransmitComplete_keepsAttention h
  | resetn straps =>
    obtain rfl := Host.Outcome.next.inj h
    exact State.beginReset_keepsAttention _ _ straps
  | resetDone => exact execResetDone_keepsAttention h
  | frameBoundary order => exact State.keepsAttention_of_unless h (s.takeBoundary_keepsAttention order)
  | blinkToggle =>
    exact State.keepsAttention_of_unless h (s.openBoundary_sameAttention.trans (State.judgeBlink_sameAttention _ _)).keeps
  | freezeExpired =>
    exact State.keepsAttention_of_unless h (s.openBoundary_sameAttention.trans (State.expireFreeze_sameAttention _ _)).keeps
  | staleExpiry => exact execStaleExpiry_keepsAttention h
  | flashExpiry => exact execFlashExpiry_keepsAttention h
  | aging =>
    exact State.keepsAttention_of_unless h (s.openBoundary_sameAttention.trans (State.age_sameAttention _)).keeps
  | pageChange =>
    exact State.keepsAttention_of_unless h
      (s.openBoundary_sameAttention.keeps.trans (State.applyPendingPage_keepsAttention _ _))
  | configurationApply =>
    exact State.keepsAttention_of_unless h
      (s.openBoundary_sameAttention.keeps.trans (State.applyPendingConfigure_keepsAttention _ _))
  | renderBegin =>
    exact State.keepsAttention_of_unless h (s.settle_keepsAttention.trans State.paintNext_sameAttention.keeps)
  | renderComplete =>
    exact State.keepsAttention_of_unless h (s.settle_keepsAttention.trans State.finishRender_sameAttention.keeps)

theorem step_keepsAttention {t : State} (h : step s = .next t) : s.keepsAttention t := by
  unfold step at h
  split at h
  · obtain rfl := Host.Outcome.next.inj h
    exact s.keepsAttention_refl
  · rename_i c rest _
    have hrest : s.sameAttention { s with pending := rest } := State.sameAttention_of rfl rfl rfl
    exact hrest.keeps.trans (exec_keepsAttention c h)

/-- Settles O59: every change that a step can make is one that `keepsAttention` names. The lists take in a field whose latch
is set and a record of a field in use; a field that goes FREE, or whose latch is cleared, leaves them. -/
theorem everyStepKeepsAttentionLaws : Obligations.EveryStepKeepsAttentionLaws := by
  intro s t _ halert hwatch hstep
  have h := step_keepsAttention hstep
  exact ⟨h.alert halert, h.watch hwatch⟩

end Sys2Proof.Machine
end

section
/-! What READ ALERTS, READ WATCH and ACK ALERT of one field do (R143, R144, R148). -/

namespace Sys2Proof.Machine

variable {s : State}

/-- A request of the wrong length is refused, whatever its own rule (R169 check 3). -/
theorem State.exec_wrongLength {α : Type} {c : Instr} {x : Frame} {bytes : List Byte} {act : α → State → State}
    (hc : exec c s = s.takeThen c fun u => u.checkLength (.wrongLength bytes) act) (hf : c.frame? = some x)
    (h : s.ready c = true) : ∃ t, exec c s = .next t ∧ s.refusedAs t x.type x.tag .badLength none :=
  ⟨_, hc.trans (State.takeThen_of_ready _ h hf), State.refuse_refusedAs .badLength none h⟩

/-! ### READ ALERTS (R143) -/

theorem State.zoneCode_of_field? {n : Nat} {f : Field} (h : s.field? n = some f) : s.zoneCode n = f.zone.code := by
  rw [State.zoneCode, h]
  rfl

/-- The report with each listed field's zone, where every listed field is in use. -/
theorem State.alertReport_eq {zones : Nat → Zone}
    (h : ∀ n ∈ s.aeu.alertList, ∃ f, s.field? n = some f ∧ f.zone = zones n) :
    s.alertReport =
      BitVec.ofNat 8 s.aeu.alertList.length ::
        s.aeu.alertList.flatMap (fun n => bytesOfHalf (BitVec.ofNat 16 n) ++ [(zones n).code]) ++
        bytesOfHalf (BitVec.ofNat 16
          ((s.fields.filter fun e => e.2.alertLatched && !s.aeu.alertList.contains e.1).length)) := by
  have hzones : s.aeu.alertList.flatMap (fun n => bytesOfCount n ++ [s.zoneCode n]) =
      s.aeu.alertList.flatMap fun n => bytesOfHalf (BitVec.ofNat 16 n) ++ [(zones n).code] := by
    refine List.flatMap_congr fun n hn => ?_
    obtain ⟨f, hf, hzone⟩ := h n hn
    rw [State.zoneCode_of_field? hf, hzone, bytesOfCount]
  rw [State.alertReport, hzones]
  rfl

/-- Settles O23: the report is `alertReport`, and the request answers and does nothing else. -/
theorem readAlertsReportsList : Obligations.ReadAlertsReportsList := by
  intro s tag zones
  refine ⟨fun payload hready => State.exec_wrongLength (exec_readAlerts ..) rfl hready, fun hzones hready => ?_⟩
  exact ⟨_, State.exec_of_ready (exec_readAlerts tag (.fields ()) s) rfl hready,
    State.reported_answer hready (State.alertReport_eq (s := s.take _) hzones)⟩

/-! ### READ WATCH (R148) -/

theorem WatchRecord.bytes_eq (r : WatchRecord) :
    r.bytes = bytesOfHalf (BitVec.ofNat 16 r.field) ++ [if r.kind = .stale then 0x00 else 0x01] ++ bytesOfWord r.frame := by
  rw [WatchRecord.bytes, List.append_assoc]
  cases r.kind <;> rfl

/-- Settles O26: the records are reported as they stand, and of AEU only the watch list changes. -/
theorem readWatchDrainsList : Obligations.ReadWatchDrainsList := by
  intro s tag
  refine ⟨fun payload hready => State.exec_wrongLength (exec_readWatch ..) rfl hready, fun hready => ?_⟩
  refine ⟨_, State.exec_of_ready (exec_readWatch tag (.fields ()) s) rfl hready, State.answer_aeu _ _,
    ⟨State.answer_fields _ _, State.answer_pnt _ _, State.answer_scr _ _⟩,
    (State.answer_notice _ _).trans (s.take_notice (goodFrame 0x22 tag [])), ?_⟩
  have hreport : s.watchReport = BitVec.ofNat 8 s.aeu.watchList.length :: s.aeu.watchList.flatMap (fun r =>
      bytesOfHalf (BitVec.ofNat 16 r.field) ++ [if r.kind = .stale then 0x00 else 0x01] ++ bytesOfWord r.frame) :=
    congrArg _ (List.flatMap_congr fun r _ => r.bytes_eq)
  rw [← hreport]
  exact State.answered_of_leavesLine s.watchReport hready ⟨rfl, rfl, State.lineKept_refl _, rfl⟩

/-! ### ACK ALERT of one field (R144) -/

/-- What the clearing of a latched field's latch leaves: its record, its entry of the alert list, its enqueue by class, and
the rise of LAGGING that this may cause. -/
structure State.latchCleared (s t : State) (n : Nat) (f : Field) : Prop where
  record : t.field? n = some { f with alertLatched := false }
  others : s.otherFieldsKept t n
  scr : t.scr = s.scr
  alerts : t.aeu.alertList = s.aeu.alertList.filter fun m => m != n
  watches : t.aeu.watchList = s.aeu.watchList
  queue : s.enqueued t n (s.shows f) f.options.urgent
  lag : s.lagReported t s.scr.frameCounter

/-- The record and the alert list after a latch is cleared, before the field's enqueue. -/
def State.latchDropped (s : State) (n : Nat) (f : Field) : State :=
  { s.putField n { f with alertLatched := false } with
    aeu := { s.aeu with alertList := s.aeu.alertList.filter fun m => m != n } }

theorem State.clearLatch_eq (n : Nat) (f : Field) :
    s.clearLatch n f = (s.latchDropped n f).enqueueAndLatch n false s.now := rfl

theorem State.clearLatch_pnt (n : Nat) (f : Field) :
    (s.clearLatch n f).pnt = ((s.latchDropped n f).enqueue n false).pnt := by
  rw [State.clearLatch_eq, State.enqueueAndLatch, State.latchLagRise_pnt]

theorem State.latchDropped_field?_self (n : Nat) (f : Field) :
    (s.latchDropped n f).field? n = some { f with alertLatched := false } := s.putField_field?_self n _

theorem State.clearLatch_latchCleared (s : State) (n : Nat) (f : Field) : s.latchCleared (s.clearLatch n f) n f where
  record := State.clearLatch_field?_self n f
  others := State.clearLatch_otherFieldsKept n f
  scr := State.clearLatch_scr n f
  alerts := State.clearLatch_alertList n f
  watches := State.clearLatch_watchList n f
  queue := State.enqueued_congr (s := s.latchDropped n f) rfl (State.clearLatch_pnt n f)
    (State.enqueue_enqueued (f := { f with alertLatched := false }) false (State.latchDropped_field?_self n f))
  lag := State.enqueueAndLatch_reported (s := s.latchDropped n f) n false s.now

theorem State.clearLatch_leavesLine (s : State) (n : Nat) (f : Field) : s.leavesLine (s.clearLatch n f) :=
  State.leavesLine.trans (t := s.latchDropped n f) ⟨rfl, rfl, s.lineKept_refl, rfl⟩
    (State.enqueueAndLatch_leavesLine _ n false s.now)

/-- `latchCleared` sees FLD, PNT, SCR, AEU and the NOTICE alone. -/
theorem State.latchCleared.answer {x : Frame} {t : State} {n : Nat} {f : Field} (payload : List Byte)
    (h : (s.take x).latchCleared t n f) : s.latchCleared (t.answer payload) n f where
  record := (State.answer_field? _ _ _).trans h.record
  others m hm := (State.answer_field? _ _ _).trans (h.others m hm)
  scr := (State.answer_scr _ _).trans h.scr
  alerts := (congrArg Alerts.alertList (State.answer_aeu _ _)).trans h.alerts
  watches := (congrArg Alerts.watchList (State.answer_aeu _ _)).trans h.watches
  queue := State.enqueued_congr (s := s.take x) rfl (State.answer_pnt _ _) h.queue
  lag := State.lagReported_answer payload h.lag

/-- Settles O35: a latched field's latch is cleared as `clearLatch` does it, and a field that is not latched is only
reported. -/
theorem ackAlertClearsLatch : Obligations.AckAlertClearsLatch := by
  intro s tag number f hn hf hstate hready
  have hall : number ≠ 0xFFFF := by rintro rfl; exact absurd hn (by decide)
  have hexec := (State.exec_of_ready (exec_ackAlert tag (.fields number) s) rfl hready).trans
    (congrArg Host.Outcome.next ((State.ack_eq_onField hall).trans (State.onField_of_inUse (s := s.take _) _ hn hf hstate)))
  cases hlatched : f.alertLatched with
  | true =>
    rw [if_pos hlatched] at hexec
    refine ⟨_, hexec, fun _ => ?_, fun hno => (nomatch hno)⟩
    obtain ⟨hrecord, hothers, hscr, halerts, hwatches, hqueue, hlag⟩ :=
      (State.clearLatch_latchCleared (s.take _) number.toNat f).answer _
    exact ⟨hrecord, hothers, hscr, halerts, hwatches, hqueue, hlag,
      State.answered_of_leavesLine _ hready (State.clearLatch_leavesLine _ _ _)⟩
  | false =>
    rw [if_neg (ne_true_of_eq_false hlatched)] at hexec
    exact ⟨_, hexec, fun hyes => (nomatch hyes), fun _ => State.reported_answer hready rfl⟩

end Sys2Proof.Machine
end

section
/-! ACK ALERT ALL (R142, R144, R145): latches cleared one after another. -/

namespace Sys2Proof.Machine

variable {s : State}

/-! ### One latch -/

/-- A field is in the queue after a request if it was before, or if it is the field asked for and visible (R66). -/
theorem State.mem_enqueue_scanOrder (n : Nat) (u : Bool) (m : Nat) :
    m ∈ (s.enqueue n u).scanOrder ↔ m ∈ s.scanOrder ∨ m = n ∧ s.onScreen n := by
  have hscan : (s.enqueueAtBoundary n u).scanOrder = (s.enqueue n u).scanOrder := by
    rw [State.scanOrder, State.enqueueAtBoundary_pnt, State.scanOrder]
  rw [← hscan]
  constructor
  · intro hm
    by_cases hmn : m = n
    · refine or_iff_not_imp_left.2 fun hout => ⟨hmn, ?_⟩
      rcases s.enqueue_pnt_cases n u with ⟨hpnt, -⟩ | ⟨f, hf, hv, -⟩
      · rw [State.scanOrder, State.enqueueAtBoundary_pnt, hpnt] at hm
        exact absurd hm hout
      · exact ⟨f, hf, hv⟩
    · exact .inl (State.mem_scanOrder_of_enqueue_other u hmn hm)
  · rintro (hm | ⟨rfl, f, hf, hv⟩)
    · exact State.mem_scanOrder_of_enqueue u hm
    · exact State.mem_scanOrder_of_asked u hf hv

theorem State.mem_clearLatch_scanOrder (n : Nat) (f : Field) (m : Nat) :
    m ∈ (s.clearLatch n f).scanOrder ↔ m ∈ s.scanOrder ∨ m = n ∧ s.shows f = true := by
  have hscreen : (s.latchDropped n f).onScreen n ↔ s.shows f = true := by
    rw [State.onScreen, State.latchDropped_field?_self]
    exact ⟨fun ⟨g, hg, hv⟩ => by obtain rfl := Option.some.inj hg; exact hv, fun hv => ⟨_, rfl, hv⟩⟩
  rw [State.scanOrder, State.clearLatch_pnt, ← hscreen]
  exact State.mem_enqueue_scanOrder n false m

/-! ### Latches in a row -/

/-- A record with its latch cleared where its number is on a list. -/
def Field.unlatchedIn (f : Field) (l : List Nat) (n : Nat) : Field := if n ∈ l then { f with alertLatched := false } else f

theorem Field.unlatchedIn_of_mem {l : List Nat} {n : Nat} (f : Field) (h : n ∈ l) :
    f.unlatchedIn l n = { f with alertLatched := false } := if_pos h

theorem Field.unlatchedIn_of_not_mem {l : List Nat} {n : Nat} (f : Field) (h : n ∉ l) : f.unlatchedIn l n = f := if_neg h

/-- What the clearing of the latches of some fields leaves, one after another: their records, their entries of the alert
list, and entries of the visible ones in the queue. -/
structure State.latchesCleared (s t : State) (l : List Nat) : Prop where
  records : ∀ n, t.field? n = (s.field? n).map fun f => f.unlatchedIn l n
  alerts : t.aeu.alertList = s.aeu.alertList.filter fun n => n ∉ l
  watches : t.aeu.watchList = s.aeu.watchList
  scr : t.scr = s.scr
  slots : t.pnt.slots = s.pnt.slots
  queue : ∀ n, n ∈ t.scanOrder ↔ n ∈ s.scanOrder ∨ n ∈ l ∧ s.onScreen n
  line : s.leavesLine t

theorem State.latchesCleared_nil (s : State) : s.latchesCleared s [] where
  records n := by simp [Field.unlatchedIn_of_not_mem]
  alerts := by simp
  watches := rfl
  scr := rfl
  slots := rfl
  queue n := by simp
  line := ⟨rfl, rfl, s.lineKept_refl, rfl⟩

/-- A record whose latch is cleared stands on the same page. -/
theorem State.latchesCleared.onScreen_iff {t : State} {l : List Nat} (h : s.latchesCleared t l) (n : Nat) :
    t.onScreen n ↔ s.onScreen n := by
  have hshows : ∀ f, t.shows (f.unlatchedIn l n) = s.shows f := fun f => by
    rw [State.shows, h.scr, Field.unlatchedIn]
    split <;> rfl
  simp only [State.onScreen, h.records n, Option.map_eq_some_iff]
  constructor
  · rintro ⟨g, ⟨f, hf, rfl⟩, hv⟩
    exact ⟨f, hf, (hshows f).symm.trans hv⟩
  · rintro ⟨f, hf, hv⟩
    exact ⟨_, ⟨f, hf, rfl⟩, (hshows f).trans hv⟩

/-- One latch more. -/
theorem State.latchesCleared.clearLatch {t : State} {l : List Nat} {n : Nat} {f : Field} (h : s.latchesCleared t l)
    (hf : t.field? n = some f) : s.latchesCleared (t.clearLatch n f) (l ++ [n]) where
  records m := by
    by_cases hm : m = n
    · subst hm
      obtain ⟨g, hg, rfl⟩ := Option.map_eq_some_iff.1 ((h.records m).symm.trans hf)
      rw [State.clearLatch_field?_self, hg, Option.map_some, g.unlatchedIn_of_mem (List.mem_append_right l (by simp))]
      by_cases hl : m ∈ l
      · rw [g.unlatchedIn_of_mem hl]
      · rw [g.unlatchedIn_of_not_mem hl]
    · have hmem : m ∈ l ++ [n] ↔ m ∈ l := by simp [hm]
      rw [State.clearLatch_otherFieldsKept n f m hm, h.records]
      simp only [Field.unlatchedIn, hmem]
  alerts := by
    rw [State.clearLatch_alertList, h.alerts, List.filter_filter]
    exact List.filter_congr fun m _ => Bool.eq_iff_iff.2 (by simp [and_comm])
  watches := (State.clearLatch_watchList n f).trans h.watches
  scr := (State.clearLatch_scr n f).trans h.scr
  slots := by rw [State.clearLatch_pnt, State.enqueue_pnt.slots]; exact h.slots
  queue m := by
    have hv : t.shows f = true ↔ s.onScreen n := by
      rw [← h.onScreen_iff, State.onScreen, hf]
      simp
    rw [State.mem_clearLatch_scanOrder, h.queue, hv, List.mem_append, List.mem_singleton, or_assoc]
    refine or_congr_right ?_
    constructor
    · rintro (⟨hm, hs⟩ | ⟨rfl, hs⟩)
      · exact ⟨.inl hm, hs⟩
      · exact ⟨.inr rfl, hs⟩
    · rintro ⟨hm | rfl, hs⟩
      · exact .inl ⟨hm, hs⟩
      · exact .inr ⟨rfl, hs⟩
  line := h.line.trans (t.clearLatch_leavesLine n f)

theorem State.clearLatches_append (l k : List Nat) : s.clearLatches (l ++ k) = (s.clearLatches l).clearLatches k := by
  induction l generalizing s with
  | nil => rfl
  | cons n rest ih =>
    rw [List.cons_append, State.clearLatches, State.clearLatches]
    split <;> exact ih

theorem State.clearLatches_singleton {n : Nat} {f : Field} (h : s.field? n = some f) :
    s.clearLatches [n] = s.clearLatch n f := by
  rw [State.clearLatches, h]
  rfl

theorem State.latchesCleared.field?_of_not_mem {t : State} {l : List Nat} {n : Nat} (h : s.latchesCleared t l)
    (hn : n ∉ l) : t.field? n = s.field? n := by
  rw [h.records, funext fun f => Field.unlatchedIn_of_not_mem f hn, Option.map_id']

/-- The latches of fields in use, in whatever order. -/
theorem State.clearLatches_latchesCleared {l : List Nat} (h : ∀ n ∈ l, s.inUse n) :
    s.latchesCleared (s.clearLatches l) l := by
  induction l using List.reverseRecOn with
  | nil => exact s.latchesCleared_nil
  | append_singleton l n ih =>
    have hl := ih fun m hm => h m (List.mem_append_left _ hm)
    obtain ⟨f, hf⟩ := Option.isSome_iff_exists.1 (h n (by simp))
    have hf' := (hl.records n).trans (congrArg _ hf)
    rw [State.clearLatches_append, State.clearLatches_singleton hf']
    exact hl.clearLatch hf'

/-! ### The fields that are latched and not RETIRING (R145) -/

/-- The records whose latch ACK ALERT ALL clears. -/
def State.clearable (s : State) : List (Nat × Field) := s.fields.filter fun e => e.2.alertLatched && e.2.state != .retiring

theorem State.latchedNumbers_eq (s : State) : s.latchedNumbers = s.clearable.map Prod.fst := rfl

theorem State.mem_clearable_iff (h : s.tableLaw) {e : Nat × Field} :
    e ∈ s.clearable ↔ s.field? e.1 = some e.2 ∧ e.2.alertLatched = true ∧ e.2.state ≠ .retiring := by
  rw [State.clearable, List.mem_filter, Bool.and_eq_true, bne_iff_ne]
  exact and_congr_left' ⟨Store.find?_of_mem h.1, Store.mem_of_find?⟩

theorem State.mem_latchedNumbers_iff (h : s.tableLaw) {n : Nat} {f : Field} (hf : s.field? n = some f) :
    n ∈ s.latchedNumbers ↔ f.alertLatched = true ∧ f.state ≠ .retiring := by
  rw [State.latchedNumbers_eq, List.mem_map]
  constructor
  · rintro ⟨e, he, rfl⟩
    obtain ⟨hfield, hrest⟩ := (State.mem_clearable_iff h).1 he
    obtain rfl := Option.some.inj (hfield.symm.trans hf)
    exact hrest
  · exact fun hrest => ⟨(n, f), (State.mem_clearable_iff h).2 ⟨hf, hrest⟩, rfl⟩

theorem State.inUse_of_mem_latchedNumbers (h : s.tableLaw) {n : Nat} (hn : n ∈ s.latchedNumbers) : s.inUse n := by
  obtain ⟨e, he, rfl⟩ := List.mem_map.1 (s.latchedNumbers_eq ▸ hn)
  rw [State.inUse, ((State.mem_clearable_iff h).1 he).1]
  rfl

/-- Every record but a RETIRING one is left with its latch clear (R145). -/
theorem Field.unlatchedIn_latchedNumbers (h : s.tableLaw) {n : Nat} {f : Field} (hf : s.field? n = some f) :
    f.unlatchedIn s.latchedNumbers n = if f.state = .retiring then f else { f with alertLatched := false } := by
  have hmem := State.mem_latchedNumbers_iff h hf
  by_cases hstate : f.state = .retiring
  · rw [if_pos hstate, f.unlatchedIn_of_not_mem fun hn => (hmem.1 hn).2 hstate]
  · rw [if_neg hstate]
    cases hlatched : f.alertLatched with
    | true => rw [f.unlatchedIn_of_mem (hmem.2 ⟨hlatched, hstate⟩)]
    | false => rw [f.unlatchedIn_of_not_mem fun hn => ne_true_of_eq_false hlatched (hmem.1 hn).1, ← hlatched]

/-! ### The states from latch to latch -/

/-- The states between the latches, from the one before the first to the one after the last. -/
def State.latchStates (s : State) (l : List Nat) : List State :=
  (List.range (l.length + 1)).map fun i => s.clearLatches (l.take i)

theorem State.latchStates_length (s : State) (l : List Nat) : (s.latchStates l).length = l.length + 1 := by
  simp [State.latchStates]

theorem State.eq_of_latchStates_getElem? {l : List Nat} {i : Nat} {a : State} (h : (s.latchStates l)[i]? = some a) :
    a = s.clearLatches (l.take i) := by
  obtain ⟨hi, ha⟩ := List.getElem?_eq_some_iff.1 h
  subst ha
  simp [State.latchStates]

theorem State.clearLatches_take_succ {l : List Nat} {i n : Nat} {f : Field}
    (hi : l[i]? = some n) (hf : (s.clearLatches (l.take i)).field? n = some f) :
    s.clearLatches (l.take (i + 1)) = (s.clearLatches (l.take i)).clearLatch n f := by
  rw [List.take_add_one, hi, Option.toList_some, State.clearLatches_append, State.clearLatches_singleton hf]

theorem not_mem_take_of_nodup {l : List Nat} {i n : Nat} (h : l.Nodup) (hi : l[i]? = some n) : n ∉ l.take i := fun hin =>
  List.disjoint_take_drop h le_rfl hin (List.mem_of_getElem? (i := 0) (by rw [List.getElem?_drop]; exact hi))

/-- From latch to latch: the field of the next one still has its record, and its latch is cleared as ACK ALERT clears it
(R144, R145). -/
theorem State.latchStates_latchCleared (h : s.tableLaw) {i n : Nat} {f : Field} {a b : State}
    (hi : s.clearable[i]? = some (n, f)) (ha : (s.latchStates s.latchedNumbers)[i]? = some a)
    (hb : (s.latchStates s.latchedNumbers)[i + 1]? = some b) : a.latchCleared b n f ∧ a.scr = s.scr := by
  obtain rfl := State.eq_of_latchStates_getElem? ha
  obtain rfl := State.eq_of_latchStates_getElem? hb
  have hnumber : s.latchedNumbers[i]? = some n := by rw [State.latchedNumbers_eq, List.getElem?_map, hi]; rfl
  have hdistinct : s.latchedNumbers.Nodup := (Store.nodup_keys h.1).sublist (List.filter_sublist.map _)
  have hbefore : s.latchesCleared (s.clearLatches (s.latchedNumbers.take i)) (s.latchedNumbers.take i) :=
    State.clearLatches_latchesCleared fun m hm => State.inUse_of_mem_latchedNumbers h (List.mem_of_mem_take hm)
  obtain ⟨hf, -⟩ := (State.mem_clearable_iff h).1 (List.mem_of_getElem? hi)
  have hf' := (hbefore.field?_of_not_mem (not_mem_take_of_nodup hdistinct hnumber)).trans hf
  rw [State.clearLatches_take_succ hnumber hf']
  exact ⟨State.clearLatch_latchCleared _ n f, hbefore.scr⟩

/-! ### All the latches (R145) -/

/-- The list keeps its RETIRING fields, whose latches are not cleared (R142, R145). -/
theorem State.mem_alertList_kept_iff (htable : s.tableLaw) (halert : s.alertLaw) (n : Nat) :
    n ∈ s.aeu.alertList.filter (fun m => m ∉ s.latchedNumbers) ↔
      n ∈ s.aeu.alertList ∧ ∃ f, s.field? n = some f ∧ f.state = .retiring := by
  obtain ⟨-, -, hall⟩ := halert
  rw [List.mem_filter, decide_eq_true_iff]
  refine and_congr_right fun hn => ?_
  obtain ⟨f, hf, hlatched⟩ := hall n hn
  rw [State.mem_latchedNumbers_iff htable hf, hf]
  simp [hlatched]

/-- The fields whose latches are cleared and that are enqueued (R144). -/
theorem State.mem_latchedNumbers_onScreen_iff (h : s.tableLaw) (n : Nat) :
    n ∈ s.latchedNumbers ∧ s.onScreen n ↔ ∃ e ∈ s.clearable, e.1 = n ∧ s.shows e.2 = true := by
  rw [State.latchedNumbers_eq]
  constructor
  · rintro ⟨hn, f, hf, hv⟩
    obtain ⟨e, he, rfl⟩ := List.mem_map.1 hn
    obtain rfl := Option.some.inj (((State.mem_clearable_iff h).1 he).1.symm.trans hf)
    exact ⟨e, he, rfl, hv⟩
  · rintro ⟨e, he, rfl, hv⟩
    exact ⟨List.mem_map_of_mem he, e.2, ((State.mem_clearable_iff h).1 he).1, hv⟩

theorem State.clearLatches_latchedNumbers (h : s.tableLaw) :
    s.latchesCleared (s.clearLatches s.latchedNumbers) s.latchedNumbers :=
  State.clearLatches_latchesCleared fun _ hn => State.inUse_of_mem_latchedNumbers h hn

theorem State.ackAll_field? (h : s.tableLaw) (n : Nat) :
    s.ackAll.field? n = (s.field? n).map fun f => f.unlatchedIn s.latchedNumbers n :=
  (State.answer_field? _ _ n).trans ((State.clearLatches_latchedNumbers h).records n)

theorem State.ackAll_alertList (h : s.tableLaw) :
    s.ackAll.aeu.alertList = s.aeu.alertList.filter fun n => n ∉ s.latchedNumbers :=
  (congrArg Alerts.alertList (State.answer_aeu _ _)).trans (State.clearLatches_latchedNumbers h).alerts

theorem State.mem_ackAll_scanOrder (h : s.tableLaw) (n : Nat) :
    n ∈ s.ackAll.scanOrder ↔ n ∈ s.scanOrder ∨ ∃ e ∈ s.clearable, e.1 = n ∧ s.shows e.2 = true := by
  rw [State.scanOrder, State.ackAll, State.answer_pnt]
  exact ((State.clearLatches_latchedNumbers h).queue n).trans (or_congr_right (State.mem_latchedNumbers_onScreen_iff h n))

/-- Settles O36: the latches of `clearable` are cleared in turn, each as ACK ALERT clears it, and then counted. -/
theorem ackAlertAllClearsLatches : Obligations.AckAlertAllClearsLatches := by
  intro s tag htable halert hready cleared
  have hexec := (exec_ackAlertAll tag s).trans (State.takeThen_of_ready (fun u => u.ackAll) hready rfl)
  have htaken : (s.take (goodFrame 0x20 tag [0xFF, 0xFF])).tableLaw := htable
  have hall := State.clearLatches_latchedNumbers htaken
  have hqueue := State.mem_ackAll_scanOrder htaken
  have hcount : s.latchedNumbers.length = cleared.length := List.length_map ..
  refine ⟨_, hexec, (State.answer_scr _ _).trans hall.scr, (congrArg Paint.slots (State.answer_pnt _ _)).trans hall.slots,
    fun n f hf => ?record, fun n hn => ?free, fun n => ?list, State.ackAll_alertList htaken ▸ List.filter_sublist,
    (congrArg Alerts.watchList (State.answer_aeu _ _)).trans hall.watches, fun n hn => (hqueue n).2 (.inl hn),
    fun e he hv => (hqueue e.1).2 (.inr ⟨e, he, rfl, hv⟩), fun n hn => (hqueue n).1 hn,
    ⟨State.latchStates (s.take (goodFrame 0x20 tag [0xFF, 0xFF])) s.latchedNumbers, ?length, fun a ha => ?first,
      fun a ha => ?last, fun i n f a b hi ha hb => ?next⟩, ?reply⟩
  case record =>
    rw [State.ackAll_field? htaken, State.take_field?, hf, Option.map_some]
    exact congrArg some (Field.unlatchedIn_latchedNumbers htable hf)
  case free => rw [State.ackAll_field? htaken, State.take_field?, hn, Option.map_none]
  case list =>
    rw [State.ackAll_alertList htaken]
    exact State.mem_alertList_kept_iff htable halert n
  case length => rw [State.latchStates_length, hcount]
  case first =>
    rw [State.eq_of_latchStates_getElem? ha]
    exact ⟨⟨rfl, rfl, rfl⟩, rfl, s.take_notice _⟩
  case last =>
    rw [State.eq_of_latchStates_getElem? ha, ← hcount, List.take_length]
    exact ⟨⟨State.answer_fields _ _, State.answer_pnt _ _, State.answer_scr _ _⟩, State.answer_aeu _ _,
      State.answer_notice _ _⟩
  case next =>
    obtain ⟨⟨hrecord, hothers, hscr, halerts, hwatches, hqueue, hlag⟩, hnow⟩ :=
      State.latchStates_latchCleared htaken hi ha hb
    rw [hnow] at hlag
    exact ⟨hrecord, hothers, hscr, halerts, hwatches, hqueue, hlag⟩
  case reply =>
    rw [← hcount]
    exact State.answered_of_leavesLine _ hready hall.line

end Sys2Proof.Machine
end

section
/-! What READ STATUS and READ FAULT report (R159, R160). -/

namespace Sys2Proof.Machine

variable {s : State}

/-! ### READ STATUS (R160) -/

theorem State.rendering_iff : s.rendering = true ↔ ∃ e ∈ s.pnt.slots, e.2.content.isFilling = true := by
  rw [← Bool.not_eq_false, State.rendering_eq_false_iff]
  simp

/-- The message in hand RESERVES one reply entry more (R168). -/
theorem State.take_entriesUsed (x : Frame) (h : s.msg.inHand = none) : (s.take x).entriesUsed = s.entriesUsed + 1 := by
  simp only [State.entriesUsed, State.entriesReserved, State.take_replies, State.take_msg, h, Option.toList_some,
    Option.toList_none, List.length_cons, List.length_nil]
  omega

/-- The flags byte of the report, bit 0 first. -/
def State.statusFlags (s : State) : Byte :=
  byteOfFlags [s.scr.frozen, s.scr.timerHold, s.pnt.lagging, s.rendering, s.msg.pendingConfigure.isSome,
    s.msg.pendingPage.isSome, s.aeu.noticeOutstanding]

/-- The report on the state after the take, in the words of the state before it: the entry that the take RESERVED is the one
that the count of entries used leaves out. -/
theorem State.take_statusReport (x : Frame) {remaining : Half} (h : s.msg.inHand = none)
    (hremaining : s.freezeRemaining = remaining) :
    (s.take x).statusReport =
      [s.scr.geometry.code, s.scr.page.zeroExtend 8, s.scr.mode.code, BitVec.ofNat 8 s.scr.brightness, s.statusFlags] ++
        bytesOfHalf remaining ++ bytesOfHalf (BitVec.ofNat 16 s.pnt.urgent.length) ++
        bytesOfHalf (BitVec.ofNat 16 s.pnt.routine.length) ++ [BitVec.ofNat 8 s.pnt.slots.length] ++
        bytesOfHalf (BitVec.ofNat 16 s.fields.length) ++ [BitVec.ofNat 8 s.entriesUsed] ++ bytesOfHalf s.aeu.latched ++
        bytesOfHalf s.aeu.noticeMask ++ bytesOfWord s.scr.frameCounter := by
  have hfreeze : (s.take x).freezeRemaining = remaining := hremaining
  have hflags : (s.take x).statusFlags = s.statusFlags := rfl
  rw [State.statusReport, ← State.statusFlags, hfreeze, hflags, State.take_entriesUsed x h, Nat.add_sub_cancel]
  simp [State.now, byteOfNat, bytesOfCount]

/-- Settles O21: the report is `statusReport`, and the request answers and does nothing else. -/
theorem readStatusReportsState : Obligations.ReadStatusReportsState := by
  intro s tag
  refine ⟨fun payload hready => State.exec_wrongLength (exec_readStatus ..) rfl hready, fun hready => ?_⟩
  refine ⟨_, s.statusFlags, State.exec_of_ready (exec_readStatus tag (.fields ()) s) rfl hready, ?flags,
    State.reported_answer hready (State.take_statusReport _ (State.ready_inHand hready) ?remaining)⟩
  case flags =>
    exact ⟨byteOfFlags_getLsbD _ 0 (by decide), byteOfFlags_getLsbD _ 1 (by decide), byteOfFlags_getLsbD _ 2 (by decide),
      (Bool.eq_iff_iff.1 (byteOfFlags_getLsbD _ 3 (by decide))).trans State.rendering_iff,
      byteOfFlags_getLsbD _ 4 (by decide), byteOfFlags_getLsbD _ 5 (by decide), byteOfFlags_getLsbD _ 6 (by decide)⟩
  case remaining =>
    rw [State.freezeRemaining, State.now]
    cases s.scr.frozen <;> cases s.scr.freezeDeadline <;> rfl

/-! ### READ FAULT (R159) -/

theorem State.faultReport_of_none (h : s.aeu.faultRecord = none) : s.faultReport = [0x00] := by
  rw [State.faultReport, h]

theorem State.faultReport_of_some {r : FaultRecord} (h : s.aeu.faultRecord = some r) :
    s.faultReport = [0x01, r.type, r.tag, r.code.code, byteOfFlags [r.field.isSome, r.index.isSome]] ++
      bytesOfHalf (r.field.getD 0) ++ [BitVec.ofNat 8 (r.index.getD 0)] ++ bytesOfWord r.frame := by
  rw [State.faultReport, h, List.append_assoc _ [_]]
  rfl

/-- Settles O24: the report is `faultReport`, and the request answers and does nothing else. -/
theorem readFaultReportsRecord : Obligations.ReadFaultReportsRecord := by
  intro s tag
  refine ⟨fun hready => ?_, fun payload hready => State.exec_wrongLength (exec_readFault ..) rfl hready⟩
  refine ⟨_, State.exec_of_ready (exec_readFault tag (.fields ()) s) rfl hready, fun hnone => ?none, fun r hsome => ?some⟩
  case none => exact State.reported_answer hready (State.faultReport_of_none (s := s.take _) hnone)
  case some =>
    exact ⟨byteOfFlags [r.field.isSome, r.index.isSome], byteOfFlags_getLsbD _ 0 (by decide),
      byteOfFlags_getLsbD _ 1 (by decide),
      State.reported_answer hready (State.faultReport_of_some (s := s.take _) hsome)⟩

end Sys2Proof.Machine
end

section
/-! What CLEAR EVENTS and SET NOTICE MASK do, and the NOTICE that they renew (R155, R157). -/

namespace Sys2Proof.Machine

variable {s : State}

/-! ### The renewal of the NOTICE (R155 step 3, R157 step 2) -/

theorem State.attn_iff : s.attn = true ↔ s.aeu.latched &&& s.aeu.noticeMask ≠ 0 := bne_iff_ne

theorem State.attn_eq (s : State) : s.attn = decide (s.aeu.latched &&& s.aeu.noticeMask ≠ 0) := by
  rw [Bool.eq_iff_iff, State.attn_iff, decide_eq_true_iff]

theorem State.renotify_of_due (hno : s.aeu.noticeOutstanding = false) (hattn : s.attn = true) :
    s.renotify = s.placeNotice s.aeu.latched s.now s.lnk.placings := by
  rw [State.renotify, hno, hattn]
  rfl

theorem State.renotify_of_not_due (h : ¬(s.aeu.noticeOutstanding = false ∧ s.attn = true)) : s.renotify = s := by
  rw [State.renotify, if_neg]
  simpa using h

theorem State.renotify_aeu (s : State) :
    s.renotify.aeu = { s.aeu with noticeOutstanding := s.aeu.noticeOutstanding || s.attn } := by
  by_cases hdue : s.aeu.noticeOutstanding = false ∧ s.attn = true
  · obtain ⟨hno, hattn⟩ := hdue
    rw [State.renotify_of_due hno hattn, State.placeNotice_aeu, hattn, Bool.or_true]
  · have hsame : (s.aeu.noticeOutstanding || s.attn) = s.aeu.noticeOutstanding := by
      cases hno : s.aeu.noticeOutstanding
      · simpa [hno] using hdue
      · rfl
    rw [State.renotify_of_not_due hdue, hsame]

theorem State.renotify_leavesLine (s : State) : s.leavesLine s.renotify := by
  unfold State.renotify
  split <;> exact ⟨rfl, rfl, s.lineKept_refl, rfl⟩

theorem State.renotify_blocksKept (s : State) : s.blocksKept s.renotify := by
  unfold State.renotify
  split <;> exact ⟨rfl, rfl, rfl⟩

/-- The reply's placing time is the next one (R171). -/
theorem State.answer_placed {f : Frame} {payload : List Byte} {r : Reply} (h : s.msg.inHand = some f)
    (hr : (s.answer payload).lnk.replies.getLast? = some r) : r.placed = s.lnk.placings := by
  rw [State.answer_of_inHand payload h, List.getLast?_concat] at hr
  exact Option.some.inj hr ▸ rfl

/-! ### CLEAR EVENTS and SET NOTICE MASK (R155, R157) -/

/-- A request's take, with AEU's registers as the request sets them. -/
def State.takeAlerts (s : State) (x : Frame) (a : Alerts) : State := { s.take x with aeu := a }

/-- What a request that sets AEU's registers to `a` leaves: nothing else but the NOTICE that they call for, placed ahead of
the reply. -/
structure State.renotified (s t : State) (a : Alerts) : Prop where
  blocks : s.blocksKept t
  aeu : t.aeu = { a with noticeOutstanding := a.noticeOutstanding || decide (a.latched &&& a.noticeMask ≠ 0) }
  placed : a.noticeOutstanding = false → a.latched &&& a.noticeMask ≠ 0 →
    ∃ time, t.lnk.notice = some ⟨a.latched, s.scr.frameCounter, time⟩ ∧
      ∀ r, t.lnk.replies.getLast? = some r → time < r.placed
  kept : ¬(a.noticeOutstanding = false ∧ a.latched &&& a.noticeMask ≠ 0) → t.lnk.notice = s.lnk.notice

theorem State.takeAlerts_renotified (s : State) (x : Frame) (a : Alerts) (payload : List Byte) :
    s.renotified ((s.takeAlerts x a).renotify.answer payload) a where
  blocks := by
    obtain ⟨hfields, hpnt, hscr⟩ := (s.takeAlerts x a).renotify_blocksKept
    exact ⟨(State.answer_fields _ _).trans hfields, (State.answer_pnt _ _).trans hpnt,
      (State.answer_scr _ _).trans hscr⟩
  aeu := by
    rw [State.answer_aeu, State.renotify_aeu, State.attn_eq]
    rfl
  placed hno henabled := by
    have hdue := State.renotify_of_due (s := s.takeAlerts x a) hno (State.attn_iff.2 henabled)
    rw [hdue]
    refine ⟨_, State.answer_notice _ _, fun r hr => ?_⟩
    rw [State.answer_placed (f := x) rfl hr]
    exact Nat.lt_succ_self _
  kept hnot := by
    rw [State.renotify_of_not_due (s := s.takeAlerts x a) (by rwa [State.attn_iff])]
    exact (State.answer_notice _ _).trans (s.take_notice x)

theorem State.takeAlerts_answered {c : Instr} {x : Frame} (a : Alerts) (payload : List Byte) (h : s.ready c = true) :
    s.answered ((s.takeAlerts x a).renotify.answer payload) (x.type + 0x80) x.tag payload :=
  State.answered_of_leavesLine payload h (State.leavesLine.trans (t := s.takeAlerts x a)
    ⟨rfl, rfl, State.lineKept_refl _, rfl⟩ (State.renotify_leavesLine _))

/-- ATTN follows the latched set and the mask that the request leaves (R154). -/
theorem State.renotified.attn_iff {t : State} {a : Alerts} (h : s.renotified t a) :
    t.attn = true ↔ a.latched &&& a.noticeMask ≠ 0 := by
  rw [State.attn_iff, h.aeu]

/-- AEU's registers as CLEAR EVENTS sets them. -/
def Alerts.withoutEvents (a : Alerts) (kinds : EventSet) : Alerts :=
  { a with latched := a.latched &&& ~~~kinds, noticeOutstanding := false }

theorem State.clearEvents_take (x : Frame) (kinds : EventSet) :
    (s.take x).clearEvents kinds = (s.takeAlerts x (s.aeu.withoutEvents kinds)).renotify.answer
      (bytesOfHalf (s.aeu.latched &&& ~~~kinds) ++
        [if s.aeu.latched &&& ~~~kinds &&& s.aeu.noticeMask ≠ 0 then 0x01 else 0x00]) := by
  have hcleared : (s.take x).clearEvents kinds = (s.takeAlerts x (s.aeu.withoutEvents kinds)).renotify.answer
      (bytesOfHalf (s.takeAlerts x (s.aeu.withoutEvents kinds)).renotify.aeu.latched ++
        [byteOfBool (s.takeAlerts x (s.aeu.withoutEvents kinds)).attn]) := rfl
  rw [hcleared, State.renotify_aeu, byteOfBool]
  simp only [State.attn_iff]
  rfl

theorem State.clearEvents_renotified (s : State) (x : Frame) (kinds : EventSet) :
    s.renotified ((s.take x).clearEvents kinds) (s.aeu.withoutEvents kinds) :=
  State.clearEvents_take x kinds ▸ s.takeAlerts_renotified x _ _

/-- Settles O37: CLEAR EVENTS sets notice-outstanding to no, so a NOTICE is placed exactly where an enabled kind is left. -/
theorem clearEventsClearsLatches : Obligations.ClearEventsClearsLatches := by
  intro s tag kinds
  refine ⟨fun payload hready => State.exec_wrongLength (exec_clearEvents ..) rfl hready, fun hready => ?_⟩
  have hleft := s.clearEvents_renotified (goodFrame 0x28 tag (bytesOfHalf kinds)) kinds
  refine ⟨_, State.exec_of_ready (exec_clearEvents tag (.fields kinds) s) rfl hready, hleft.blocks, hleft.aeu, ?_,
    hleft.placed rfl, fun hnot => hleft.kept fun ⟨_, henabled⟩ => hnot henabled, hleft.attn_iff⟩
  rw [State.clearEvents_take]
  exact State.takeAlerts_answered _ _ hready

/-- AEU's registers as SET NOTICE MASK sets them. -/
def Alerts.withMask (a : Alerts) (kinds : EventSet) : Alerts := { a with noticeMask := kinds &&& 0x07FF }

theorem State.setNoticeMask_take (x : Frame) (kinds : EventSet) :
    (s.take x).setNoticeMask kinds = (s.takeAlerts x (s.aeu.withMask kinds)).renotify.answer
      (bytesOfHalf (kinds &&& 0x07FF) ++ bytesOfHalf s.aeu.latched) := by
  have hmasked : (s.take x).setNoticeMask kinds = (s.takeAlerts x (s.aeu.withMask kinds)).renotify.answer
      (bytesOfHalf (s.takeAlerts x (s.aeu.withMask kinds)).renotify.aeu.noticeMask ++
        bytesOfHalf (s.takeAlerts x (s.aeu.withMask kinds)).renotify.aeu.latched) := rfl
  rw [hmasked, State.renotify_aeu]
  rfl

theorem State.setNoticeMask_renotified (s : State) (x : Frame) (kinds : EventSet) :
    s.renotified ((s.take x).setNoticeMask kinds) (s.aeu.withMask kinds) :=
  State.setNoticeMask_take x kinds ▸ s.takeAlerts_renotified x _ _

/-- Settles O38: a NOTICE is placed where none is outstanding and the new mask enables a latched kind. -/
theorem setNoticeMaskReplacesMask : Obligations.SetNoticeMaskReplacesMask := by
  intro s tag kinds
  refine ⟨fun payload hready => State.exec_wrongLength (exec_setNoticeMask ..) rfl hready, fun hready => ?_⟩
  have hmasked := s.setNoticeMask_renotified (goodFrame 0x29 tag (bytesOfHalf kinds)) kinds
  refine ⟨_, State.exec_of_ready (exec_setNoticeMask tag (.fields kinds) s) rfl hready, hmasked.blocks, ?aeu, ?answer,
    ?notice, hmasked.kept, hmasked.attn_iff⟩
  case aeu =>
    refine hmasked.aeu.trans ?_
    cases hno : s.aeu.noticeOutstanding <;> simp [Alerts.withMask, hno]
  case answer =>
    rw [State.setNoticeMask_take]
    exact State.takeAlerts_answered _ _ hready
  case notice =>
    intro ⟨hno, henabled⟩
    obtain ⟨time, hnotice, -⟩ := hmasked.placed hno henabled
    exact ⟨time, hnotice⟩

end Sys2Proof.Machine
end

section
/-! The law of the outstanding NOTICE (R153) along everything that latches, and along the parts of a frame boundary. -/

namespace Sys2Proof.Machine

variable {s : State}

/-! ### Latches and the law (R152, R153) -/

/-- A change of state that keeps the law of the outstanding NOTICE. -/
def State.keepsNotice (s t : State) : Prop := s.noticeLaw → t.noticeLaw

theorem State.keepsNotice_refl (s : State) : s.keepsNotice s := id

theorem State.keepsNotice.trans {s t u : State} (h : s.keepsNotice t) (k : t.keepsNotice u) : s.keepsNotice u :=
  fun hs => k (h hs)

/-- AEU's latches, mask and notice-outstanding are as before. -/
theorem State.keepsNotice_of_eq {t : State} (hlatched : t.aeu.latched = s.aeu.latched)
    (hmask : t.aeu.noticeMask = s.aeu.noticeMask) (hout : t.aeu.noticeOutstanding = s.aeu.noticeOutstanding) :
    s.keepsNotice t := by
  rw [State.keepsNotice, State.noticeLaw, State.noticeLaw, hlatched, hmask, hout]
  exact id

/-- Kinds that were enabled and not outstanding come from the latched set before or are newly latched. -/
theorem newly_enabled {latched kinds mask : EventSet} (h : (latched ||| kinds) &&& mask ≠ 0) (hold : latched &&& mask = 0) :
    kinds &&& ~~~latched &&& mask ≠ 0 := by
  intro hnone
  refine h (BitVec.eq_of_getLsbD_eq fun i hi => ?_)
  have hold' := congrArg (fun x => x.getLsbD i) hold
  have hnone' := congrArg (fun x => x.getLsbD i) hnone
  simp only [BitVec.getLsbD_and, BitVec.getLsbD_or, BitVec.getLsbD_not] at hold' hnone' ⊢
  revert hold' hnone'
  cases latched.getLsbD i <;> cases kinds.getLsbD i <;> cases mask.getLsbD i <;> simp [hi]

theorem or_names_no_kind {a b : EventSet} (ha : a &&& 0xF800 = 0) (hb : b &&& 0xF800 = 0) : (a ||| b) &&& 0xF800 = 0 := by
  rw [BitVec.and_or_distrib_right, ha, hb, BitVec.or_self]

/-- Changes of the latched set keep the law, where each kind is one of the eleven: an enabled kind that was not latched places
a NOTICE. -/
theorem State.latchedInTurn.keepsNotice {t : State} {kinds : EventSet} {n : FrameNo} (h : s.latchedInTurn t kinds n)
    (hkinds : kinds &&& 0xF800 = 0) : s.keepsNotice t := by
  obtain ⟨hlatched, hmask, hnotice⟩ := h
  rintro ⟨hout, hnamed, hmasked⟩
  rw [State.noticeLaw, hlatched, hmask]
  refine ⟨fun henabled => ?_, or_names_no_kind hnamed hkinds, hmasked⟩
  split at hnotice <;> rename_i hdue
  · exact hnotice.1
  · rw [hnotice.1]
    by_contra hno
    have hold : s.aeu.latched &&& s.aeu.noticeMask = 0 := by_contra fun hold => hno (hout hold)
    exact hdue ⟨by simpa using hno, newly_enabled henabled hold⟩

/-- One change is a run of one change. -/
theorem State.latchedOnce.inTurn {t : State} {kinds : EventSet} {n : FrameNo} (h : s.latchedOnce t kinds n) :
    s.latchedInTurn t kinds n := by
  obtain ⟨hlatched, hmask, hnotice⟩ := h
  refine ⟨hlatched, hmask, ?_⟩
  split at hnotice <;> rename_i hdue
  · obtain ⟨hout, placed, hslot⟩ := hnotice
    rw [if_pos hdue, hlatched]
    exact ⟨hout, _, placed, hslot, or_and_mask_ne_zero hdue.2,
      by rw [BitVec.or_assoc, BitVec.or_comm kinds, ← BitVec.or_assoc, BitVec.or_self], BitVec.or_self⟩
  · rwa [if_neg hdue]

theorem State.latch_keepsNotice {kinds : EventSet} (n : FrameNo) (h : kinds &&& 0xF800 = 0) :
    s.keepsNotice (s.latch kinds n) :=
  (s.latch_once kinds n).inTurn.keepsNotice h

theorem riseKinds_named (before after : Bool) : riseKinds before after &&& 0xF800 = 0 := by
  unfold riseKinds
  split <;> decide

theorem State.lagReported.keepsNotice {t : State} {n : FrameNo} (h : s.lagReported t n) : s.keepsNotice t :=
  (State.latchedOnce_of_lagReported h).inTurn.keepsNotice (riseKinds_named _ _)

/-! ### The queue and the table -/

theorem State.latchLagRise_keepsNotice (before : State) (n : FrameNo) : s.keepsNotice (s.latchLagRise before n) := by
  unfold State.latchLagRise
  split
  · exact State.latch_keepsNotice n (by decide)
  · exact s.keepsNotice_refl

theorem State.enqueueAndLatch_keepsNotice (n : Nat) (u : Bool) (at_ : FrameNo) :
    s.keepsNotice (s.enqueueAndLatch n u at_) :=
  (State.enqueueAndLatch_reported n u at_).keepsNotice

theorem State.enqueueAtBoundary_keepsNotice (n : Nat) (u : Bool) : s.keepsNotice (s.enqueueAtBoundary n u) :=
  State.keepsNotice_of_eq (by simp) (by simp) (by simp)

theorem State.enqueueAllAtBoundary_keepsNotice (n : FrameNo) (l : List Nat) :
    s.keepsNotice (s.enqueueAllAtBoundary n l) := by
  induction l generalizing s with
  | nil => exact s.keepsNotice_refl
  | cons m rest ih =>
    exact ((State.enqueueAtBoundary_keepsNotice m false).trans (State.latchLagRise_keepsNotice s n)).trans ih

theorem State.removeEntry_keepsNotice (m : Nat) (n : FrameNo) : s.keepsNotice (s.removeEntry m n) :=
  (s.removeEntry_reported m n).keepsNotice

theorem State.removeEntries_keepsNotice (n : FrameNo) (l : List Nat) : s.keepsNotice (s.removeEntries n l) := by
  induction l generalizing s with
  | nil => exact s.keepsNotice_refl
  | cons m rest ih => exact (State.removeEntry_keepsNotice m n).trans ih

theorem State.release_keepsNotice (m : Nat) (n : FrameNo) : s.keepsNotice (s.release m n) :=
  (State.removeEntry_keepsNotice m n).trans (State.keepsNotice_of_eq rfl rfl rfl)

theorem State.releaseAll_keepsNotice (n : FrameNo) (l : List Nat) : s.keepsNotice (s.releaseAll n l) := by
  induction l generalizing s with
  | nil => exact s.keepsNotice_refl
  | cons m rest ih => exact (State.release_keepsNotice m n).trans ih

/-! ### The parts of a boundary (R103, R106) -/

theorem unionOf_watchChange_named (r : WatchRecord) (list : List WatchRecord) :
    unionOf (watchChange r list) &&& 0xF800 = 0 := by
  unfold watchChange
  split
  · decide
  · split <;> decide

theorem unionOf_lagChange_named (before after : State) : unionOf (lagChange before after) &&& 0xF800 = 0 := by
  unfold lagChange
  split <;> decide

/-- What an expiry latches: the STALE record and a rise of LAGGING (R127, R152). -/
theorem State.expireField_keepsNotice (m : Nat) (f : Field) (n : FrameNo) : s.keepsNotice (s.expireField m f n) := by
  unfold State.expireField
  dsimp only
  refine State.keepsNotice.trans ?_ ((State.latchOpen_inTurn _ n).keepsNotice ?_)
  · refine State.keepsNotice.trans ?_ (State.enqueueAtBoundary_keepsNotice m false)
    split <;> exact State.keepsNotice_of_eq rfl rfl rfl
  · rw [List.flatten_cons, unionOf_append]
    refine or_names_no_kind ?_ (by simpa using unionOf_lagChange_named _ _)
    split
    · exact unionOf_watchChange_named _ _
    · decide

theorem State.examineAll_keepsNotice (n : FrameNo) (l : List Nat) : s.keepsNotice (s.examineAll n l) := by
  induction l generalizing s with
  | nil => exact s.keepsNotice_refl
  | cons m rest ih =>
    refine State.keepsNotice.trans ?_ ih
    unfold State.examine
    split
    · split
      · exact State.expireField_keepsNotice m _ n
      · exact s.keepsNotice_refl
    · exact s.keepsNotice_refl

theorem State.takeExpiries_keepsNotice (n : FrameNo) : s.keepsNotice (s.takeExpiries n) := by
  unfold State.takeExpiries
  split
  · exact s.keepsNotice_refl
  · split
    · exact State.keepsNotice_of_eq rfl rfl rfl
    · exact (State.examineAll_keepsNotice n _).trans (State.keepsNotice_of_eq rfl rfl rfl)

theorem State.age_keepsNotice : s.keepsNotice s.age := by
  unfold State.age
  split
  · exact s.keepsNotice_refl
  · split <;> exact State.keepsNotice_of_eq rfl rfl rfl

theorem State.latchFrameIf_keepsNotice (now : Bool) (n : FrameNo) : s.keepsNotice (s.latchFrameIf now n) := by
  unfold State.latchFrameIf
  split
  · exact State.latch_keepsNotice n (by decide)
  · exact s.keepsNotice_refl

theorem State.expireFreeze_keepsNotice (n : FrameNo) : s.keepsNotice (s.expireFreeze n) := by
  unfold State.expireFreeze
  split
  · exact State.keepsNotice.trans (t := s.endFreeze) (State.keepsNotice_of_eq rfl rfl rfl)
      (State.latch_keepsNotice n (by decide))
  · exact s.keepsNotice_refl

theorem State.changePage_keepsNotice (r : PendingPage) (n : FrameNo) : s.keepsNotice (s.changePage r n) := by
  have hturned : s.keepsNotice (s.turnPage r.page n) :=
    State.keepsNotice.trans (t := s.clearPage s.scr.page) (State.keepsNotice_of_eq rfl rfl rfl) <|
      (State.releaseAll_keepsNotice n _).trans (State.keepsNotice_of_eq rfl rfl rfl)
  have hleft : s.keepsNotice (s.leavePage r.page n) := by
    unfold State.leavePage
    split
    · exact hturned
    · exact hturned.trans (State.removeEntries_keepsNotice n _)
  rw [State.changePage_eq]
  exact hleft.trans ((State.enqueueAllAtBoundary_keepsNotice n _).trans (State.keepsNotice_of_eq rfl rfl rfl))

theorem State.applyConfigure_keepsNotice (c : PendingConfigure) (n : FrameNo) : s.keepsNotice (s.applyConfigure c n) := by
  have hparameters : s.keepsNotice (s.takeParameters c n) := (s.takeParameters_reported c n).keepsNotice
  have hgeometry : ∀ u : State, u.keepsNotice (u.changeGeometry c.geometry n) := fun u =>
    State.keepsNotice.trans (t := u.clearForGeometry c.geometry) (State.keepsNotice_of_eq rfl rfl rfl) <|
      (State.releaseAll_keepsNotice n _).trans <| (State.removeEntries_keepsNotice n _).trans
        (State.enqueueAllAtBoundary_keepsNotice n _)
  by_cases hsame : c.geometry = s.scr.geometry
  · rw [State.applyConfigure_of_same n hsame]
    exact hparameters.trans (State.keepsNotice_of_eq rfl rfl rfl)
  · rw [State.applyConfigure_of_other n hsame]
    exact (hparameters.trans (hgeometry _)).trans (State.keepsNotice_of_eq rfl rfl rfl)

theorem State.applyPendingPage_keepsNotice (n : FrameNo) : s.keepsNotice (s.applyPendingPage n) := by
  rcases s.applyPendingPage_cases n with ⟨-, h⟩ | ⟨r, -, -, h⟩ <;> rw [h]
  · exact s.keepsNotice_refl
  · exact State.changePage_keepsNotice r n

theorem State.applyPendingConfigure_keepsNotice (n : FrameNo) : s.keepsNotice (s.applyPendingConfigure n) := by
  rcases s.applyPendingConfigure_cases n with ⟨-, h⟩ | ⟨c, -, -, h⟩ <;> rw [h]
  · exact s.keepsNotice_refl
  · exact State.applyConfigure_keepsNotice c n

theorem State.judgeBlink_keepsNotice (n : FrameNo) : s.keepsNotice (s.judgeBlink n) := by
  unfold State.judgeBlink
  split <;> exact State.keepsNotice_of_eq rfl rfl rfl

theorem State.commitSlot_keepsNotice (n : FrameNo) (k : Nat) : s.keepsNotice (s.commitSlot n k) := by
  rcases s.commitSlot_cases n k with h | ⟨m, r, f, -, -, h | h⟩ <;> rw [h]
  · exact s.keepsNotice_refl
  · exact State.keepsNotice_of_eq rfl rfl rfl
  · exact State.keepsNotice.trans (t := s.putCells k f r) (State.keepsNotice_of_eq rfl rfl rfl)
      (State.release_keepsNotice m n)

theorem State.commitAll_keepsNotice (n : FrameNo) : s.keepsNotice (s.commitAll n) := by
  have hslots : ∀ l (u : State), u.keepsNotice (u.commitSlots n l) := by
    intro l
    induction l with
    | nil => exact fun u => u.keepsNotice_refl
    | cons k rest ih => exact fun u => (State.commitSlot_keepsNotice n k).trans (ih _)
  unfold State.commitAll
  split
  · exact s.keepsNotice_refl
  · exact hslots _ s

theorem State.earlyPart_keepsNotice (order : BoundaryOrder) : s.keepsNotice (s.earlyPart order) := by
  unfold State.earlyPart
  dsimp only
  rw [State.startBoundary_openBoundary]
  have hlatched : s.keepsNotice (s.started.latchFrameIf order.frameFirst s.boundaryNumber) :=
    State.keepsNotice.trans (t := s.started) (State.keepsNotice_of_eq rfl rfl rfl) (State.latchFrameIf_keepsNotice _ _)
  have hexamined := hlatched.trans (State.takeExpiries_keepsNotice s.boundaryNumber)
  cases order.ftuFirst <;> cases order.agingFirst
  · exact hlatched
  · exact hlatched.trans State.age_keepsNotice
  · exact hexamined
  · exact hexamined.trans State.age_keepsNotice

theorem State.takeBoundary_keepsNotice (order : BoundaryOrder) : s.keepsNotice (s.takeBoundary order) := by
  rw [State.takeBoundary_eq]
  refine State.keepsNotice.trans (t := s.boundaryWork order) ?_ (State.keepsNotice_of_eq rfl rfl rfl)
  exact (State.earlyPart_keepsNotice order).trans <| (State.expireFreeze_keepsNotice _).trans <|
    (State.applyPendingPage_keepsNotice _).trans <| (State.applyPendingConfigure_keepsNotice _).trans <|
    State.age_keepsNotice.trans <| (State.judgeBlink_keepsNotice _).trans <| (State.commitAll_keepsNotice _).trans <|
    (State.takeExpiries_keepsNotice _).trans (State.latchFrameIf_keepsNotice _ _)

end Sys2Proof.Machine
end

section
/-! The laws of the reply queue and of the outstanding NOTICE under the line, the boundary, the requests and the painter
(R153, R168, R170, R171, R173). -/

namespace Sys2Proof.Machine

variable {s : State}

/-! ### The reply entries (R170) -/

theorem State.entriesUsed_of_same {t : State} (hmsg : t.msg = s.msg) (hreplies : t.lnk.replies = s.lnk.replies) :
    t.entriesUsed = s.entriesUsed := by
  rw [State.entriesUsed, State.entriesReserved, hmsg, hreplies, State.entriesUsed, State.entriesReserved]

/-- No more entries are used, reset goes on or not as before, and the transmitter is as it was. -/
theorem State.replyLaw_of {t : State} (hused : t.entriesUsed ≤ s.entriesUsed) (hcause : t.resetCause = s.resetCause)
    (hsending : t.lnk.sending = s.lnk.sending) (hcut : t.lnk.cut = s.lnk.cut) (hs : s.replyLaw) : t.replyLaw := by
  obtain ⟨hroom, hreset, hrunning⟩ := hs
  rw [State.replyLaw, hcause, hsending, hcut]
  refine ⟨hused.trans hroom, fun h => ?_, hrunning⟩
  obtain ⟨hnone, hidle⟩ := hreset h
  exact ⟨Nat.le_zero.1 (hnone ▸ hused), hidle⟩

theorem State.lineKept.replyLaw {t : State} (h : s.lineKept t) (hused : t.entriesUsed ≤ s.entriesUsed)
    (hs : s.replyLaw) : t.replyLaw := by
  obtain ⟨hcause, -, -, -, -, -, -, hsending, -, -, -, hcut⟩ := h
  exact State.replyLaw_of hused hcause hsending hcut hs

/-- The deferred reply to a SELECT PAGE fills the entry that was reserved for it (R111, R113). -/
theorem State.pageTaken.entriesUsed {t : State} {r : PendingPage} (h : s.pageTaken t r)
    (hr : s.msg.pendingPage = some r) : t.entriesUsed = s.entriesUsed := by
  obtain ⟨count, placed, hreplies⟩ := h.replies
  simp only [State.entriesUsed, State.entriesReserved, h.msg, hreplies, hr, Option.toList_some, Option.toList_none,
    List.length_append, List.length_cons, List.length_nil]
  omega

/-- The deferred reply to a CONFIGURE DISPLAY, likewise (R114, R117). -/
theorem State.configurationTaken.entriesUsed {t : State} {c : PendingConfigure} (h : s.configurationTaken t c)
    (hc : s.msg.pendingConfigure = some c) : t.entriesUsed = s.entriesUsed := by
  obtain ⟨count, placed, hreplies⟩ := h.replies
  simp only [State.entriesUsed, State.entriesReserved, h.msg, hreplies, hc, Option.toList_some, Option.toList_none,
    List.length_append, List.length_cons, List.length_nil]
  omega

theorem State.applyPendingPage_entriesUsed (n : FrameNo) : (s.applyPendingPage n).entriesUsed = s.entriesUsed := by
  rcases s.applyPendingPage_cases n with ⟨-, h⟩ | ⟨r, -, hr, h⟩ <;> rw [h]
  exact (s.changePage_taken r n).entriesUsed hr

theorem State.applyPendingConfigure_entriesUsed (n : FrameNo) :
    (s.applyPendingConfigure n).entriesUsed = s.entriesUsed := by
  rcases s.applyPendingConfigure_cases n with ⟨-, h⟩ | ⟨c, -, hc, h⟩ <;> rw [h]
  exact (s.applyConfigure_taken c n).entriesUsed hc

theorem State.samePanelBut.entriesUsed {t : State} (h : s.samePanelBut t) : t.entriesUsed = s.entriesUsed :=
  State.entriesUsed_of_same h.msg h.replies

theorem State.expireFreeze_entriesUsed (n : FrameNo) : (s.expireFreeze n).entriesUsed = s.entriesUsed := by
  unfold State.expireFreeze
  split
  · exact State.entriesUsed_of_same (by simp) (by simp)
  · rfl

theorem State.takeBoundary_entriesUsed (order : BoundaryOrder) : (s.takeBoundary order).entriesUsed = s.entriesUsed := by
  have hstarted : s.started.entriesUsed = s.entriesUsed := rfl
  have hpending : ((s.earlyPart order).pendingPart s.boundaryNumber).entriesUsed = (s.earlyPart order).entriesUsed := by
    rw [State.pendingPart, State.applyPendingConfigure_entriesUsed, State.applyPendingPage_entriesUsed,
      State.expireFreeze_entriesUsed]
  rw [State.takeBoundary_eq]
  calc (s.boundaryWork order).entriesUsed
      = ((s.earlyPart order).pendingPart s.boundaryNumber).entriesUsed := (s.boundaryWork_samePanelBut order).entriesUsed
    _ = (s.earlyPart order).entriesUsed := hpending
    _ = s.started.entriesUsed := (s.earlyPart_samePanel order).but.entriesUsed

/-! ### The two laws together -/

/-- A change of state that keeps the laws of the reply queue and of the outstanding NOTICE. -/
structure State.keepsMessages (s t : State) : Prop where
  reply : s.replyLaw → t.replyLaw
  notice : s.keepsNotice t

theorem State.keepsMessages.trans {s t u : State} (h : s.keepsMessages t) (k : t.keepsMessages u) : s.keepsMessages u :=
  ⟨fun hs => k.reply (h.reply hs), h.notice.trans k.notice⟩

theorem State.keepsMessages_refl (s : State) : s.keepsMessages s := ⟨id, id⟩

/-- A change outside MSG, the reply queue, the transmitter and AEU's registers. -/
theorem State.keepsMessages_of_eq {t : State} (hmsg : t.msg = s.msg) (hlnk : t.lnk = s.lnk)
    (hcause : t.resetCause = s.resetCause) (hnotice : s.keepsNotice t) : s.keepsMessages t :=
  ⟨State.replyLaw_of (State.entriesUsed_of_same hmsg (by rw [hlnk])).le hcause (by rw [hlnk]) (by rw [hlnk]), hnotice⟩

/-- A part of a boundary that leaves the replies alone. -/
theorem State.samePanelBut.keepsMessages {t : State} (h : s.samePanelBut t) (hline : s.lineKept t)
    (hnotice : s.keepsNotice t) : s.keepsMessages t :=
  ⟨hline.replyLaw h.entriesUsed.le, hnotice⟩

/-- What a request's own rule does between the take and the reply. -/
theorem State.leavesLine.keepsMessages {t : State} (h : s.leavesLine t) (hnotice : s.keepsNotice t) : s.keepsMessages t :=
  ⟨h.line.replyLaw (State.entriesUsed_of_same h.msg h.replies).le, hnotice⟩

/-! ### The boundary -/

theorem State.openBoundary_keepsMessages : s.keepsMessages s.openBoundary :=
  State.keepsMessages_of_eq (by simp) (by simp) (by simp) (State.keepsNotice_of_eq (by simp) (by simp) (by simp))

theorem State.takeBoundary_keepsMessages (order : BoundaryOrder) : s.keepsMessages (s.takeBoundary order) :=
  ⟨(s.takeBoundary_line order).replyLaw (State.takeBoundary_entriesUsed order).le, State.takeBoundary_keepsNotice order⟩

theorem State.settle_keepsMessages : s.keepsMessages s.settle := by
  unfold State.settle
  split
  · exact s.keepsMessages_refl
  · exact State.takeBoundary_keepsMessages _

theorem State.expireFreeze_keepsMessages (n : FrameNo) : s.keepsMessages (s.expireFreeze n) :=
  ⟨(s.expireFreeze_line n).replyLaw (State.expireFreeze_entriesUsed n).le, State.expireFreeze_keepsNotice n⟩

theorem State.judgeBlink_keepsMessages (n : FrameNo) : s.keepsMessages (s.judgeBlink n) :=
  (s.judgeBlink_samePanelBut n).keepsMessages (s.judgeBlink_line n) (State.judgeBlink_keepsNotice n)

theorem State.age_keepsMessages : s.keepsMessages s.age :=
  s.age_samePanel.but.keepsMessages s.age_line State.age_keepsNotice

theorem State.expireField_keepsMessages (m : Nat) (f : Field) (n : FrameNo) : s.keepsMessages (s.expireField m f n) :=
  (s.expireField_samePanel m f n).but.keepsMessages (s.expireField_line m f n) (State.expireField_keepsNotice m f n)

theorem State.applyPendingPage_keepsMessages (n : FrameNo) : s.keepsMessages (s.applyPendingPage n) :=
  ⟨(s.applyPendingPage_line n).replyLaw (State.applyPendingPage_entriesUsed n).le, State.applyPendingPage_keepsNotice n⟩

theorem State.applyPendingConfigure_keepsMessages (n : FrameNo) : s.keepsMessages (s.applyPendingConfigure n) :=
  ⟨(s.applyPendingConfigure_line n).replyLaw (State.applyPendingConfigure_entriesUsed n).le,
    State.applyPendingConfigure_keepsNotice n⟩

/-! ### Replies and refusals (R168, R169, R170) -/

/-- The reply fills the entry that the message in hand reserved. -/
theorem State.answer_keepsMessages (payload : List Byte) : s.keepsMessages (s.answer payload) := by
  cases hx : s.msg.inHand with
  | none => rw [State.answer, hx]; exact s.keepsMessages_refl
  | some x =>
    rw [State.answer_of_inHand payload hx]
    refine ⟨State.replyLaw_of ?_ rfl rfl rfl, State.keepsNotice_of_eq rfl rfl rfl⟩
    simp only [State.entriesUsed, State.entriesReserved, hx, Option.toList_some, Option.toList_none, List.length_append,
      List.length_cons, List.length_nil]
    omega

theorem RefusalCode.kinds_named (code : RefusalCode) : code.kinds &&& 0xF800 = 0 := by cases code <;> decide

theorem State.recordFault_keepsNotice (x : Frame) (code : RefusalCode) (number : Option Half) (index : Option Nat) :
    s.keepsNotice (s.recordFault x code number index) := State.keepsNotice_of_eq rfl rfl rfl

/-- REFUSED fills the entry that the message in hand reserved, and REFUSAL may place a NOTICE. -/
theorem State.refuse_keepsMessages (code : RefusalCode) (number : Option Half) : s.keepsMessages (s.refuse code number) := by
  cases hx : s.msg.inHand with
  | none => rw [State.refuse_inHand_none code number hx]; exact s.keepsMessages_refl
  | some x =>
    unfold State.refuse
    rw [hx]
    dsimp only
    refine ⟨State.replyLaw_of ?_ (by simp) (by simp) (by simp), ?_⟩
    · simp only [State.entriesUsed, State.entriesReserved, State.fillReply_msg, State.fillReply_lnk,
        State.latchChanges_msg, State.latchChanges_lnk.replies, State.recordFault_msg, State.recordFault_lnk, hx,
        Option.toList_some, Option.toList_none, List.length_append, List.length_cons, List.length_nil]
      omega
    · refine State.keepsNotice.trans ?_ (State.keepsNotice_of_eq rfl rfl rfl)
      refine State.keepsNotice.trans ?_ ((State.latchChanges_once code.kinds _ _).inTurn.keepsNotice code.kinds_named)
      exact State.keepsNotice_of_eq rfl rfl rfl

theorem State.refuseEntry_keepsMessages (code : RefusalCode) (number : Half) (index : Nat) :
    s.keepsMessages (s.refuseEntry code number index) := by
  unfold State.refuseEntry
  split
  · exact s.keepsMessages_refl
  · refine State.leavesLine.keepsMessages ⟨by simp, by simp, by simp [State.lineKept], by simp⟩ ?_
    exact (State.recordFault_keepsNotice _ _ _ _).trans (State.latch_keepsNotice _ code.kinds_named)

/-- A request's own rule that leaves the line alone, and its reply. -/
theorem State.leavesLine.answer_keepsMessages {t : State} (h : s.leavesLine t) (hnotice : s.keepsNotice t)
    (payload : List Byte) : s.keepsMessages (t.answer payload) :=
  (h.keepsMessages hnotice).trans (State.answer_keepsMessages payload)

/-! ### The field requests -/

theorem State.onField_keepsMessages {number : Half} {act : Nat → Field → State}
    (h : ∀ n f, s.keepsMessages (act n f)) : s.keepsMessages (s.onField number act) := by
  unfold State.onField
  split
  · exact State.refuse_keepsMessages _ _
  · split
    · exact State.refuse_keepsMessages _ _
    · split
      · exact State.refuse_keepsMessages _ _
      · exact h _ _

/-- A record written, its field enqueued, the request answered. -/
theorem State.putAndAnswer_keepsMessages (n : Nat) (g : Field) (u : Bool) (at_ : FrameNo) (payload : List Byte) :
    s.keepsMessages (((s.putField n g).enqueueAndLatch n u at_).answer payload) :=
  ((s.putField_leavesLine n g).trans (State.enqueueAndLatch_leavesLine _ n u at_)).answer_keepsMessages
    (State.keepsNotice.trans (t := s.putField n g) (State.keepsNotice_of_eq rfl rfl rfl)
      (State.enqueueAndLatch_keepsNotice n u at_)) payload

theorem State.define_keepsMessages (r : DefineFields) : s.keepsMessages (s.define r) := by
  unfold State.define
  split
  · exact State.refuse_keepsMessages _ _
  · split
    · exact State.refuse_keepsMessages _ _
    · dsimp only
      split
      · exact State.refuse_keepsMessages _ _
      · split
        · exact State.refuse_keepsMessages _ _
        · split
          · exact State.refuse_keepsMessages _ _
          · exact State.putAndAnswer_keepsMessages _ _ _ _ _

theorem State.restyle_keepsMessages (r : RestyleFields) : s.keepsMessages (s.restyle r) :=
  State.onField_keepsMessages fun _ _ => State.putAndAnswer_keepsMessages _ _ _ _ _

theorem State.setLimits_keepsMessages (r : LimitFields) : s.keepsMessages (s.setLimits r) := by
  refine State.onField_keepsMessages fun n f => ?_
  split
  · exact State.refuse_keepsMessages _ _
  · split
    · exact State.refuse_keepsMessages _ _
    · exact (s.putField_leavesLine _ _).answer_keepsMessages (State.keepsNotice_of_eq rfl rfl rfl) _

theorem State.delete_keepsMessages (number : Half) : s.keepsMessages (s.delete number) := by
  refine State.onField_keepsMessages fun n f => ?_
  split
  · exact State.putAndAnswer_keepsMessages _ _ _ _ _
  · exact (s.release_leavesLine _ _).answer_keepsMessages (State.release_keepsNotice _ _) _

theorem State.readField_keepsMessages (number : Half) : s.keepsMessages (s.readField number) := by
  unfold State.readField
  split
  · exact State.refuse_keepsMessages _ _
  · split
    · exact State.refuse_keepsMessages _ _
    · exact State.answer_keepsMessages _

theorem State.unhold_keepsMessages (number : Half) : s.keepsMessages (s.unhold number) := by
  refine State.onField_keepsMessages fun n f => ?_
  split
  · exact State.putAndAnswer_keepsMessages _ _ _ _ _
  · exact State.refuse_keepsMessages _ _

/-! ### Posts (R140, R147, R152) -/

theorem alertKinds_named (n : Nat) (list : List Nat) : alertKinds n list &&& 0xF800 = 0 := by
  rw [alertKinds_eq]
  split <;> decide

/-- A post latches WATCH, WATCH FULL, ALERT, ALERT FULL and PAINT LAG only. -/
theorem State.postKinds_named (n : Nat) (f : Field) (v : Value) : s.postKinds n f v &&& 0xF800 = 0 := by
  unfold State.postKinds
  refine or_names_no_kind (or_names_no_kind ?_ ?_) (unionOf_lagChange_named _ _)
  · split
    · exact unionOf_watchChange_named _ _
    · decide
  · split
    · exact alertKinds_named _ _
    · decide

theorem State.applyPost_keepsMessages (n : Nat) (f : Field) (v : Value) : s.keepsMessages (s.applyPost n f v) :=
  (s.applyPost_leavesLine n f v).keepsMessages ((State.applyPost_inTurn n f v).keepsNotice (State.postKinds_named n f v))

theorem State.post_keepsMessages (r : PostFields) : s.keepsMessages (s.post r) := by
  unfold State.post
  split
  · exact State.refuse_keepsMessages _ _
  · exact (State.applyPost_keepsMessages _ _ _).trans (State.answer_keepsMessages _)

theorem State.postText_keepsMessages (r : TextFields) : s.keepsMessages (s.postText r) := by
  unfold State.postText
  split
  · exact State.refuse_keepsMessages _ _
  · exact (State.applyPost_keepsMessages _ _ _).trans (State.answer_keepsMessages _)

theorem BatchRun.entry_keepsMessages (b : BatchRun) (index : Nat) (r : PostFields) :
    b.state.keepsMessages (b.entry index r).state := by
  unfold BatchRun.entry
  split
  · exact State.refuseEntry_keepsMessages _ _ _
  · exact State.applyPost_keepsMessages _ _ _

theorem BatchRun.entries_keepsMessages (b : BatchRun) (index : Nat) (l : List PostFields) :
    b.state.keepsMessages (b.entries index l).state := by
  induction l generalizing b index with
  | nil => exact b.state.keepsMessages_refl
  | cons r rest ih => exact (b.entry_keepsMessages index r).trans (ih _ _)

theorem State.postBatch_keepsMessages (entries : List PostFields) : s.keepsMessages (s.postBatch entries) :=
  (BatchRun.entries_keepsMessages ⟨s, 0, none⟩ 0 entries).trans (State.answer_keepsMessages _)

/-! ### The attention requests (R144, R145, R148, R155, R157) -/

theorem State.clearLatch_keepsMessages (n : Nat) (f : Field) : s.keepsMessages (s.clearLatch n f) :=
  (s.clearLatch_leavesLine n f).keepsMessages (State.keepsNotice.trans (t := s.latchDropped n f)
    (State.keepsNotice_of_eq rfl rfl rfl) (State.enqueueAndLatch_keepsNotice n false s.now))

theorem State.clearLatches_keepsMessages (l : List Nat) : s.keepsMessages (s.clearLatches l) := by
  induction l generalizing s with
  | nil => exact s.keepsMessages_refl
  | cons n rest ih =>
    unfold State.clearLatches
    split
    · exact (State.clearLatch_keepsMessages _ _).trans ih
    · exact ih

theorem State.ackAll_keepsMessages : s.keepsMessages s.ackAll :=
  (State.clearLatches_keepsMessages _).trans (State.answer_keepsMessages _)

theorem State.ack_keepsMessages (number : Half) : s.keepsMessages (s.ack number) := by
  unfold State.ack
  split
  · exact State.ackAll_keepsMessages
  · refine State.onField_keepsMessages fun n f => ?_
    split
    · exact (State.clearLatch_keepsMessages _ _).trans (State.answer_keepsMessages _)
    · exact State.answer_keepsMessages _

/-- A rule on the parts that neither law sees. -/
theorem State.keepsMessages_of_unseen {t : State} (hmsg : t.msg = s.msg) (hlnk : t.lnk = s.lnk)
    (hcause : t.resetCause = s.resetCause) (haeu : t.aeu = s.aeu) : s.keepsMessages t :=
  State.keepsMessages_of_eq hmsg hlnk hcause (State.keepsNotice_of_eq (by rw [haeu]) (by rw [haeu]) (by rw [haeu]))

/-- Such a rule and its reply. -/
theorem State.unseen_answer_keepsMessages {t : State} {payload : List Byte} (hmsg : t.msg = s.msg) (hlnk : t.lnk = s.lnk)
    (hcause : t.resetCause = s.resetCause) (haeu : t.aeu = s.aeu) : s.keepsMessages (t.answer payload) :=
  (State.keepsMessages_of_unseen hmsg hlnk hcause haeu).trans (State.answer_keepsMessages payload)

theorem State.readWatch_keepsMessages : s.keepsMessages s.readWatch :=
  (State.keepsMessages_of_eq (s := s) (t := { s with aeu := { s.aeu with watchList := [] } }) rfl rfl rfl
    (State.keepsNotice_of_eq rfl rfl rfl)).trans (State.answer_keepsMessages _)

/-- However AEU's registers are set, the renewal of the NOTICE makes the law good (R155 step 3, R157 step 2). -/
theorem State.renotify_noticeLaw (hlatched : s.aeu.latched &&& 0xF800 = 0) (hmask : s.aeu.noticeMask &&& 0xF800 = 0) :
    s.renotify.noticeLaw := by
  rw [State.noticeLaw, State.renotify_aeu]
  refine ⟨fun henabled => ?_, hlatched, hmask⟩
  rw [State.attn_iff.2 henabled, Bool.or_true]

/-- A request that sets AEU's registers, renews the NOTICE and answers. -/
theorem State.renotify_answer_keepsMessages {a : Alerts}
    (h : s.noticeLaw → a.latched &&& 0xF800 = 0 ∧ a.noticeMask &&& 0xF800 = 0) (payload : List Byte) :
    s.keepsMessages (({ s with aeu := a } : State).renotify.answer payload) := by
  have hset : s.leavesLine { s with aeu := a } := ⟨rfl, rfl, s.lineKept_refl, rfl⟩
  exact (hset.trans (State.renotify_leavesLine _)).answer_keepsMessages
    (fun hs => State.renotify_noticeLaw (h hs).1 (h hs).2) payload

theorem State.clearEvents_keepsMessages (kinds : EventSet) : s.keepsMessages (s.clearEvents kinds) := by
  refine State.renotify_answer_keepsMessages (fun ⟨_, hlatched, hmask⟩ => ⟨?_, hmask⟩) _
  dsimp only
  rw [BitVec.and_assoc, BitVec.and_comm (~~~kinds), ← BitVec.and_assoc, hlatched]
  exact BitVec.zero_and

theorem State.setNoticeMask_keepsMessages (kinds : EventSet) : s.keepsMessages (s.setNoticeMask kinds) := by
  refine State.renotify_answer_keepsMessages (fun ⟨_, hlatched, _⟩ => ⟨hlatched, ?_⟩) _
  dsimp only
  rw [BitVec.and_assoc, show allKinds &&& 0xF800 = 0 by decide]
  exact BitVec.and_zero

/-! ### The screen requests (R95, R98, R111, R114, R118, R121) -/

theorem State.setPalette_keepsMessages (r : PaletteFields) : s.keepsMessages (s.setPalette r) := by
  unfold State.setPalette
  split
  · exact State.refuse_keepsMessages _ _
  · exact State.unseen_answer_keepsMessages (by rfl) (by rfl) (by rfl) (by rfl)

theorem State.stageMode_keepsMessages (r : ModeFields) : s.keepsMessages (s.stageMode r) := by
  unfold State.stageMode
  split
  · exact State.refuse_keepsMessages _ _
  · exact State.unseen_answer_keepsMessages (by rfl) (by rfl) (by rfl) (by rfl)

theorem State.freeze_keepsMessages (r : FreezeFields) : s.keepsMessages (s.freeze r) :=
  State.unseen_answer_keepsMessages (by rfl) (by rfl) (by rfl) (by rfl)

theorem State.thaw_keepsMessages : s.keepsMessages s.thaw := by
  unfold State.thaw
  split
  · exact State.unseen_answer_keepsMessages (by rfl) (by rfl) (by rfl) (by rfl)
  · exact State.refuse_keepsMessages _ _

theorem State.readCells_keepsMessages (r : CellFields) : s.keepsMessages (s.readCells r) := by
  unfold State.readCells
  dsimp only
  split
  · exact State.refuse_keepsMessages _ _
  · split
    · exact State.refuse_keepsMessages _ _
    · split
      · exact State.refuse_keepsMessages _ _
      · exact State.answer_keepsMessages _

/-- An accepted SELECT PAGE keeps the entry of the message in hand for its deferred reply (R111). -/
theorem State.selectPage_keepsMessages (page : Byte) (h : s.msg.inHand.isSome = true) :
    s.keepsMessages (s.selectPage page) := by
  unfold State.selectPage
  split
  · exact State.refuse_keepsMessages _ _
  · split
    · exact State.refuse_keepsMessages _ _
    · split
      · exact State.refuse_keepsMessages _ _
      · obtain ⟨x, hx⟩ := Option.isSome_iff_exists.1 h
        refine ⟨State.replyLaw_of ?_ rfl rfl rfl, State.keepsNotice_of_eq rfl rfl rfl⟩
        simp only [State.entriesUsed, State.entriesReserved, hx, Option.toList_some, Option.toList_none, List.length_cons,
          List.length_nil]
        omega

/-- An accepted CONFIGURE DISPLAY, likewise (R114). -/
theorem State.configure_keepsMessages (r : ConfigureFields) (h : s.msg.inHand.isSome = true) :
    s.keepsMessages (s.configure r) := by
  unfold State.configure
  split
  · exact State.refuse_keepsMessages _ _
  · split
    · exact State.refuse_keepsMessages _ _
    · split
      · exact State.refuse_keepsMessages _ _
      · obtain ⟨x, hx⟩ := Option.isSome_iff_exists.1 h
        refine ⟨State.replyLaw_of ?_ rfl rfl rfl, State.keepsNotice_of_eq rfl rfl rfl⟩
        simp only [State.entriesUsed, State.entriesReserved, hx, Option.toList_some, Option.toList_none, List.length_cons,
          List.length_nil]
        omega

/-! ### The receiver (R164 to R166) -/

/-- The reply queue and the transmitter are as before. -/
def Link.sendsAs (l m : Link) : Prop := m.replies = l.replies ∧ m.sending = l.sending ∧ m.cut = l.cut

theorem Link.sendsAs.trans {l m k : Link} (h : l.sendsAs m) (h' : m.sendsAs k) : l.sendsAs k :=
  ⟨h'.1.trans h.1, h'.2.1.trans h.2.1, h'.2.2.trans h.2.2⟩

theorem Link.storeByte_sendsAs (l : Link) (buffer : Option Nat) (b : Byte) : l.sendsAs (l.storeByte buffer b) := by
  unfold Link.storeByte
  split
  · exact ⟨rfl, rfl, rfl⟩
  · split <;> exact ⟨rfl, rfl, rfl⟩

theorem Link.dropBuffer_sendsAs (l : Link) (buffer : Option Nat) : l.sendsAs (l.dropBuffer buffer) := by
  unfold Link.dropBuffer
  split <;> exact ⟨rfl, rfl, rfl⟩

theorem Link.holdFrame_sendsAs (l : Link) (buffer : Option Nat) : l.sendsAs (l.holdFrame buffer) := by
  unfold Link.holdFrame
  split
  · exact ⟨rfl, rfl, rfl⟩
  · split
    · split <;> exact ⟨rfl, rfl, rfl⟩
    · exact ⟨rfl, rfl, rfl⟩

/-- What the receiver does to the line. -/
theorem State.withLink_keepsMessages {l : Link} (h : s.lnk.sendsAs l) : s.keepsMessages { s with lnk := l } := by
  obtain ⟨hreplies, hsending, hcut⟩ := h
  have hused : State.entriesUsed { s with lnk := l } = s.entriesUsed := State.entriesUsed_of_same rfl hreplies
  exact ⟨State.replyLaw_of hused.le rfl hsending hcut, s.keepsNotice_refl⟩

theorem State.latchLine_keepsMessages {kinds : EventSet} (h : kinds &&& 0xF800 = 0) :
    s.keepsMessages (s.latchLine kinds) :=
  ⟨(s.latch_line kinds _).replyLaw (State.entriesUsed_of_same (s.latch_msg kinds _) (by simp)).le,
    State.latch_keepsNotice _ h⟩

/-- FRAMING ends a frame in frame (R164, R165). -/
theorem State.endFrame_keepsMessages (buffer : Option Nat) :
    s.keepsMessages (({ s with lnk := { s.lnk.dropBuffer buffer with receiver := .hunting } }).latchLine evFraming) :=
  State.keepsMessages.trans (t := { s with lnk := { s.lnk.dropBuffer buffer with receiver := .hunting } })
    (State.withLink_keepsMessages (s.lnk.dropBuffer_sendsAs buffer)) (State.latchLine_keepsMessages (by decide))

theorem State.receiveByte_keepsMessages (b : Byte) : s.keepsMessages (s.receiveByte b) := by
  unfold State.receiveByte
  split
  · split
    · split
      · exact State.withLink_keepsMessages ⟨rfl, rfl, rfl⟩
      · exact State.keepsMessages.trans (t := { s with lnk := { s.lnk with receiver := .expectLen none } })
          (State.withLink_keepsMessages ⟨rfl, rfl, rfl⟩) (State.latchLine_keepsMessages (by decide))
    · exact s.keepsMessages_refl
  · rename_i buffer _
    split
    · exact State.withLink_keepsMessages (s.lnk.storeByte_sendsAs buffer b)
    · exact State.endFrame_keepsMessages buffer
  · rename_i buffer _ _
    split
    · exact State.withLink_keepsMessages ((s.lnk.storeByte_sendsAs buffer b).trans (Link.holdFrame_sendsAs _ buffer))
    · exact State.withLink_keepsMessages (s.lnk.storeByte_sendsAs buffer b)

theorem State.setRxLow_keepsMessages (low : Bool) : s.keepsMessages (s.setRxLow low) :=
  State.withLink_keepsMessages ⟨rfl, rfl, rfl⟩

theorem State.receiveSignal_keepsMessages (x : LineSignal) : s.keepsMessages (s.receiveSignal x) := by
  cases x with
  | character c =>
    simp only [State.receiveSignal]
    split
    · exact s.keepsMessages_refl
    · exact State.receiveByte_keepsMessages _
  | heldLow =>
    simp only [State.receiveSignal]
    split
    · exact s.keepsMessages_refl
    · exact (State.receiveByte_keepsMessages _).trans (State.setRxLow_keepsMessages true)
  | returnsHigh => exact State.setRxLow_keepsMessages false

theorem State.receiveSignals_keepsMessages (l : List LineSignal) : s.keepsMessages (s.receiveSignals l) := by
  induction l generalizing s with
  | nil => exact s.keepsMessages_refl
  | cons x rest ih => exact (State.receiveSignal_keepsMessages x).trans ih

/-! ### The transmitter and reset processing (R170, R171, R173, R174) -/

/-- A frame that begins leaves the reply queue and what is cut off. -/
theorem Link.begin_replies (l : Link) : l.begin_.replies = l.replies ∧ l.begin_.cut = l.cut := by
  unfold Link.begin_
  split <;> try exact ⟨rfl, rfl⟩
  split <;> exact ⟨rfl, rfl⟩

/-- Outside reset processing a frame may begin. -/
theorem State.transmit_keepsMessages {l : Link} (hrunning : s.resetCause = none)
    (h : l.replies = s.lnk.replies ∧ l.cut = s.lnk.cut) : s.keepsMessages { s with lnk := l } := by
  obtain ⟨hreplies, hcut⟩ := h
  have hused : State.entriesUsed { s with lnk := l } = s.entriesUsed := State.entriesUsed_of_same rfl hreplies
  refine ⟨fun ⟨hroom, _, hwhole⟩ => ⟨hused.le.trans hroom, fun hreset => ?_, fun _ => hcut.trans (hwhole hrunning)⟩,
    s.keepsNotice_refl⟩
  simp [hrunning] at hreset

/-- A frame completed frees at most its reply's entry. -/
theorem execTransmitComplete_keepsMessages {t : State} (h : execTransmitComplete s = .next t) : s.keepsMessages t := by
  have hdone : ∀ n, s.keepsMessages
      { s with lnk := { s.lnk with sending := none, replies := s.lnk.replies.drop n } } := by
    intro n
    refine ⟨fun ⟨hroom, hreset, hwhole⟩ => ?_, s.keepsNotice_refl⟩
    have hfreed : State.entriesUsed { s with lnk := { s.lnk with sending := none, replies := s.lnk.replies.drop n } } ≤
        s.entriesUsed := by simp [State.entriesUsed, State.entriesReserved]
    exact ⟨hfreed.trans hroom, fun hr => ⟨Nat.le_zero.1 ((hreset hr).1 ▸ hfreed), rfl⟩, hwhole⟩
  unfold execTransmitComplete at h
  split at h <;> obtain rfl := Host.Outcome.next.inj h
  · exact s.keepsMessages_refl
  · exact hdone 1
  · exact hdone 0

/-- A reset part has no reply entry in use, no frame begun and nothing latched (R173). -/
theorem State.beginReset_keepsMessages (cause : ResetCause) (level : Bool) (straps : Straps) :
    s.keepsMessages (s.beginReset cause level straps) :=
  ⟨fun _ => ⟨Nat.zero_le 8, fun _ => ⟨rfl, rfl⟩, nofun⟩, fun _ => reset_noticeLaw⟩

/-- RESET DONE takes the first of the reply entries, none of which was in use (R174). -/
theorem execResetDone_keepsMessages {t : State} (h : execResetDone s = .next t) : s.keepsMessages t := by
  unfold execResetDone at h
  split at h <;> obtain rfl := Host.Outcome.next.inj h
  · exact s.keepsMessages_refl
  · rename_i cause hcause
    refine ⟨fun ⟨_, hreset, _⟩ => ⟨?_, nofun, fun _ => rfl⟩, State.keepsNotice_of_eq rfl rfl rfl⟩
    have hnone : s.entriesUsed = 0 := (hreset (by rw [hcause]; rfl)).1
    simp only [State.entriesUsed, State.entriesReserved, State.fillReply, List.length_append, List.length_cons,
      List.length_nil] at hnone ⊢
    omega

/-! ### The painter (R75 to R77) -/

theorem State.paintNext_keepsMessages : s.keepsMessages s.paintNext := by
  unfold State.paintNext
  split
  · exact s.keepsMessages_refl
  · split
    · exact s.keepsMessages_refl
    · split
      · exact State.leavesLine.keepsMessages ⟨by simp [State.beginRender], by simp [State.beginRender],
          by simp [State.beginRender, State.lineKept], by simp [State.beginRender]⟩
          ((State.removeEntry_keepsNotice _ _).trans (State.keepsNotice_of_eq rfl rfl rfl))
      · exact s.keepsMessages_refl

theorem State.finishRender_keepsMessages : s.keepsMessages s.finishRender := by
  unfold State.finishRender
  split
  · dsimp only
    split <;> exact State.keepsMessages_of_unseen rfl rfl rfl rfl
  · exact State.keepsMessages_of_unseen rfl rfl rfl rfl
  · exact s.keepsMessages_refl

end Sys2Proof.Machine
end

section
/-! Every step keeps the laws of the reply queue, of the line in reset processing and of the outstanding NOTICE. -/

namespace Sys2Proof.Machine

variable {s : State}

/-- MSG takes a frame only outside reset processing and with a reply entry FREE, which the message in hand reserves (R168). -/
theorem State.take_keepsReplyLaw {f : Frame} (h : s.canTake f = true) (hs : s.replyLaw) : (s.take f).replyLaw := by
  obtain ⟨hrunning, hidle, hroom, -⟩ := (s.canTake_iff f).1 h
  obtain ⟨-, -, -, -, -, hcut, -⟩ := s.take_line f
  refine ⟨?_, fun hreset => ?_, fun _ => hcut.trans (hs.2.2 hrunning)⟩
  · rw [State.take_entriesUsed f hidle]
    exact hroom
  · simp [hrunning] at hreset

theorem State.take_keepsMessages {c : Instr} {act : State → State} {t : State} (hc : exec c s = s.takeThen c act)
    (h : ∀ u : State, u.msg.inHand.isSome = true → u.keepsMessages (act u)) (ht : exec c s = .next t) :
    s.keepsMessages t := by
  rw [hc] at ht
  rcases s.takeThen_cases c act with hsame | ⟨f, -, hcan, htaken⟩
  · obtain rfl := Host.Outcome.next.inj (hsame.symm.trans ht)
    exact s.keepsMessages_refl
  · obtain rfl := Host.Outcome.next.inj (htaken.symm.trans ht)
    have htake : s.settle.keepsMessages (s.settle.take f) :=
      ⟨State.take_keepsReplyLaw hcan, State.keepsNotice_of_eq rfl rfl rfl⟩
    exact State.settle_keepsMessages.trans (htake.trans (h _ rfl))

/-- A request whose own rule keeps the laws keeps them with its take and its checks. -/
theorem State.request_keepsMessages {α : Type} {c : Instr} {p : Carried α} {act : α → State → State} {t : State}
    (hc : exec c s = s.takeThen c fun u => u.checkLength p act)
    (h : ∀ a (u : State), u.msg.inHand.isSome = true → u.keepsMessages (act a u)) (ht : exec c s = .next t) :
    s.keepsMessages t := by
  refine State.take_keepsMessages hc (fun u hu => ?_) ht
  cases p with
  | fields a => exact h a u hu
  | wrongLength _ => exact State.refuse_keepsMessages _ _

/-- A command that, unless something stands against it, takes the part to a state. -/
theorem State.keepsMessages_of_unless {t u : State} {stopped : Prop} [Decidable stopped]
    (ht : (if stopped then .next s else .next u : Host.Outcome State Fault Refusal) = .next t)
    (h : ¬stopped → s.keepsMessages u) : s.keepsMessages t := by
  split at ht <;> obtain rfl := Host.Outcome.next.inj ht
  · exact s.keepsMessages_refl
  · exact h ‹_›

theorem execTransmitBegin_keepsMessages {t : State} {txen : Bool} (h : execTransmitBegin txen s = .next t) :
    s.keepsMessages t := by
  refine State.keepsMessages_of_unless h fun hfree => State.transmit_keepsMessages ?_ ?_
  · simp_all [State.inReset]
  · split
    · exact Link.begin_replies _
    · exact ⟨rfl, rfl⟩

/-- One field's expiries taken ahead of the rest of the boundary, if they are next (R127, R128). -/
theorem State.expiryAhead_keepsMessages {t : State} {m : Nat} {f : Field} {due : Prop} [Decidable due]
    (h : (if due then .next ((s.openBoundary.expireField m f s.boundaryNumber).markExamined (m + 1)) else .next s :
      Host.Outcome State Fault Refusal) = .next t) : s.keepsMessages t := by
  split at h <;> obtain rfl := Host.Outcome.next.inj h
  · exact State.openBoundary_keepsMessages.trans <| (State.expireField_keepsMessages m f s.boundaryNumber).trans
      (State.keepsMessages_of_unseen (by simp) (by simp) (by simp) (by simp))
  · exact s.keepsMessages_refl

theorem execStaleExpiry_keepsMessages {t : State} {m : Nat} (h : execStaleExpiry m s = .next t) : s.keepsMessages t := by
  unfold execStaleExpiry at h
  dsimp only at h
  split at h
  · exact State.expiryAhead_keepsMessages h
  · obtain rfl := Host.Outcome.next.inj h
    exact s.keepsMessages_refl

theorem execFlashExpiry_keepsMessages {t : State} {m : Nat} (h : execFlashExpiry m s = .next t) : s.keepsMessages t := by
  unfold execFlashExpiry at h
  dsimp only at h
  split at h
  · exact State.expiryAhead_keepsMessages h
  · obtain rfl := Host.Outcome.next.inj h
    exact s.keepsMessages_refl

theorem exec_keepsMessages (c : Instr) {t : State} (h : exec c s = .next t) : s.keepsMessages t := by
  cases c with
  | identify => exact State.request_keepsMessages (exec_identify ..) (fun _ _ _ => State.answer_keepsMessages _) h
  | readStatus => exact State.request_keepsMessages (exec_readStatus ..) (fun _ _ _ => State.answer_keepsMessages _) h
  | configureDisplay =>
    exact State.request_keepsMessages (exec_configureDisplay ..) (fun r _ hu => State.configure_keepsMessages r hu) h
  | setPalette => exact State.request_keepsMessages (exec_setPalette ..) (fun r _ _ => State.setPalette_keepsMessages r) h
  | displayMode => exact State.request_keepsMessages (exec_displayMode ..) (fun r _ _ => State.stageMode_keepsMessages r) h
  | selectPage =>
    exact State.request_keepsMessages (exec_selectPage ..) (fun page _ hu => State.selectPage_keepsMessages page hu) h
  | freeze => exact State.request_keepsMessages (exec_freeze ..) (fun r _ _ => State.freeze_keepsMessages r) h
  | thaw => exact State.request_keepsMessages (exec_thaw ..) (fun _ _ _ => State.thaw_keepsMessages) h
  | reset => exact State.request_keepsMessages (exec_reset ..) (fun _ _ _ => State.beginReset_keepsMessages _ _ _) h
  | defineField => exact State.request_keepsMessages (exec_defineField ..) (fun r _ _ => State.define_keepsMessages r) h
  | restyleField => exact State.request_keepsMessages (exec_restyleField ..) (fun r _ _ => State.restyle_keepsMessages r) h
  | setLimits => exact State.request_keepsMessages (exec_setLimits ..) (fun r _ _ => State.setLimits_keepsMessages r) h
  | deleteField =>
    exact State.request_keepsMessages (exec_deleteField ..) (fun number _ _ => State.delete_keepsMessages number) h
  | readField =>
    exact State.request_keepsMessages (exec_readField ..) (fun number _ _ => State.readField_keepsMessages number) h
  | post => exact State.request_keepsMessages (exec_post ..) (fun r _ _ => State.post_keepsMessages r) h
  | postBatch =>
    exact State.request_keepsMessages (exec_postBatch ..) (fun entries _ _ => State.postBatch_keepsMessages entries) h
  | postText => exact State.request_keepsMessages (exec_postText ..) (fun r _ _ => State.postText_keepsMessages r) h
  | unhold => exact State.request_keepsMessages (exec_unhold ..) (fun number _ _ => State.unhold_keepsMessages number) h
  | ackAlert => exact State.request_keepsMessages (exec_ackAlert ..) (fun number _ _ => State.ack_keepsMessages number) h
  | ackAlertAll => exact State.take_keepsMessages (exec_ackAlertAll ..) (fun _ _ => State.ackAll_keepsMessages) h
  | readAlerts => exact State.request_keepsMessages (exec_readAlerts ..) (fun _ _ _ => State.answer_keepsMessages _) h
  | readWatch => exact State.request_keepsMessages (exec_readWatch ..) (fun _ _ _ => State.readWatch_keepsMessages) h
  | clearEvents =>
    exact State.request_keepsMessages (exec_clearEvents ..) (fun kinds _ _ => State.clearEvents_keepsMessages kinds) h
  | setNoticeMask =>
    exact State.request_keepsMessages (exec_setNoticeMask ..) (fun kinds _ _ => State.setNoticeMask_keepsMessages kinds) h
  | readFault => exact State.request_keepsMessages (exec_readFault ..) (fun _ _ _ => State.answer_keepsMessages _) h
  | readCells => exact State.request_keepsMessages (exec_readCells ..) (fun r _ _ => State.readCells_keepsMessages r) h
  | unknownType => exact State.take_keepsMessages (exec_unknownType ..) (fun _ _ => State.refuse_keepsMessages _ _) h
  | badCheck => exact State.take_keepsMessages (exec_badCheck ..) (fun _ _ => State.refuse_keepsMessages _ _) h
  | frameReceived signals =>
    exact State.keepsMessages_of_unless h fun _ => State.receiveSignals_keepsMessages signals
  | gapTimeout => exact State.keepsMessages_of_unless h fun _ => State.endFrame_keepsMessages _
  | transmitBegin => exact execTransmitBegin_keepsMessages h
  | transmitComplete => exact execTransmitComplete_keepsMessages h
  | resetn straps =>
    obtain rfl := Host.Outcome.next.inj h
    exact State.beginReset_keepsMessages _ _ straps
  | resetDone => exact execResetDone_keepsMessages h
  | frameBoundary order => exact State.keepsMessages_of_unless h fun _ => State.takeBoundary_keepsMessages order
  | blinkToggle =>
    exact State.keepsMessages_of_unless h fun _ =>
      State.openBoundary_keepsMessages.trans (State.judgeBlink_keepsMessages _)
  | freezeExpired =>
    exact State.keepsMessages_of_unless h fun _ =>
      State.openBoundary_keepsMessages.trans (State.expireFreeze_keepsMessages _)
  | staleExpiry => exact execStaleExpiry_keepsMessages h
  | flashExpiry => exact execFlashExpiry_keepsMessages h
  | aging =>
    exact State.keepsMessages_of_unless h fun _ => State.openBoundary_keepsMessages.trans State.age_keepsMessages
  | pageChange =>
    exact State.keepsMessages_of_unless h fun _ =>
      State.openBoundary_keepsMessages.trans (State.applyPendingPage_keepsMessages _)
  | configurationApply =>
    exact State.keepsMessages_of_unless h fun _ =>
      State.openBoundary_keepsMessages.trans (State.applyPendingConfigure_keepsMessages _)
  | renderBegin =>
    exact State.keepsMessages_of_unless h fun _ => State.settle_keepsMessages.trans State.paintNext_keepsMessages
  | renderComplete =>
    exact State.keepsMessages_of_unless h fun _ => State.settle_keepsMessages.trans State.finishRender_keepsMessages

theorem step_keepsMessages {t : State} (h : step s = .next t) : s.keepsMessages t := by
  unfold step at h
  split at h
  · obtain rfl := Host.Outcome.next.inj h
    exact s.keepsMessages_refl
  · rename_i c rest _
    have hrest : s.keepsMessages { s with pending := rest } := State.keepsMessages_of_unseen rfl rfl rfl rfl
    exact hrest.trans (exec_keepsMessages c h)

/-- Settles O56: a request reserves an entry when it is taken and fills it with its reply, at once or at a boundary, and whatever
latches an enabled kind places the NOTICE that is then outstanding. -/
theorem everyStepKeepsReplyAndNoticeLaws : Obligations.EveryStepKeepsReplyAndNoticeLaws := by
  intro s t hstep
  have h := step_keepsMessages hstep
  exact ⟨h.reply, h.notice⟩

end Sys2Proof.Machine
end

section
/-! What the commands that are no request do, by definition, and that no command stops the machine (R168, R169). -/

namespace Sys2Proof.Machine

variable {s : State}

/-! ### The events at the line and at reset, by definition -/

theorem exec_frameReceived (signals : List LineSignal) (s : State) :
    exec (.frameReceived signals) s = if s.inReset then .next s else .next (s.receiveSignals signals) := rfl

theorem exec_gapTimeout (s : State) :
    exec .gapTimeout s = if s.inReset || s.lnk.receiver = .hunting then .next s
      else .next (({ s with
        lnk := { s.lnk.dropBuffer s.lnk.receiver.buffer with receiver := .hunting } }).latchLine evFraming) := rfl

theorem exec_transmitBegin (txen : Bool) (s : State) :
    exec (.transmitBegin txen) s = if s.inReset || s.lnk.sending.isSome then .next s
      else .next { s with lnk :=
        if txen then ({ s.lnk with txen := txen } : Link).begin_ else { s.lnk with txen := txen } } := rfl

theorem exec_transmitComplete (s : State) : exec .transmitComplete s = execTransmitComplete s := rfl

theorem exec_resetn (straps : Straps) (s : State) :
    exec (.resetn straps) s = .next (s.beginReset .power false straps) := rfl

theorem exec_resetDone (s : State) : exec .resetDone s = execResetDone s := rfl

/-! ### Every command answers a next state -/

/-- Whether or not something stands against a command, it answers a next state. -/
theorem next_of_ite {stopped : Prop} [Decidable stopped] (t u : State) :
    ∃ v, (if stopped then .next t else .next u : Host.Outcome State Fault Refusal) = .next v := by
  split <;> exact ⟨_, rfl⟩

/-- An event at the line, at reset, at a frame boundary or in the painter answers a next state. -/
theorem exec_next_of_event {c : Instr} (hc : c.frame? = none) (s : State) : ∃ t, exec c s = .next t := by
  cases c <;> cases hc
  case transmitComplete.refl =>
    rw [exec_transmitComplete]
    unfold execTransmitComplete
    split <;> exact ⟨_, rfl⟩
  case resetDone.refl =>
    rw [exec_resetDone]
    unfold execResetDone
    split <;> exact ⟨_, rfl⟩
  case resetn.refl => exact ⟨_, rfl⟩
  case staleExpiry.refl m =>
    change ∃ t, execStaleExpiry m s = .next t
    unfold execStaleExpiry
    dsimp only
    split
    · exact next_of_ite _ _
    · exact ⟨_, rfl⟩
  case flashExpiry.refl m =>
    change ∃ t, execFlashExpiry m s = .next t
    unfold execFlashExpiry
    dsimp only
    split
    · exact next_of_ite _ _
    · exact ⟨_, rfl⟩
  all_goals exact next_of_ite _ _

/-- Settles O2: a request is a take, which answers a next state whether or not MSG can take the frame; the events have no
other answer either. -/
theorem everyCommandAnswersNextState : Obligations.EveryCommandAnswersNextState := by
  intro c s
  cases hc : c.frame? with
  | none => exact exec_next_of_event hc s
  | some f =>
    obtain ⟨act, hact⟩ := exec_takes hc
    rw [hact]
    exact s.takeThen_next c act

end Sys2Proof.Machine
end

section
/-! MSG's take of a frame: when it waits, and the checks of R169 (chapter 10). -/

namespace Sys2Proof.Machine

variable {s : State}

/-! ### The take that waits (R168) -/

/-- A frame that MSG cannot take is not taken, and nothing changes. -/
theorem exec_of_not_canTake {c : Instr} {f : Frame} (hc : c.frame? = some f) (h : s.settle.canTake f = false) :
    exec c s = .next s := by
  obtain ⟨act, hact⟩ := exec_takes hc
  rw [hact, State.takeThen_of_frame hc, h]
  rfl

/-- Settles O3: each of the conditions is one that `canTake` asks the absence of. -/
theorem requestWaitsForMessageUnit : Obligations.RequestWaitsForMessageUnit := by
  intro c f s hc hsettled hwaits
  refine exec_of_not_canTake hc ?_
  rw [State.settle_of_none hsettled, ← Bool.not_eq_true, State.canTake_iff]
  rintro ⟨hrunning, hidle, hroom, holdest⟩
  rcases hwaits with h | h | h | ⟨harrival, h⟩ | ⟨k, rest, harrival, h⟩
  · exact h hrunning
  · exact h hidle
  · exact absurd hroom (Nat.not_lt.2 h)
  · rw [harrival] at holdest
    obtain ⟨hhunting, hhigh⟩ := holdest
    rcases h with h | h
    · exact h hhunting
    · exact Bool.noConfusion (hhigh.symm.trans h)
  · rw [harrival] at holdest
    exact h holdest

/-! ### The checks of R169 -/

/-- Settles O15: the two frames that stand for no request are taken and refused, and so is every request of a length that does
not agree with its type. -/
theorem frameChecksRefuse : Obligations.FrameChecksRefuse := by
  refine ⟨fun s type tag payload =>
    ⟨State.exec_refused (a := ()) (act := fun _ u => u.refuse .badCheck none) (exec_badCheck ..) rfl rfl,
      State.exec_refused (a := ()) (act := fun _ u => u.refuse .unknownType none) (exec_unknownType ..) rfl rfl⟩,
    fun s tag payload straps => ?_⟩
  simp only [List.forall_mem_cons]
  exact ⟨State.exec_wrongLength (exec_identify ..) rfl, State.exec_wrongLength (exec_readStatus ..) rfl,
      State.exec_wrongLength (exec_configureDisplay ..) rfl, State.exec_wrongLength (exec_setPalette ..) rfl,
      State.exec_wrongLength (exec_displayMode ..) rfl, State.exec_wrongLength (exec_selectPage ..) rfl,
      State.exec_wrongLength (exec_freeze ..) rfl, State.exec_wrongLength (exec_thaw ..) rfl,
      State.exec_wrongLength (exec_reset ..) rfl, State.exec_wrongLength (exec_defineField ..) rfl,
      State.exec_wrongLength (exec_restyleField ..) rfl, State.exec_wrongLength (exec_setLimits ..) rfl,
      State.exec_wrongLength (exec_deleteField ..) rfl, State.exec_wrongLength (exec_readField ..) rfl,
      State.exec_wrongLength (exec_post ..) rfl, State.exec_wrongLength (exec_postBatch ..) rfl,
      State.exec_wrongLength (exec_postText ..) rfl, State.exec_wrongLength (exec_unhold ..) rfl,
      State.exec_wrongLength (exec_ackAlert ..) rfl, State.exec_wrongLength (exec_readAlerts ..) rfl,
      State.exec_wrongLength (exec_readWatch ..) rfl, State.exec_wrongLength (exec_clearEvents ..) rfl,
      State.exec_wrongLength (exec_setNoticeMask ..) rfl, State.exec_wrongLength (exec_readFault ..) rfl,
      State.exec_wrongLength (exec_readCells ..) rfl, nofun⟩

/-! ### IDENTIFY (R172) -/

/-- Settles O20: the reply carries the part's codes, and the request answers and does nothing else. -/
theorem identifyReportsPart : Obligations.IdentifyReportsPart := by
  intro s tag
  refine ⟨fun hready => ?_, fun payload hready => State.exec_wrongLength (exec_identify ..) rfl hready⟩
  have hcodes : identity = [0x5A, 0x63, 0x01, 0x02, 0x00, 0x20, 0x02] := by decide
  exact ⟨_, State.exec_of_ready (exec_identify ..) rfl hready, State.reported_answer hready hcodes⟩

end Sys2Proof.Machine
end

section
/-! Reset processing: its beginning, its end, and that nothing else is taken in it (R162, R173, R174). -/

namespace Sys2Proof.Machine

variable {s : State}

/-! ### The beginning -/

/-- Where the transmitter is idle, no byte being sent is left open. -/
theorem State.beginReset_choices_of_idle (cause : ResetCause) (level : Bool) (straps : Straps) (h : s.lnk.sending = none) :
    (s.beginReset cause level straps).choices = s.choices := by
  simp [h]

/-- Settles O12: `beginReset` gives the reset values, and `bytesBegun` what the cut-off leaves. -/
theorem resetPinBeginsReset : Obligations.ResetPinBeginsReset := by
  intro s straps
  exact ⟨_, _, Link.bytesBegun_cutOff s (Config.bitTimesSent s.choices), Nat.le_add_right _ _,
    State.beginReset_choices_of_idle .power false straps, exec_resetn straps s⟩

/-- A reset that begins at the take of a message begins as without it: the take leaves the transmitter alone. -/
theorem State.take_beginReset (x : Frame) (cause : ResetCause) (level : Bool) (straps : Straps) :
    (s.take x).beginReset cause level straps = s.beginReset cause level straps := by
  unfold State.take
  dsimp only
  split <;> rfl

/-- Settles O11: the request begins reset processing as RESETN does, with its own cause. -/
theorem resetRequestBeginsReset : Obligations.ResetRequestBeginsReset := by
  intro s tag straps hready
  refine ⟨_, _, Link.bytesBegun_cutOff s (Config.bitTimesSent s.choices), Nat.le_add_right _ _,
    State.beginReset_choices_of_idle (.request tag) true straps, ?_⟩
  rw [State.exec_of_ready (exec_reset tag (.fields ()) straps s) rfl hready, State.take_beginReset]
  rfl

/-! ### The end -/

/-- Settles O13: RESET DONE is filled like a reply, with the cut-off's bytes gone and RDY as the buffers leave it. -/
theorem resetCompletionPlacesResetDone : Obligations.ResetCompletionPlacesResetDone := by
  intro s
  refine ⟨fun hrunning => ?_, fun cause hcause => ?_⟩
  · rw [exec_resetDone, execResetDone, hrunning]
  · rw [exec_resetDone, execResetDone, hcause]
    refine ⟨_, rfl, rfl, rfl, ?_, ⟨rfl, rfl, rfl⟩, rfl, rfl, rfl, rfl, rfl, rfl, rfl, rfl, rfl, rfl, rfl,
      fun hfree => ?_⟩
    · cases cause <;> exact ⟨_, rfl⟩
    · simpa [State.rdy, State.fillReply] using hfree

/-! ### In between -/

/-- MSG takes no frame during reset processing. -/
theorem State.settle_canTake_of_reset (f : Frame) (h : s.inReset = true) : s.settle.canTake f = false := by
  rw [← Bool.not_eq_true, State.canTake_iff]
  rintro ⟨hrunning, -⟩
  rw [← State.settle_inReset, State.inReset, hrunning] at h
  exact Bool.noConfusion h

/-- No event but RESETN and RESET_DONE does anything during reset processing. -/
theorem exec_event_of_reset {c : Instr} (hc : c.frame? = none) (hreset : s.inReset = true) (hidle : s.lnk.sending = none)
    (hpin : ∀ straps, c ≠ .resetn straps) (hdone : c ≠ .resetDone) : exec c s = .next s := by
  have hstop : ∀ b : Bool, (s.inReset || b) = true := fun b => by rw [hreset, Bool.true_or]
  cases c <;> cases hc
  case frameReceived.refl => exact if_pos hreset
  case gapTimeout.refl => exact if_pos (hstop _)
  case transmitBegin.refl => exact if_pos (hstop _)
  case transmitComplete.refl => rw [exec_transmitComplete, execTransmitComplete, hidle]
  case resetn.refl straps => exact absurd rfl (hpin straps)
  case resetDone.refl => exact absurd rfl hdone
  case frameBoundary.refl => exact if_pos hreset
  case blinkToggle.refl => exact if_pos (hstop _)
  case freezeExpired.refl => exact if_pos (hstop _)
  case staleExpiry.refl m =>
    change execStaleExpiry m s = .next s
    unfold execStaleExpiry
    dsimp only
    split
    · exact if_neg (by simp [hreset])
    · rfl
  case flashExpiry.refl m =>
    change execFlashExpiry m s = .next s
    unfold execFlashExpiry
    dsimp only
    split
    · exact if_neg (by simp [hreset])
    · rfl
  case aging.refl => exact if_pos hreset
  case pageChange.refl => exact if_pos (by simp [hreset])
  case configurationApply.refl => exact if_pos (by simp [hreset])
  case renderBegin.refl => exact if_pos hreset
  case renderComplete.refl => exact if_pos hreset

/-- Settles O14: MSG takes no frame, and every event but the two of reset asks whether reset processing is going on. -/
theorem resetProcessingTakesNothing : Obligations.ResetProcessingTakesNothing := by
  intro s c hcause hidle hpin hdone
  have hreset : s.inReset = true := Option.isSome_iff_ne_none.2 hcause
  refine ⟨?_, ?_, fun y x => if_pos hreset⟩
  · cases hc : c.frame? with
    | none => exact exec_event_of_reset hc hreset hidle hpin hdone
    | some f => exact exec_of_not_canTake hc (State.settle_canTake_of_reset f hreset)
  · rw [State.rdy, Option.isNone_eq_false_iff.2 hreset, Bool.false_and]

end Sys2Proof.Machine
end

section
/-! The transmitter: which frame begins, its completion, and the levels of TXD (R162, R170, R171, R173). -/

namespace Sys2Proof.Machine

variable {s : State}

/-! ### The frame that begins (R171) -/

theorem Link.begin_of_nothing {l : Link} (hreplies : l.replies = []) (hnotice : l.notice = none) : l.begin_ = l := by
  rw [Link.begin_, hreplies, hnotice]

/-- The oldest FILLED reply begins where no NOTICE was placed before it. -/
theorem Link.begin_of_reply {l : Link} {r : Reply} {rest : List Reply} (hreplies : l.replies = r :: rest)
    (hfirst : ∀ x, l.notice = some x → r.placed ≤ x.placed) : l.begin_ = { l with sending := some (.reply r.bytes) } := by
  rw [Link.begin_, hreplies]
  cases hnotice : l.notice with
  | none => rfl
  | some x => exact if_neg (Nat.not_lt.2 (hfirst x hnotice))

/-- The NOTICE begins, and leaves its slot, where it was placed before the oldest FILLED reply. -/
theorem Link.begin_of_notice {l : Link} {x : Notice} (hnotice : l.notice = some x)
    (hfirst : ∀ r rest, l.replies = r :: rest → x.placed < r.placed) :
    l.begin_ = { l with sending := some (.notice x.bytes), notice := none } := by
  rw [Link.begin_, hnotice]
  cases hreplies : l.replies with
  | nil => rfl
  | cons r rest => exact if_pos (hfirst r rest hreplies)

theorem exec_transmitBegin_of_idle (txen : Bool) (hrunning : s.resetCause = none) (hidle : s.lnk.sending = none) :
    exec (.transmitBegin txen) s = .next { s with lnk :=
      if txen then ({ s.lnk with txen := txen } : Link).begin_ else { s.lnk with txen := txen } } := by
  rw [exec_transmitBegin, if_neg]
  simp [State.inReset, hrunning, hidle]

theorem next_withLink {l m : Link} (h : l = m) :
    (.next { s with lnk := l } : Host.Outcome State Fault Refusal) = .next { s with lnk := m } := by
  rw [h]

/-- Settles O9: what begins is what `Link.begin_` finds first. -/
theorem transmitterBeginsEarliestFrame : Obligations.TransmitterBeginsEarliestFrame := by
  intro s hrunning hidle
  simp only [exec_transmitBegin_of_idle _ hrunning hidle, if_true, Bool.false_eq_true, if_false, true_and]
  exact ⟨fun hreplies hnotice => next_withLink (Link.begin_of_nothing hreplies hnotice),
    fun r rest hreplies hfirst => next_withLink (Link.begin_of_reply hreplies hfirst),
    fun x hnotice hfirst => next_withLink (Link.begin_of_notice hnotice hfirst)⟩

/-! ### Its completion (R170, R171) -/

theorem exec_transmitBegin_of_sending (txen : Bool) {x : Sending} (h : s.lnk.sending = some x) :
    exec (.transmitBegin txen) s = .next s := by
  rw [exec_transmitBegin, if_pos]
  simp [h]

/-! ### The levels of TXD (R162) -/

/-- A character's ten levels: start bit, data bits, stop bit. -/
theorem levels_getD (b : Byte) {i : Nat} (h : i < 10) :
    (characterOf b true).levels.getD i true =
      if i = 0 then false else if i = 9 then true else b.getLsbD (i - 1) := by
  interval_cases i <;> rfl

/-- Bytes back to back on the line, level by level, and a high line after them. -/
theorem lineLevels_getD (bytes : List Byte) (i : Nat) :
    (bytes.flatMap fun b => (characterOf b true).levels).getD i true =
      (match bytes[i / 10]? with
        | none => true
        | some b => if i % 10 = 0 then false else if i % 10 = 9 then true else b.getLsbD (i % 10 - 1)) := by
  induction bytes generalizing i with
  | nil => rfl
  | cons b rest ih =>
    have hten : (characterOf b true).levels.length = 10 := rfl
    rw [List.flatMap_cons]
    by_cases hi : i < 10
    · rw [List.getD_append _ _ _ _ (hten ▸ hi), levels_getD b hi, Nat.div_eq_of_lt hi, Nat.mod_eq_of_lt hi]
      rfl
    · have hnext : i / 10 = (i - 10) / 10 + 1 := by omega
      have hsame : i % 10 = (i - 10) % 10 := by omega
      rw [List.getD_append_right _ _ _ _ (hten ▸ Nat.le_of_not_lt hi), hten, ih, hnext, hsame, List.getElem?_cons_succ]

theorem State.txd_of_bytes {bytes : List Byte} (h : (if s.inReset then s.lnk.cut else s.lnk.bytesSent) = bytes) (i : Nat) :
    s.txd i = (match bytes[i / 10]? with
      | none => true
      | some b => if i % 10 = 0 then false else if i % 10 = 9 then true else b.getLsbD (i % 10 - 1)) := by
  rw [State.txd, h]
  exact lineLevels_getD bytes i

/-- Settles O10: a frame being sent keeps another from beginning, its completion is by definition, and TXD follows the bytes
being sent or those of the cut-off. -/
theorem transmitterCompletesFrame : Obligations.TransmitterCompletesFrame := by
  intro s
  refine ⟨fun hidle => ?_, fun bytes hbytes => ⟨fun txen => exec_transmitBegin_of_sending txen hbytes, ?_⟩,
    fun bytes hbytes => ⟨fun txen => exec_transmitBegin_of_sending txen hbytes, ?_⟩, fun hidle hrunning i => ?_,
    fun bytes hbytes i => State.txd_of_bytes ?_ i⟩
  · rw [exec_transmitComplete, execTransmitComplete, hidle]
  · rw [exec_transmitComplete, execTransmitComplete, hbytes]
  · rw [exec_transmitComplete, execTransmitComplete, hbytes]
  · exact State.txd_of_bytes (bytes := []) (by simp [State.inReset, hrunning, Link.bytesSent, hidle]) i
  · rcases hbytes with ⟨hrunning, hsending | hsending⟩ | ⟨hreset, hcut⟩
    · simp [State.inReset, hrunning, Link.bytesSent, hsending]
    · simp [State.inReset, hrunning, Link.bytesSent, hsending]
    · exact (if_pos (Option.isSome_iff_ne_none.2 hreset)).trans hcut

end Sys2Proof.Machine
end


section
/-! The receiver: a run of bytes from SOF to the end of its frame, kept or discarded (R162, R164 to R166). -/

namespace Sys2Proof.Machine

variable {s : State}

/-! ### Sparse stores -/

theorem Store.insert_insert {α : Type} (k : Nat) (v w : α) (l : List (Nat × α)) :
    Store.insert k v (Store.insert k w l) = Store.insert k v l := by
  induction l with
  | nil => simp [Store.insert]
  | cons e rest ih =>
    obtain ⟨j, u⟩ := e
    by_cases hlt : k < j
    · simp [Store.insert, hlt]
    · by_cases hsame : j = k
      · simp [Store.insert, hsame]
      · simp [Store.insert, hlt, hsame, ih]

/-- What is listed under a new number and taken off again leaves the list as it was. -/
theorem Store.erase_insert {α : Type} {k : Nat} (v : α) {l : List (Nat × α)} (h : Store.find? k l = none) :
    Store.erase k (Store.insert k v l) = l := by
  induction l with
  | nil => simp [Store.insert, Store.erase]
  | cons e rest ih =>
    obtain ⟨j, u⟩ := e
    by_cases hsame : j = k
    · simp [Store.find?, hsame] at h
    · have hrest : Store.find? k rest = none := by simpa [Store.find?, hsame] using h
      by_cases hlt : k < j
      · simp [Store.insert, Store.erase, hlt]
      · simp [Store.insert, Store.erase, hlt, hsame, ih hrest]

/-! ### The FREE buffers (R164, R167) -/

theorem Link.freeBuffer_of_lowest {l : Link} {k : Nat} (hk : k < 6) (hfree : Store.find? k l.buffers = none)
    (hbelow : ∀ j < k, Store.find? j l.buffers ≠ none) : l.freeBuffer = some k := by
  refine List.find?_range_eq_some.2 ⟨by simp [hfree], List.mem_range.2 hk, fun j hj => ?_⟩
  simpa using Option.isSome_iff_ne_none.2 (hbelow j hj)

theorem Link.freeBuffer_of_none {l : Link} (h : ∀ j < 6, Store.find? j l.buffers ≠ none) : l.freeBuffer = none := by
  refine List.find?_eq_none.2 fun j hj => ?_
  simpa using h j (List.mem_range.1 hj)

theorem Link.freeBuffer_of_some {l : Link} (h : ∃ k < 6, Store.find? k l.buffers = none) :
    ∃ k, l.freeBuffer = some k ∧ Store.find? k l.buffers = none := by
  obtain ⟨j, hj, hfree⟩ := h
  have hfound : l.freeBuffer.isSome = true :=
    List.find?_isSome.2 ⟨j, List.mem_range.2 hj, by simp [hfree]⟩
  obtain ⟨k, hk⟩ := Option.isSome_iff_exists.1 hfound
  exact ⟨k, hk, by simpa using List.find?_some hk⟩

/-! ### Characters as bytes (R162) -/

/-- While no break holds RXD low, characters are taken as the bytes that their data bits make, whatever the stop bits. -/
theorem State.receiveSignals_bytes {bytes : List Byte} {signals : List LineSignal} (h : s.lnk.rxLow = false)
    (hlength : signals.length = bytes.length)
    (hcharacters : ∀ (i : Nat) (b : Byte), bytes[i]? = some b →
      ∃ stop, signals[i]? = some (.character (characterOf b stop))) :
    s.receiveSignals signals = bytes.foldl State.receiveByte s := by
  induction bytes generalizing signals s with
  | nil =>
    rw [List.length_eq_zero_iff.1 hlength]
    rfl
  | cons b rest ih =>
    obtain ⟨x, more, rfl⟩ := List.exists_cons_of_length_eq_add_one hlength
    obtain ⟨stop, hx⟩ := hcharacters 0 b rfl
    obtain rfl := Option.some.inj hx
    have htaken : s.receiveSignal (.character (characterOf b stop)) = s.receiveByte b := by
      simp [State.receiveSignal, h]
    rw [State.receiveSignals, htaken, List.foldl_cons]
    exact ih (by rw [State.receiveByte_rxLow, h]) (Nat.succ.inj hlength) fun i c hc => hcharacters (i + 1) c hc

theorem State.receiveSignals_signalsOf (bytes : List Byte) (h : s.lnk.rxLow = false) :
    s.receiveSignals (signalsOf bytes) = bytes.foldl State.receiveByte s :=
  State.receiveSignals_bytes h (List.length_map ..) fun i b hb => ⟨true, by simp [signalsOf, hb]⟩

theorem exec_frameReceived_of_running (signals : List LineSignal) (h : s.resetCause = none) :
    exec (.frameReceived signals) s = .next (s.receiveSignals signals) := by
  rw [exec_frameReceived, if_neg]
  simp [State.inReset, h]

/-! ### One byte (R164, R166) -/

theorem State.receiveByte_ignored {b : Byte} (hhunting : s.lnk.receiver = .hunting) (h : b ≠ 0xC3) : s.receiveByte b = s := by
  simp only [State.receiveByte, hhunting]
  exact if_neg h

theorem State.receiveByte_sof {k : Nat} (hhunting : s.lnk.receiver = .hunting) (hfree : s.lnk.freeBuffer = some k) :
    s.receiveByte 0xC3 = { s with lnk := { s.lnk with
      receiver := .expectLen (some k), buffers := Store.insert k (.filling []) s.lnk.buffers } } := by
  simp only [State.receiveByte, hhunting, hfree]
  exact if_pos rfl

theorem State.receiveByte_sof_of_full (hhunting : s.lnk.receiver = .hunting) (hfull : s.lnk.freeBuffer = none) :
    s.receiveByte 0xC3 = ({ s with lnk := { s.lnk with receiver := .expectLen none } }).latchLine evOverrun := by
  simp only [State.receiveByte, hhunting, hfull]
  exact if_pos rfl

theorem State.receiveByte_len {buffer : Option Nat} {b : Byte} (hreceiver : s.lnk.receiver = .expectLen buffer)
    (h : b.toNat ≤ 240) :
    s.receiveByte b =
      { s with lnk := { s.lnk.storeByte buffer b with receiver := .inFrame buffer (b.toNat + 4) } } := by
  simp only [State.receiveByte, hreceiver]
  exact if_pos h

theorem State.receiveByte_badLen {buffer : Option Nat} {b : Byte} (hreceiver : s.lnk.receiver = .expectLen buffer)
    (h : 240 < b.toNat) :
    s.receiveByte b =
      ({ s with lnk := { s.lnk.dropBuffer buffer with receiver := .hunting } }).latchLine evFraming := by
  simp only [State.receiveByte, hreceiver]
  exact if_neg (Nat.not_le.2 h)

theorem State.receiveByte_counted {buffer : Option Nat} {left : Nat} (b : Byte)
    (hreceiver : s.lnk.receiver = .inFrame buffer (left + 2)) :
    s.receiveByte b = { s with lnk := { s.lnk.storeByte buffer b with receiver := .inFrame buffer (left + 1) } } := by
  simp only [State.receiveByte, hreceiver]
  exact if_neg (by omega)

theorem State.receiveByte_last {buffer : Option Nat} (b : Byte) (hreceiver : s.lnk.receiver = .inFrame buffer 1) :
    s.receiveByte b =
      { s with lnk := { (s.lnk.storeByte buffer b).holdFrame buffer with receiver := .hunting } } := by
  simp only [State.receiveByte, hreceiver]
  exact if_pos le_rfl

/-! ### A frame that is kept (R164) -/

/-- The receiver keeps the bytes of a frame in frame in a FILLING buffer. -/
def State.keeping (s : State) (k : Nat) (stored : List Byte) (receiver : Receiver) : State :=
  { s with lnk := { s.lnk with receiver := receiver, buffers := Store.insert k (.filling stored) s.lnk.buffers } }

/-- A frame is complete in a buffer. -/
def State.holding (s : State) (k : Nat) (f : Frame) : State :=
  { s with lnk := { s.lnk with
    receiver := .hunting, buffers := Store.insert k (.held f) s.lnk.buffers, arrival := s.lnk.arrival ++ [k] } }

theorem State.keeping_storeByte (k : Nat) (stored : List Byte) (receiver : Receiver) (b : Byte) :
    (s.keeping k stored receiver).lnk.storeByte (some k) b = (s.keeping k (stored ++ [b]) receiver).lnk := by
  simp only [Link.storeByte, State.keeping, Store.find?_insert_self, Store.insert_insert]

/-- LEN is stored, and four bytes more than it says are to come: TYPE, TAG and the CRC. -/
theorem State.keeping_receiveLen (k : Nat) {b : Byte} (h : b.toNat ≤ 240) :
    (s.keeping k [] (.expectLen (some k))).receiveByte b = s.keeping k [b] (.inFrame (some k) (b.toNat + 4)) := by
  rw [State.receiveByte_len rfl h, State.keeping_storeByte]
  rfl

/-- Bytes before the last are stored and counted. -/
theorem State.keeping_receiveBytes (k : Nat) (stored bytes : List Byte) :
    bytes.foldl State.receiveByte (s.keeping k stored (.inFrame (some k) (bytes.length + 1))) =
      s.keeping k (stored ++ bytes) (.inFrame (some k) 1) := by
  induction bytes generalizing stored with
  | nil => simp
  | cons b rest ih =>
    have hbyte : (s.keeping k stored (.inFrame (some k) (rest.length + 2))).receiveByte b =
        s.keeping k (stored ++ [b]) (.inFrame (some k) (rest.length + 1)) := by
      rw [State.receiveByte_counted b rfl, State.keeping_storeByte]
      rfl
    rw [List.foldl_cons, List.length_cons, hbyte, ih, List.append_assoc, List.singleton_append]

/-- The last byte completes the frame. -/
theorem State.keeping_receiveLast {k : Nat} {stored : List Byte} {b : Byte} {f : Frame}
    (h : frameOfStored (stored ++ [b]) = some f) :
    (s.keeping k stored (.inFrame (some k) 1)).receiveByte b = s.holding k f := by
  rw [State.receiveByte_last b rfl, State.keeping_storeByte]
  simp only [Link.holdFrame, State.keeping, Store.find?_insert_self, h, Store.insert_insert, State.holding]

/-! ### Whole frames (R163, R164) -/

/-- The bytes after LEN of a frame, without the last. -/
def frameBody (type tag high : Byte) (payload : List Byte) : List Byte := type :: tag :: payload ++ [high]

theorem frameBody_length (type tag high : Byte) (payload : List Byte) :
    (frameBody type tag high payload).length = payload.length + 3 := by simp [frameBody]

/-- A whole frame on the line: SOF, LEN, the body and the last byte. -/
theorem wholeFrame_eq (len type tag high low : Byte) (payload : List Byte) :
    0xC3 :: len :: type :: tag :: payload ++ [high, low] = 0xC3 :: len :: (frameBody type tag high payload ++ [low]) := by
  simp [frameBody]

theorem frameOfStored_frameBody (len type tag high low : Byte) (payload : List Byte) :
    frameOfStored (len :: frameBody type tag high payload ++ [low]) =
      some ⟨type, tag, payload, bytesOfHalf (crc16 (len :: type :: tag :: payload)) == [high, low]⟩ := by
  simp [frameBody, frameOfStored]

theorem byteOfNat_toNat {n : Nat} (h : n ≤ 240) : (byteOfNat n).toNat = n := by
  rw [byteOfNat, BitVec.toNat_ofNat, Nat.mod_eq_of_lt (by omega)]

/-- A whole frame that begins while buffer `k` is the lowest-numbered FREE one is held in it. -/
theorem State.receive_wholeFrame {k : Nat} {type tag high low : Byte} {payload : List Byte}
    (hhunting : s.lnk.receiver = .hunting) (hfree : s.lnk.freeBuffer = some k) (hlength : payload.length ≤ 240) :
    (0xC3 :: byteOfNat payload.length :: type :: tag :: payload ++ [high, low]).foldl State.receiveByte s =
      s.holding k ⟨type, tag, payload,
        bytesOfHalf (crc16 (byteOfNat payload.length :: type :: tag :: payload)) == [high, low]⟩ := by
  have hlen : (byteOfNat payload.length).toNat = payload.length := byteOfNat_toNat hlength
  have hcount : payload.length + 4 = (frameBody type tag high payload).length + 1 := by
    rw [frameBody_length]
  calc (0xC3 :: byteOfNat payload.length :: type :: tag :: payload ++ [high, low]).foldl State.receiveByte s
      = (frameBody type tag high payload ++ [low]).foldl State.receiveByte
          ((s.keeping k [] (.expectLen (some k))).receiveByte (byteOfNat payload.length)) := by
        rw [wholeFrame_eq, List.foldl_cons, List.foldl_cons, State.receiveByte_sof hhunting hfree]
        rfl
    _ = ((frameBody type tag high payload).foldl State.receiveByte
          (s.keeping k [byteOfNat payload.length] (.inFrame (some k) (payload.length + 4)))).receiveByte low := by
        rw [State.keeping_receiveLen k (hlen.le.trans hlength), hlen, List.foldl_concat]
    _ = (s.keeping k (byteOfNat payload.length :: frameBody type tag high payload) (.inFrame (some k) 1)).receiveByte low := by
        rw [hcount, State.keeping_receiveBytes, List.singleton_append]
    _ = _ := State.keeping_receiveLast (frameOfStored_frameBody ..)

/-- Settles O6: characters are taken as their bytes, and the bytes of a whole frame leave it in the lowest FREE buffer. -/
theorem receivedFrameIsHeld : Obligations.ReceivedFrameIsHeld := by
  refine ⟨fun s k type tag high low payload signals hrunning hhigh hhunting hlength hk hfree hbelow => ?_,
    fun s hrunning => ⟨fun hhigh => ?_, fun hlow => ⟨fun c => ?_, ?_, ?_⟩⟩⟩
  · intro bytes hsignals hcharacters
    rw [exec_frameReceived_of_running _ hrunning, State.receiveSignals_bytes hhigh hsignals hcharacters,
      State.receive_wholeFrame hhunting (Link.freeBuffer_of_lowest hk hfree hbelow) hlength, State.holding, ← hhunting]
  · refine ⟨s.receiveByte 0x00, ?_, ?_⟩
    · rw [exec_frameReceived_of_running _ hrunning, State.receiveSignals_signalsOf _ hhigh]
      rfl
    · rw [exec_frameReceived_of_running _ hrunning, State.receiveSignals, State.receiveSignals, State.receiveSignal, hhigh]
      rfl
  · rw [exec_frameReceived_of_running _ hrunning, State.receiveSignals, State.receiveSignals,
      (s.receiveSignal_low hlow c).1]
  · rw [exec_frameReceived_of_running _ hrunning, State.receiveSignals, State.receiveSignals,
      (s.receiveSignal_low hlow ⟨false, false, false, false, false, false, false, false, false⟩).2]
  · exact exec_frameReceived_of_running _ hrunning

end Sys2Proof.Machine
end

section
/-! The line events of the receiver: OVERRUN and FRAMING, and what the frames that they end leave (R164 to R166). -/

namespace Sys2Proof.Machine

variable {s : State}

/-! ### What a line event leaves -/

/-- A line event changes AEU's latches, the NOTICE, the receiver and the buffers only. -/
structure State.lineEvent (s t : State) : Prop where
  blocks : s.blocksKept t
  lists : s.listsKept t
  msg : t.msg = s.msg
  outside : s.outsideBlocks t
  arrival : t.lnk.arrival = s.lnk.arrival
  replies : t.lnk.replies = s.lnk.replies
  sending : t.lnk.sending = s.lnk.sending
  rxLow : t.lnk.rxLow = s.lnk.rxLow

theorem State.lineEvent.trans {t u : State} (h : s.lineEvent t) (k : t.lineEvent u) : s.lineEvent u := by
  obtain ⟨⟨hfields, hpnt, hscr⟩, ⟨halerts, hwatch⟩, hmsg, ⟨hcause, hpin, hboundary, hpending⟩, harrival, hreplies, hsending,
    hrxLow⟩ := h
  obtain ⟨⟨kfields, kpnt, kscr⟩, ⟨kalerts, kwatch⟩, kmsg, ⟨kcause, kpin, kboundary, kpending⟩, karrival, kreplies, ksending,
    krxLow⟩ := k
  exact ⟨⟨kfields.trans hfields, kpnt.trans hpnt, kscr.trans hscr⟩, ⟨kalerts.trans halerts, kwatch.trans hwatch⟩,
    kmsg.trans hmsg, ⟨kcause.trans hcause, kpin.trans hpin, kboundary.trans hboundary, kpending.trans hpending⟩,
    karrival.trans harrival, kreplies.trans hreplies, ksending.trans hsending, krxLow.trans hrxLow⟩

/-- The receiver is in some state and nothing else has changed. -/
def State.withReceiver (s : State) (receiver : Receiver) : State := { s with lnk := { s.lnk with receiver := receiver } }

theorem State.withReceiver_lineEvent (receiver : Receiver) : s.lineEvent (s.withReceiver receiver) :=
  ⟨⟨rfl, rfl, rfl⟩, ⟨rfl, rfl⟩, rfl, ⟨rfl, rfl, rfl, rfl⟩, rfl, rfl, rfl, rfl⟩

/-- The number that a line event's NOTICE carries (R106, R153). -/
theorem State.standingFrame_eq (s : State) :
    s.standingFrame = if s.boundary = none then s.scr.frameCounter else s.scr.frameCounter + 1 := by
  cases hb : s.boundary with
  | none => rw [State.standingFrame_of_none hb, if_pos rfl]
  | some b => rw [State.standingFrame_of_some hb, if_neg nofun]

/-! ### OVERRUN (R166) -/

/-- The state in which OVERRUN leaves the part at the SOF of a frame that finds no FREE buffer. -/
def State.overrun (s : State) : State := (s.withReceiver (.expectLen none)).latchLine evOverrun

theorem State.overrun_receiver : s.overrun.lnk.receiver = .expectLen none := by
  simp [State.overrun, State.latchLine, State.withReceiver]

theorem State.overrun_buffers : s.overrun.lnk.buffers = s.lnk.buffers := by
  simp [State.overrun, State.latchLine, State.withReceiver]

theorem State.overrun_standingFrame : s.overrun.standingFrame = s.standingFrame := by
  simp [State.standingFrame_eq, State.overrun, State.latchLine, State.withReceiver]

theorem State.overrun_latched : s.latchedOnce s.overrun 0x0008 s.standingFrame :=
  State.latchLine_once (s := s.withReceiver (.expectLen none)) evOverrun

theorem State.overrun_lineEvent : s.lineEvent s.overrun := by
  constructor <;>
    simp [State.overrun, State.latchLine, State.withReceiver, State.blocksKept, State.listsKept, State.outsideBlocks]

/-! ### FRAMING (R164, R165) -/

/-- FRAMING ends a frame in frame: its buffer becomes FREE and the receiver hunts. -/
def State.framed (s : State) (buffer : Option Nat) : State :=
  ({ s with lnk := { s.lnk.dropBuffer buffer with receiver := .hunting } }).latchLine evFraming

theorem State.framed_receiver (buffer : Option Nat) : (s.framed buffer).lnk.receiver = .hunting := by
  simp [State.framed, State.latchLine]

theorem State.framed_buffers (buffer : Option Nat) :
    (s.framed buffer).lnk.buffers = (s.lnk.dropBuffer buffer).buffers := by
  simp [State.framed, State.latchLine]

theorem State.framed_latched (buffer : Option Nat) : s.latchedOnce (s.framed buffer) 0x0004 s.standingFrame := by
  have h := State.latchLine_once (s := { s with lnk := { s.lnk.dropBuffer buffer with receiver := .hunting } }) evFraming
  cases buffer <;> exact h

theorem State.framed_lineEvent (buffer : Option Nat) : s.lineEvent (s.framed buffer) := by
  cases buffer <;> constructor <;>
    simp [State.framed, State.latchLine, State.blocksKept, State.listsKept, State.outsideBlocks, Link.dropBuffer]

/-! ### A frame that is discarded (R166) -/

/-- The bytes of a discarded frame are counted and not stored. -/
theorem State.discard_receiveBytes (bytes : List Byte) :
    bytes.foldl State.receiveByte (s.withReceiver (.inFrame none (bytes.length + 1))) =
      s.withReceiver (.inFrame none 1) := by
  induction bytes with
  | nil => rfl
  | cons b rest ih =>
    have hbyte : (s.withReceiver (.inFrame none (rest.length + 2))).receiveByte b =
        s.withReceiver (.inFrame none (rest.length + 1)) := State.receiveByte_counted b rfl
    rw [List.foldl_cons, List.length_cons, hbyte, ih]

/-- A whole frame that begins while no buffer is FREE leaves OVERRUN latched and the receiver hunting. -/
theorem State.receive_discardedFrame {type tag high low : Byte} {payload : List Byte}
    (hhunting : s.lnk.receiver = .hunting) (hfull : s.lnk.freeBuffer = none) (hlength : payload.length ≤ 240) :
    (0xC3 :: byteOfNat payload.length :: type :: tag :: payload ++ [high, low]).foldl State.receiveByte s =
      s.overrun.withReceiver .hunting := by
  have hlen : (byteOfNat payload.length).toNat = payload.length := byteOfNat_toNat hlength
  have hcount : payload.length + 4 = (frameBody type tag high payload).length + 1 := by
    rw [frameBody_length]
  calc (0xC3 :: byteOfNat payload.length :: type :: tag :: payload ++ [high, low]).foldl State.receiveByte s
      = (frameBody type tag high payload ++ [low]).foldl State.receiveByte
          (s.overrun.receiveByte (byteOfNat payload.length)) := by
        rw [wholeFrame_eq, List.foldl_cons, List.foldl_cons, State.receiveByte_sof_of_full hhunting hfull]
        rfl
    _ = ((frameBody type tag high payload).foldl State.receiveByte
          (s.overrun.withReceiver (.inFrame none (payload.length + 4)))).receiveByte low := by
        rw [State.receiveByte_len State.overrun_receiver (hlen.le.trans hlength), hlen, List.foldl_concat]
        rfl
    _ = (s.overrun.withReceiver (.inFrame none 1)).receiveByte low := by
        rw [hcount, State.discard_receiveBytes]
    _ = s.overrun.withReceiver .hunting :=
        State.receiveByte_last (s := s.overrun.withReceiver (.inFrame none 1)) (buffer := none) low rfl

/-- Settles O7: the discarded frame leaves OVERRUN latched, and a LEN that no frame has leaves FRAMING latched after it. -/
theorem frameWithoutBufferIsDiscarded : Obligations.FrameWithoutBufferIsDiscarded := by
  intro s hrunning hhigh hhunting hfull standing dropped
  have hstanding : s.standingFrame = standing := s.standingFrame_eq
  have hnone : s.lnk.freeBuffer = none := Link.freeBuffer_of_none hfull
  have hdropped : ∀ t, s.lineEvent t → t.lnk.receiver = .hunting → t.lnk.buffers = s.lnk.buffers → dropped t :=
    fun t h hreceiver hbuffers => ⟨h.blocks, h.lists, h.msg, h.outside, hreceiver, hbuffers, h.arrival, h.replies,
      h.sending, h.rxLow⟩
  refine ⟨fun type tag high low payload hlength => ⟨s.overrun.withReceiver .hunting, ?_, hstanding ▸ s.overrun_latched,
    hdropped _ (State.overrun_lineEvent.trans (State.withReceiver_lineEvent _)) rfl State.overrun_buffers⟩,
    fun b hlong => ⟨s.overrun, s.overrun.framed none, ?_, hstanding ▸ s.overrun_latched,
      hstanding ▸ State.overrun_standingFrame (s := s) ▸ State.framed_latched none,
      hdropped _ (State.overrun_lineEvent.trans (State.framed_lineEvent _)) (State.framed_receiver _)
        ((State.framed_buffers _).trans State.overrun_buffers)⟩⟩
  · rw [exec_frameReceived_of_running _ hrunning, State.receiveSignals_signalsOf _ hhigh,
      State.receive_discardedFrame hhunting hnone hlength]
  · rw [exec_frameReceived_of_running _ hrunning, State.receiveSignals_signalsOf _ hhigh, List.foldl_cons,
      State.receiveByte_sof_of_full hhunting hnone]
    exact congrArg _ (State.receiveByte_badLen State.overrun_receiver hlong)

/-! ### A frame in frame that FRAMING ends -/

/-- A LEN above 240 in a frame that was kept leaves FRAMING latched and its buffer FREE again. -/
theorem State.receive_badLen {b : Byte} {k : Nat} (hhunting : s.lnk.receiver = .hunting)
    (hfree : s.lnk.freeBuffer = some k) (hlong : 240 < b.toNat) :
    [0xC3, b].foldl State.receiveByte s = (s.keeping k [] (.expectLen (some k))).framed (some k) := by
  rw [List.foldl_cons, State.receiveByte_sof hhunting hfree]
  exact State.receiveByte_badLen (s := s.keeping k [] (.expectLen (some k))) rfl hlong

theorem State.keeping_lineEvent (s : State) (k : Nat) (stored : List Byte) (receiver : Receiver) :
    s.lineEvent (s.keeping k stored receiver) :=
  ⟨⟨rfl, rfl, rfl⟩, ⟨rfl, rfl⟩, rfl, ⟨rfl, rfl, rfl, rfl⟩, rfl, rfl, rfl, rfl⟩

theorem exec_gapTimeout_of_hunting (h : s.lnk.receiver = .hunting) : exec .gapTimeout s = .next s := by
  rw [exec_gapTimeout, if_pos]
  simp [h]

theorem exec_gapTimeout_of_inFrame (hrunning : s.resetCause = none) (h : s.lnk.receiver ≠ .hunting) :
    exec .gapTimeout s = .next (s.framed s.lnk.receiver.buffer) := by
  rw [exec_gapTimeout, if_neg]
  · rfl
  · simp [State.inReset, hrunning, h]

/-- The buffer of the frame in frame, if it has one, is FREE. -/
theorem State.framed_ownBuffer (s : State) :
    (s.framed s.lnk.receiver.buffer).lnk.buffers =
      (match s.lnk.receiver with
        | .expectLen (some k) => Store.erase k s.lnk.buffers
        | .inFrame (some k) _ => Store.erase k s.lnk.buffers
        | _ => s.lnk.buffers) := by
  rw [State.framed_buffers]
  rcases s.lnk.receiver with _ | (_ | k) | ⟨_ | k, left⟩ <;> rfl

/-- Settles O8: `State.framed` is what FRAMING leaves, of a LEN that no frame has and of a gap. -/
theorem framingEndsFrame : Obligations.FramingEndsFrame := by
  intro s hrunning standing
  have hstanding : s.standingFrame = standing := s.standingFrame_eq
  refine ⟨fun b hhunting => ⟨fun hother => ?_, fun hlong hhigh hsome => ?_⟩, exec_gapTimeout_of_hunting, fun hframe => ?_⟩
  · rw [exec_frameReceived_of_running _ hrunning]
    simp only [signalsOf, List.map_cons, List.map_nil, State.receiveSignals, State.receiveSignal, characterOf_data,
      State.receiveByte_ignored hhunting hother, ite_self]
  · obtain ⟨k, hk, hfree⟩ := Link.freeBuffer_of_some hsome
    rw [exec_frameReceived_of_running _ hrunning, State.receiveSignals_signalsOf _ hhigh,
      State.receive_badLen hhunting hk hlong]
    have h := (s.keeping_lineEvent k [] (.expectLen (some k))).trans (State.framed_lineEvent (some k))
    have hbuffers : ((s.keeping k [] (.expectLen (some k))).framed (some k)).lnk.buffers = s.lnk.buffers :=
      (State.framed_buffers (some k)).trans (Store.erase_insert _ hfree)
    exact ⟨_, rfl, hstanding ▸ State.framed_latched (s := s.keeping k [] _) (some k), h.blocks, h.lists, h.msg, h.outside,
      State.framed_receiver _, hbuffers, h.arrival, h.replies, h.sending⟩
  · have h := s.framed_lineEvent s.lnk.receiver.buffer
    exact ⟨_, exec_gapTimeout_of_inFrame hrunning hframe, hstanding ▸ State.framed_latched _, h.blocks, h.lists, h.msg,
      h.outside, State.framed_receiver _, h.arrival, h.replies, h.sending, s.framed_ownBuffer⟩

end Sys2Proof.Machine
end

section
/-! The layouts of R175 read back what is written in them, and so do the frames of the requests (R163, R169). -/

namespace Sys2Proof.Machine

/-! ### Parts of bytes (R163) -/

@[simp] theorem halfOfBytes_bytesOfHalf (x : Half) : halfOfBytes (x.extractLsb' 8 8) (x.extractLsb' 0 8) = x :=
  (BitVec.extractLsb'_append_extractLsb'_eq_extractLsb' (show 8 = 0 + 8 from rfl)).trans BitVec.extractLsb'_eq_self

@[simp] theorem wordOfBytes_bytesOfWord (x : Word) :
    wordOfBytes (x.extractLsb' 24 8) (x.extractLsb' 16 8) (x.extractLsb' 8 8) (x.extractLsb' 0 8) = x := by
  unfold wordOfBytes
  rw [BitVec.extractLsb'_append_extractLsb'_eq_extractLsb' (show 24 = 16 + 8 from rfl),
    BitVec.extractLsb'_append_extractLsb'_eq_extractLsb' (show 16 = 8 + 8 from rfl),
    BitVec.extractLsb'_append_extractLsb'_eq_extractLsb' (show 8 = 0 + 8 from rfl)]
  exact BitVec.extractLsb'_eq_self

@[simp] theorem highNibble_byteOfNibbles (high low : Nibble) : highNibble (byteOfNibbles high low) = high :=
  BitVec.extractLsb'_append_eq_left

@[simp] theorem lowNibble_byteOfNibbles (high low : Nibble) : lowNibble (byteOfNibbles high low) = low :=
  BitVec.extractLsb'_append_eq_right

/-- The three bytes of a style read back (R2). -/
theorem styleOfBytes_bytes (y : Style) :
    styleOfBytes (byteOfNibbles y.f y.b) (byteOfNibbles y.up y.down) (byteOfNibbles y.stale y.alert) = y := by
  simp [styleOfBytes]

/-! ### Layouts that read back -/

/-- A reader gives back what its layout wrote, where the operand is one that the layout can carry, and sees a wrong length where
the rule does. -/
structure ReadsBack {α : Type} (read : List Byte → Carried α) (layout : α → List Byte) (agrees : List Byte → Bool)
    (admits : α → Bool) : Prop where
  fields : ∀ a, admits a = true → read (layout a) = .fields a
  length : ∀ bytes, agrees bytes = false → read bytes = .wrongLength bytes

/-- A well-formed payload is read back, its operand or its wrong length. -/
theorem ReadsBack.payload {α : Type} {read : List Byte → Carried α} {layout : α → List Byte} {agrees : List Byte → Bool}
    {admits : α → Bool} (h : ReadsBack read layout agrees admits) {p : Carried α} (hp : p.wellFormed agrees admits = true) :
    read (p.payload layout) = p := by
  cases p with
  | fields a => exact h.fields a hp
  | wrongLength bytes =>
    obtain ⟨-, hbytes⟩ := Bool.and_eq_true_iff.1 hp
    exact h.length bytes (by simpa using hbytes)

/-- A reader of a payload of fixed length. -/
def ReadsBackFixed {α : Type} (length : Nat) (read : List Byte → Carried α) (layout : α → List Byte) : Prop :=
  ReadsBack read layout (fun payload => payload.length == length) (fun _ => true)

/-- A reader that matches a list of fixed length reads back where it reads back what was written. -/
theorem ReadsBackFixed.of {α : Type} {length : Nat} {read : List Byte → Carried α} {layout : α → List Byte}
    (hfields : ∀ a, read (layout a) = .fields a)
    (hlength : ∀ bytes, bytes.length ≠ length → read bytes = .wrongLength bytes) : ReadsBackFixed length read layout :=
  ⟨fun a _ => hfields a, fun bytes h => hlength bytes (by simpa using h)⟩

theorem readEmpty_readsBack : ReadsBackFixed 0 readEmpty fun _ => [] := by
  refine .of (fun _ => rfl) fun bytes h => ?_
  unfold readEmpty
  split
  · exact absurd rfl h
  · rfl

theorem readByte_readsBack : ReadsBackFixed 1 readByte fun a => [a] := by
  refine .of (fun _ => rfl) fun bytes h => ?_
  unfold readByte
  split
  · exact absurd rfl h
  · rfl

theorem readHalf_readsBack : ReadsBackFixed 2 readHalf bytesOfHalf := by
  refine .of (fun x => ?_) fun bytes h => ?_
  · simp [bytesOfHalf, readHalf]
  · unfold readHalf
    split
    · exact absurd rfl h
    · rfl

theorem readConfigure_readsBack : ReadsBackFixed 6 readConfigure ConfigureFields.bytes := by
  refine .of (fun r => ?_) fun bytes h => ?_
  · simp [ConfigureFields.bytes, bytesOfHalf, readConfigure]
  · unfold readConfigure
    split
    · exact absurd rfl h
    · rfl

theorem readMode_readsBack : ReadsBackFixed 2 readMode fun r => [r.mode, r.level] := by
  refine .of (fun _ => rfl) fun bytes h => ?_
  unfold readMode
  split
  · exact absurd rfl h
  · rfl

theorem readFreeze_readsBack : ReadsBackFixed 2 readFreeze fun r => [r.limit, r.flags] := by
  refine .of (fun _ => rfl) fun bytes h => ?_
  unfold readFreeze
  split
  · exact absurd rfl h
  · rfl

theorem readDefine_readsBack : ReadsBackFixed 14 readDefine DefineFields.bytes := by
  refine .of (fun r => ?_) fun bytes h => ?_
  · simp [DefineFields.bytes, bytesOfHalf, Style.bytes, readDefine, styleOfBytes_bytes]
  · unfold readDefine
    split
    · exact absurd rfl h
    · rfl

theorem readRestyle_readsBack : ReadsBackFixed 8 readRestyle RestyleFields.bytes := by
  refine .of (fun r => ?_) fun bytes h => ?_
  · simp [RestyleFields.bytes, bytesOfHalf, Style.bytes, readRestyle, styleOfBytes_bytes]
  · unfold readRestyle
    split
    · exact absurd rfl h
    · rfl

theorem readLimits_readsBack : ReadsBackFixed 11 readLimits LimitFields.bytes := by
  refine .of (fun r => ?_) fun bytes h => ?_
  · simp [LimitFields.bytes, bytesOfHalf, bytesOfWord, readLimits]
  · unfold readLimits
    split
    · exact absurd rfl h
    · rfl

theorem readPost_readsBack : ReadsBackFixed 6 readPost PostFields.bytes := by
  refine .of (fun r => ?_) fun bytes h => ?_
  · simp [PostFields.bytes, bytesOfHalf, bytesOfWord, readPost]
  · unfold readPost
    split
    · exact absurd rfl h
    · rfl

theorem readCellRun_readsBack : ReadsBackFixed 3 readCellRun fun r => [r.row, r.column, r.count] := by
  refine .of (fun _ => rfl) fun bytes h => ?_
  unfold readCellRun
  split
  · exact absurd rfl h
  · rfl

theorem readText_readsBack : ReadsBack readText (fun r => bytesOfHalf r.number ++ r.glyphs)
    (fun payload => 2 ≤ payload.length) (fun r => r.glyphs.length ≤ 238) := by
  refine ⟨fun r _ => ?_, fun bytes h => ?_⟩
  · simp [bytesOfHalf, readText]
  · unfold readText
    split
    · simp at h
    · rfl

/-! ### Palettes and batches (R58, R95) -/

theorem coloursOfBytes_flatMap (colours : List Colour) : coloursOfBytes (colours.flatMap Colour.bytes) = some colours := by
  induction colours with
  | nil => rfl
  | cons c rest ih => simp [Colour.bytes, coloursOfBytes, ih]

theorem coloursOfBytes_length {bytes : List Byte} {colours : List Colour} (h : coloursOfBytes bytes = some colours) :
    bytes.length = 3 * colours.length := by
  induction bytes using coloursOfBytes.induct generalizing colours with
  | case1 =>
    obtain rfl := Option.some.inj h
    rfl
  | case2 r g b rest ih =>
    obtain ⟨more, hmore, rfl⟩ := Option.map_eq_some_iff.1 h
    rw [List.length_cons, List.length_cons, List.length_cons, List.length_cons, ih hmore]
    omega
  | case3 bytes hnil hcons => simp [coloursOfBytes] at h

theorem postsOfBytes_flatMap (entries : List PostFields) : postsOfBytes (entries.flatMap PostFields.bytes) = some entries := by
  induction entries with
  | nil => rfl
  | cons r rest ih => simp [PostFields.bytes, bytesOfHalf, bytesOfWord, postsOfBytes, ih]

theorem postsOfBytes_length {bytes : List Byte} {entries : List PostFields} (h : postsOfBytes bytes = some entries) :
    bytes.length = 6 * entries.length := by
  induction bytes using postsOfBytes.induct generalizing entries with
  | case1 =>
    obtain rfl := Option.some.inj h
    rfl
  | case2 n1 n2 v1 v2 v3 v4 rest ih =>
    obtain ⟨more, hmore, rfl⟩ := Option.map_eq_some_iff.1 h
    simp only [List.length_cons, ih hmore]
    omega
  | case3 bytes hnil hcons => simp [postsOfBytes] at h

/-- A count that a byte can carry, and is not 0, reads back. -/
theorem byteOfNat_count {n : Nat} (hone : 1 ≤ n) (hfits : n < 256) :
    (byteOfNat n != 0 && n == (byteOfNat n).toNat) = true := by
  have hvalue : (byteOfNat n).toNat = n := by
    rw [byteOfNat, BitVec.toNat_ofNat, Nat.mod_eq_of_lt hfits]
  have hnot : byteOfNat n ≠ 0 := by
    intro hzero
    have hn : n = 0 := by
      rw [← hvalue, hzero]
      rfl
    omega
  rw [hvalue, bne_iff_ne.2 hnot, beq_self_eq_true, Bool.and_self]

theorem readPalette_readsBack : ReadsBack readPalette PaletteFields.bytes paletteLengthAgrees
    (fun r => 1 ≤ r.colours.length && r.colours.length ≤ 79) := by
  refine ⟨fun r h => ?_, fun bytes h => ?_⟩
  · obtain ⟨hone, hmost⟩ : 1 ≤ r.colours.length ∧ r.colours.length ≤ 79 := by simpa using h
    simp only [PaletteFields.bytes, readPalette, coloursOfBytes_flatMap, byteOfNat_count hone (by omega), if_true]
  · unfold readPalette
    split
    · split
      · rename_i colours hcolours
        refine if_neg fun hcount => ?_
        simp_all [paletteLengthAgrees, coloursOfBytes_length hcolours]
      · rfl
    · rfl

theorem readBatch_readsBack : ReadsBack readBatch batchBytes batchLengthAgrees
    (fun entries => 1 ≤ entries.length && entries.length ≤ 39) := by
  refine ⟨fun entries h => ?_, fun bytes h => ?_⟩
  · obtain ⟨hone, hmost⟩ : 1 ≤ entries.length ∧ entries.length ≤ 39 := by simpa using h
    simp only [batchBytes, readBatch, postsOfBytes_flatMap, byteOfNat_count hone (by omega), if_true]
  · unfold readBatch
    split
    · split
      · rename_i entries hentries
        refine if_neg fun hcount => ?_
        simp_all [batchLengthAgrees, postsOfBytes_length hentries]
      · rfl
    · rfl

/-! ### ACK ALERT and the frames of no request (R144, R145, R169) -/

/-- The number 0xFFFF stands for ALL, and a number of ACK ALERT is another. -/
theorem readAck_payload (tag : Byte) {p : Carried Half}
    (hp : p.wellFormed (fun payload => payload.length == 2) (fun number => number != 0xFFFF) = true) :
    readAck tag (p.payload bytesOfHalf) = .ackAlert tag p := by
  have hread : readHalf (p.payload bytesOfHalf) = p :=
    readHalf_readsBack.payload (by cases p <;> simp_all [Carried.wellFormed])
  have hone : p.payload bytesOfHalf ≠ [0xFF, 0xFF] := by
    intro hall
    rw [hall] at hread
    subst hread
    exact absurd hp (by decide)
  rw [readAck, if_neg hone, hread]

theorem commandOfFrame_unknownType (straps : Straps) (type tag : Byte) (payload : List Byte)
    (h : requestCodes.contains type = false) :
    commandOfFrame straps (goodFrame type tag payload) = .unknownType type tag payload := by
  simp only [requestCodes, List.contains_eq_mem, List.mem_cons, List.not_mem_nil, or_false, decide_eq_false_iff_not,
    not_or, ← BitVec.toNat_inj] at h
  unfold commandOfFrame goodFrame
  dsimp only
  rw [if_pos rfl]
  split
  case h_26 => rfl
  all_goals simp_all

/-- Settles O5: every type's reader gives back what its layout wrote. -/
theorem frameOfRequestReadsBack : Obligations.FrameOfRequestReadsBack := by
  intro c f straps hc hf hlevels
  cases c <;> cases hf
  case identify.refl tag p => exact congrArg (Instr.identify tag) (readEmpty_readsBack.payload hc)
  case readStatus.refl tag p => exact congrArg (Instr.readStatus tag) (readEmpty_readsBack.payload hc)
  case configureDisplay.refl tag p => exact congrArg (Instr.configureDisplay tag) (readConfigure_readsBack.payload hc)
  case setPalette.refl tag p => exact congrArg (Instr.setPalette tag) (readPalette_readsBack.payload hc)
  case displayMode.refl tag p => exact congrArg (Instr.displayMode tag) (readMode_readsBack.payload hc)
  case selectPage.refl tag p => exact congrArg (Instr.selectPage tag) (readByte_readsBack.payload hc)
  case freeze.refl tag p => exact congrArg (Instr.freeze tag) (readFreeze_readsBack.payload hc)
  case thaw.refl tag p => exact congrArg (Instr.thaw tag) (readEmpty_readsBack.payload hc)
  case reset.refl tag p levels =>
    obtain rfl := hlevels tag p levels rfl
    exact congrArg (Instr.reset tag · levels) (readEmpty_readsBack.payload hc)
  case defineField.refl tag p => exact congrArg (Instr.defineField tag) (readDefine_readsBack.payload hc)
  case restyleField.refl tag p => exact congrArg (Instr.restyleField tag) (readRestyle_readsBack.payload hc)
  case setLimits.refl tag p => exact congrArg (Instr.setLimits tag) (readLimits_readsBack.payload hc)
  case deleteField.refl tag p => exact congrArg (Instr.deleteField tag) (readHalf_readsBack.payload hc)
  case readField.refl tag p => exact congrArg (Instr.readField tag) (readHalf_readsBack.payload hc)
  case post.refl tag p => exact congrArg (Instr.post tag) (readPost_readsBack.payload hc)
  case postBatch.refl tag p => exact congrArg (Instr.postBatch tag) (readBatch_readsBack.payload hc)
  case postText.refl tag p => exact congrArg (Instr.postText tag) (readText_readsBack.payload hc)
  case unhold.refl tag p => exact congrArg (Instr.unhold tag) (readHalf_readsBack.payload hc)
  case ackAlert.refl tag p => exact readAck_payload tag hc
  case ackAlertAll.refl tag => rfl
  case readAlerts.refl tag p => exact congrArg (Instr.readAlerts tag) (readEmpty_readsBack.payload hc)
  case readWatch.refl tag p => exact congrArg (Instr.readWatch tag) (readEmpty_readsBack.payload hc)
  case clearEvents.refl tag p => exact congrArg (Instr.clearEvents tag) (readHalf_readsBack.payload hc)
  case setNoticeMask.refl tag p => exact congrArg (Instr.setNoticeMask tag) (readHalf_readsBack.payload hc)
  case readFault.refl tag p => exact congrArg (Instr.readFault tag) (readEmpty_readsBack.payload hc)
  case readCells.refl tag p => exact congrArg (Instr.readCells tag) (readCellRun_readsBack.payload hc)
  case unknownType.refl type tag payload =>
    obtain ⟨htype, -⟩ := Bool.and_eq_true_iff.1 hc
    exact commandOfFrame_unknownType straps type tag payload (by simpa using htype)
  case badCheck.refl type tag payload => rfl

end Sys2Proof.Machine
end

section
/-! One step by what the queue holds (00_scope section 2). -/

namespace Sys2Proof.Machine

variable {s : State}

theorem step_of_pending_cons {c : Instr} {rest : List Instr} (h : s.pending = c :: rest) :
    step s = exec c { s with pending := rest } := by
  rw [step, h]

/-- That an empty queue idles is the model's choice (assumption log 8). -/
theorem step_of_pending_nil (h : s.pending = []) : step s = .next s := by
  rw [step, h]

/-- Settles O1, by the two cases of the queue: a command at its front, and none. -/
theorem stepRunsFrontCommand : Obligations.StepRunsFrontCommand :=
  ⟨fun _ _ _ => step_of_pending_cons, fun _ => step_of_pending_nil⟩

end Sys2Proof.Machine
end
